-- ==== Sys2Proof/Word.lean ====
section
/-! DEFINITION. The word types of the machine: the 40-bit register and data word (spec 10 R30, R33), the
128-bit program word (spec 30 R250), and the one accessor that reads a field of a program word. -/

namespace Sys2Proof

/-- A Register File register or a data memory word (R30, R151): 40 bits. -/
abbrev Word40 := BitVec 40

/-- A program memory word, one bundle (R250): 128 bits. -/
abbrev Bundle := BitVec 128

end Sys2Proof
end

