-- ==== Sys2Proof/Config.lean ====
section
/-! DEFINITION. What the spec leaves to the implementation: free values (opaque, no body) and the
parameters that spec 92 decides (plain definitions). -/

namespace Sys2Proof.Config

/-! ## Free values: parameters spec 92 section 1 marks OPEN -/

/-- FP_OVERFLOW_RESULT (R612, D11): the word delivered on overflow, by the result's sign. Free. DESIGN CHOICE (log 5). -/
opaque fpOverflowResult : Bool → BitVec 40

/-- FP_UNDERFLOW_RESULT (R612, D11): the word delivered on underflow, by the result's sign. Free. DESIGN CHOICE (log 5). -/
opaque fpUnderflowResult : Bool → BitVec 40

/-- NAN_PAYLOAD (R622, D11): sign and mantissa of a delivered NaN. Free; `Machine.nanWord` keeps it a NaN. -/
opaque nanSign : Bool
opaque nanMantissa : BitVec 31

/-- FP_DENORM_INPUT (R611, D11): the magnitude `m * 2^e` an operand word with e = 0 and m ≠ 0 is read as. Free. -/
opaque fpDenormInput : BitVec 40 → Nat × Int

/-- FTOI_OVERFLOW_RESULT (R619, D11): the 32-bit result when the value is out of range, by sign. Free. -/
opaque ftoiOverflow : Bool → BitVec 32

/-- FTOI_NAN_RESULT (R619, D11): the 32-bit result for a NaN operand. Free. -/
opaque ftoiNan : BitVec 32

/-- INVSEED (R580, D12): the seed delivered for an ordinary operand. Free. DESIGN CHOICE (log 6). -/
opaque invSeed : BitVec 40 → BitVec 40

/-- INVSQRTSEED (R580, D12): the seed delivered for an ordinary operand. Free. -/
opaque invSqrtSeed : BitVec 40 → BitVec 40

/-- Status events of the two seed generators (R580, D12): bit 0 inexact, 1 underflow, 2 overflow, 3 divide by zero,
4 invalid; `Machine.seedVal` adds those the spec fixes. Free. -/
opaque invSeedFlags : BitVec 40 → BitVec 5
opaque invSqrtSeedFlags : BitVec 40 → BitVec 5

/-- AGU_EXT_DECODE (R262, D40): the second ARF index y and the 16-bit immediate that the executing word holds
for unit 0 (`false`) or 1 (`true`). Free. DESIGN CHOICE (log 9). -/
opaque aguExt : BitVec 128 → Bool → BitVec 4 × BitVec 16

/-- AGU_EXT_DECODE (R332, D40): the issues that unit 0 or 1 inhibits when its operation takes extra
operands, one bit each: bit 0 ADD, 1 AGU1, 2 MUL, 3 AGU0 (R332 never names the FLOW issue). Free. DESIGN CHOICE (log 9). -/
opaque aguExtInhibits : BitVec 128 → Bool → BitVec 4

/-- The n-th value the machine leaves unspecified: a read of a write-only register (R111, U6), a register that
a movement and an operation write together. Free. DESIGN CHOICE (log 10). -/
opaque freeWord : Nat → BitVec 40

/-! ## Parameters spec 92 decides (R7, log 25). AHB_CLOCK_RATIO, EXT_MEMORY and PMU_MISS_CYCLES are the environment's
(log 28). -/

/-- DECOMPRESSOR (D1): off. -/
def decompressor : Bool := false
/-- BRANCH_DELAY_SLOTS (D2): the bundles that execute between a taken transfer and its target; any value works. -/
def branchDelaySlots : Nat := 0

/-- INT_OVERFLOW_RESULT: what an integer result out of range becomes. -/
inductive IntOverflow where
  | wrap | saturate
  deriving DecidableEq, Repr

/-- INT_OVERFLOW_RESULT (D8). -/
def intOverflowResult : IntOverflow := .wrap
/-- INT_RESULT_MSB: what bits 39:32 of an integer result become, 0 or the old bits of the operand S1 or of the destination (R630). -/
inductive IntMsb where
  | zero | operand | destination
  deriving DecidableEq, Repr

/-- INT_RESULT_MSB (D9). -/
def intResultMsb : IntMsb := .zero

/-- ROUND_TIES: where a value half way between two mantissas goes. -/
inductive RoundTies where
  | even | away | zero
  deriving DecidableEq, Repr

/-- ROUND_TIES (D10). -/
def roundTies : RoundTies := .even

/-- AGU_RESULT_DELAY (D5). -/
def aguResultDelay : Nat := 1
/-- Latency of ADD results (R382, R1210). -/
def addDelay : Nat := 3
/-- FLAG_DELAY_ADD (D6): delay of the flags of the ADD issue, fpucond0, fpucond1 and the sticky flags (R382). -/
def flagDelayAdd : Nat := 3
/-- Latency of scalar and vector MUL results (R1210). -/
def mulDelay : Nat := 3
/-- Latency of complex products (R1210). -/
def complexMulDelay : Nat := 5
/-- STACK_POP_FILL (D14): the bit a pop shifts in at position 15. -/
def stackPopFill : BitVec 1 := 0
/-- ENCODE_NOT_FOUND (D46). -/
def encodeNotFound : BitVec 16 := 0

end Sys2Proof.Config
end

