-- ==== Sys2Proof/Machine/State.lean ====
section
/-! DEFINITION. The machine's state as plain data (spec 10 and the hidden state of spec 10 section 10), the
reasons a step can stop, and the state after reset. -/

namespace Sys2Proof.Machine

/-! ## Names -/

/-- The two Address Generation Units (R670). -/
inductive AguUnit where
  | agu0 | agu1
  deriving DecidableEq, Repr

/-- The five issues of a bundle (R250). -/
inductive Issue where
  | add | agu1 | mul | agu0 | flow
  deriving DecidableEq, Repr

/-- The exceptions of MGCEXCEPTION (R58, R1121). -/
inductive Exc where
  | badin | badout | divzero | addunkn | agu0ovf | agu0pty | agu0aovf | agu1ovf | agu1pty | agu1aovf
  | slverr | msterr | softex | ctrlockex | rwagu0 | rwagu1 | writerf7 | writerf5 | writearf | writeflow
  | writedma | agu0ukn | agu1ukn | ptyerr | rtierr | dblwrite | pagefree | mulunkn | dmabusy
  deriving DecidableEq, Repr

/-- The four Register File write ports (R31). -/
inductive RfPort where
  | p4 | p5 | p6 | p7
  deriving DecidableEq, Repr

/-- The four data memory ports (R152): DMA engine, AGU0, AHB slave, AGU1. -/
inductive MemPort where
  | p0a | p0b | p1a | p1b
  deriving DecidableEq, Repr

/-! ## Registers -/

/-- One 64-bit ARF register (R36). -/
structure Arf where
  s : BitVec 16
  l : BitVec 16
  a : BitVec 16
  m : BitVec 16
  deriving DecidableEq, Repr

/-- The FLOW registers that are plain words (R40 to R51, R57 to R61). -/
structure Regs where
  /-- MGCPC (R40) -/
  pc : BitVec 16
  /-- MGCSTK (R41) -/
  stk : BitVec 16
  /-- MGCBRANCH (R42) -/
  branch : BitVec 16
  /-- MGCREPEAT (R43) -/
  rept : BitVec 32
  /-- MGCLOOPCNT (R44) -/
  loopcnt : BitVec 32
  /-- MGCLOOPLEN (R45) -/
  looplen : BitVec 32
  /-- General Purpose registers at 0x11, 0x12, 0x13 (R46) -/
  gp0 : BitVec 32
  gp1 : BitVec 32
  gp2 : BitVec 32
  /-- MGCCONDITION (R48); bits 11, 14 and 15 are held 0 here, bit 11 is read from MGCLOOPCNT -/
  cond : BitVec 16
  /-- MGCSTKIQ (R49) -/
  stkiq : BitVec 32
  /-- MGCPRED (R50); bit 15 is held 0 -/
  pred : BitVec 16
  /-- MGCSTIKY0, MGCSTIKY1 (R51) -/
  sticky0 : BitVec 32
  sticky1 : BitVec 32
  /-- MGCEXCEPTION (R58) -/
  exception : BitVec 32
  /-- MGCMASK (R57) -/
  mask : BitVec 32
  /-- MGCSTEP, the tick counter (R59) -/
  tick : BitVec 32
  /-- MGCWATCH (R60) -/
  watch : BitVec 16
  /-- MGCMUTXCTRLSTAT (R61): locked and owner bits -/
  mutexLocked : BitVec 16
  mutexOwner : BitVec 16
  deriving DecidableEq, Repr

/-- The bits of MGCSTAT that are state (R56), and the hidden mode state (R1060, R124). sleep, run, debug,
exception, extdbgreq, intdbgreq and clken are computed when MGCSTAT is read. -/
structure Mode where
  start : Bool
  step : Bool
  interrupt : Bool
  halt : Bool
  ct : Bool
  stop : Bool
  brk : Bool
  watch : Bool
  gbreak : Bool
  decopen : Bool
  pmuen : Bool
  softpipe : Bool
  pty2break : Bool
  pmcheck : Bool
  rptsingle : Bool
  lock : Bool
  allfatal : Bool
  nonefatal : Bool
  tickovf : Bool
  intovfen : Bool
  watchen : Bool
  ticken : Bool
  stepreq : Bool
  /-- hidden: the core is asleep (R1060, R1100) -/
  asleep : Bool
  /-- hidden: MAXSTAGE of the last swpipe ON (R124) -/
  maxstage : BitVec 3
  deriving DecidableEq, Repr

/-- Interrupt and wake-up registers (R70 to R79). -/
structure Ints where
  /-- MGCINTSVR0..7 (R70) -/
  svr : Vector (BitVec 16) 8
  /-- MGCINTMASK (R71) -/
  mask : BitVec 16
  /-- MGCINTSTAT pend, en, sh-edge (R72) -/
  pend : BitVec 8
  en : BitVec 8
  shedge : BitVec 8
  /-- MGCINTGSTAT shpend and shsave (R73), bit j for shared line j -/
  shpend : BitVec 8
  shsave : BitVec 8
  /-- MGCINTRET (R76) -/
  ret : BitVec 16
  /-- MGCINTPRIO (R77) -/
  prio : BitVec 24
  /-- MGCWAKESTAT (R79): interrupt enables and events, EOT enables and events -/
  wakeInt : BitVec 8
  wakeIntEv : BitVec 8
  wakeEot : BitVec 4
  wakeEotEv : BitVec 4
  deriving DecidableEq, Repr

/-- One DMA channel: its eight registers (R85 to R93) and its hidden state (R122). -/
structure DmaChan where
  extAdd : BitVec 32
  extCirc : BitVec 24
  extMod : BitVec 16
  intAdd : BitVec 16
  intCirc : BitVec 16
  intMod : BitVec 16
  len : BitVec 16
  seg : BitVec 4
  busy : Bool
  /-- direction of the requested transfer: true for a DMA read (AHB to internal memory) -/
  isRead : Bool
  prsvInt : Bool
  prsvExt : Bool
  /-- the shadow addresses when the channel last ended a transfer; none before the first one and after an abort (R1005) -/
  savedExt : Option (BitVec 32)
  savedInt : Option (BitVec 20)
  deriving DecidableEq, Repr

/-- What the DMA engine moves: a channel's own transfer, or the PMU's chunk load, which is a channel 3 transfer (R972). -/
inductive Transfer where
  | channel (x : BitVec 2)
  | chunk
  deriving DecidableEq, Repr

/-- The DMA engine (R94 to R96, R122). -/
structure Dma where
  chans : Vector DmaChan 4
  active : BitVec 2
  /-- the transfer that runs (RUNx) -/
  running : Option Transfer
  err : Bool
  eot : BitVec 4
  lock : Bool
  curLen : BitVec 16
  curExt : BitVec 32
  curInt : BitVec 20
  /-- which AHB word of the internal word comes next (R1006) -/
  part : BitVec 2
  deriving DecidableEq, Repr

/-- A PMU chunk load in progress (R970, R972, R980); the shadow registers of the DMA engine hold how far it is. -/
structure PmuJob where
  va : BitVec 16
  page : BitVec 3
  pageFault : Bool
  prefetch : Bool
  /-- its request stands at DMA channel 3; false once an abort of the channel has withdrawn it (R1011) -/
  asked : Bool
  deriving DecidableEq, Repr

/-- The PMU (R100 to R108, R125). -/
structure Pmu where
  virt : Vector (BitVec 6) 64
  mapped : Vector (BitVec 32) 8
  faultAdd : BitVec 16
  extAdd : BitVec 12
  maskPrefetch : Bool
  missCnt : BitVec 32
  physPt : BitVec 3
  job : Option PmuJob
  /-- the address of the stalled fetch whose miss has been recorded (R970) -/
  missAt : Option (BitVec 16)
  deriving DecidableEq, Repr

/-! ## Pipeline state -/

/-- What a pending-write entry does when it lands (R336). -/
inductive Effect where
  /-- Register File writes through one port -/
  | rf (port : RfPort) (writes : List (BitVec 8 × Word40))
  /-- a scalar movement toward a first-bank register; `soon` when its latency is 1 (R1082) -/
  | move (a : BitVec 7) (v : Word40) (soon : Bool)
  /-- a vector movement toward the four fields of an ARF register -/
  | moveArf (k : BitVec 4) (v0 v1 : Word40)
  /-- an AGU result toward an A field -/
  | aguA (u : AguUnit) (k : BitVec 4) (v : BitVec 16)
  /-- an AGU result toward TMP0 or TMP1 -/
  | aguTmp (u : AguUnit) (v : BitVec 16)
  /-- flag bits of MGCCONDITION: the bits of `mask` take those of `val` -/
  | cond (mask val : BitVec 16)
  /-- status flags of path 0 (`false`) or 1 -/
  | sticky (path : Bool) (flags : BitVec 32)
  /-- a condition stack operation -/
  | stkiq (v : BitVec 32)
  /-- bits of MGCPRED -/
  | pred (mask val : BitVec 16)
  /-- the link register of a call -/
  | stk (v : BitVec 16)
  /-- repb -/
  | rept (v : BitVec 32)
  /-- swpipe ON or OFF: the new MGCLOOPLEN and MGCLOOPCNT -/
  | swpipe (on : Bool) (maxstage : BitVec 3) (v : BitVec 32)
  deriving DecidableEq, Repr

/-- An entry of the pending-write list: `delay` core steps from now the effect lands. -/
structure Pend where
  delay : Nat
  eff : Effect
  deriving DecidableEq, Repr

/-- Destination of a memory read (R682, R683). -/
inductive ReadDest where
  /-- elements enabled for the RF register or pair at n -/
  | rf (port : RfPort) (n : BitVec 8) (c0 c1 : Bool)
  | first (a : BitVec 7)
  | arf (k : BitVec 4)
  deriving DecidableEq, Repr

/-- A scheduled access of a core memory port (R338). -/
inductive PortOp where
  | read (addr : BitVec 16) (vec : Bool) (dest : ReadDest)
  /-- elements at addr and addr+1; none for an element that is not stored -/
  | write (addr : BitVec 16) (e0 e1 : Option Word40)
  deriving DecidableEq, Repr

structure PortEntry where
  unit : AguUnit
  delay : Nat
  op : PortOp
  deriving DecidableEq, Repr

/-- The output of the MUL or ADD operation of the executing bundle, as a store takes it (R686). -/
structure OpOut where
  vec : Bool
  lat : Nat
  e0 : Option Word40
  e1 : Option Word40
  deriving DecidableEq, Repr

/-- An access a port made in this clock cycle, with the word's value before it (R188, R189). -/
structure Access where
  port : MemPort
  addr : Nat
  write : Bool
  old : Word40
  deriving DecidableEq, Repr

/-- What a bundle did to the flow of the program: its transfer and the interrupt line it serves. -/
structure Turn where
  target : Option (BitVec 16)
  line : Option (Fin 8)
  deriving DecidableEq, Repr

/-! ## The environment (R5, R1080, R171, R181) -/

/-- The AHB's answer to one 32-bit word of the AHB master. -/
structure BusReply where
  rdata : BitVec 32
  ok : Bool
  deriving DecidableEq, Repr

/-- An access of the external master to the AHB slave port (R171, R178). -/
structure SlaveAccess where
  addr : BitVec 32
  /-- the data of a write; none for a read -/
  wdata : Option (BitVec 32)
  /-- the transfer is 32 bits wide -/
  word : Bool
  deriving DecidableEq, Repr

/-- What the outside world does in one clock cycle. DESIGN CHOICE (log 27). -/
structure CycleIn where
  /-- new levels of LINESH0..7 -/
  shared : Option (BitVec 8)
  /-- events on line2 and line3 -/
  line2 : Bool
  line3 : Bool
  /-- new level of dbg_req_from_arm -/
  dbgReq : Option Bool
  /-- the AHB's answers to the words the AHB master moves in this cycle, in their order -/
  bus : List BusReply
  slave : Option SlaveAccess
  /-- the chip reset input (R1200) -/
  reset : Bool
  deriving DecidableEq, Repr

/-- What the machine shows the outside world in one clock cycle. -/
inductive Out where
  | sirq0
  | sirq1
  | slaveOk
  | slaveData (d : BitVec 32)
  | slaveError
  | busWrite (addr data : BitVec 32)
  | busRead (addr : BitVec 32)
  deriving DecidableEq, Repr

/-- A quiet clock cycle. -/
def CycleIn.quiet : CycleIn :=
  { shared := none, line2 := false, line3 := false, dbgReq := none, bus := [], slave := none, reset := false }

/-! ## The state -/

/-- Memory contents: listed bytes by AHB slave byte address. -/
abbrev Mem := List Host.Cell

/-- The whole machine. -/
structure State where
  /-- the Register File (R30) -/
  rf : Vector Word40 256
  /-- the Address Register File (R36) -/
  arf : Vector Arf 16
  /-- TMP0 and TMP1 (R37) -/
  tmp0 : BitVec 16
  tmp1 : BitVec 16
  regs : Regs
  mode : Mode
  ints : Ints
  dma : Dma
  pmu : Pmu
  /-- program and data memory, by AHB slave byte address (R172, R175) -/
  mem : Mem
  /-- program words whose parity is wrong (R126), rising -/
  badParity : List Nat
  /-- the word last fetched, which executes; MGCVLIW reads it only while the word at MGCPC is not in program memory (R63, log 26) -/
  vliw : Bundle
  /-- the pending-write list (R120, R336) -/
  pend : List Pend
  /-- the memory port schedule (R338) -/
  ports : List PortEntry
  /-- the outputs of the executing bundle's MUL and ADD operations (R686) -/
  mulOut : Option OpOut
  addOut : Option OpOut
  /-- the target of the executing bundle's control transfer (R334 case 3) -/
  npc : Option (BitVec 16)
  /-- the executing bundle holds an enabled interrupt service point (R903) -/
  svc : Bool
  /-- what the last BRANCH_DELAY_SLOTS bundles did to the flow, the latest first: none for the value 0 of D2 (R7) -/
  turns : List Turn
  /-- this core step's landing is done, its fetch is stalled (R331) -/
  landed : Bool
  /-- the interrupt registers as this core step's service point sees them, where a movement toward one of them has landed in it
  one cycle after its issue: the next bundle is the first to see it (R1082). Only what R1090 and R1092 read of them counts. -/
  held : Option Ints
  /-- MGCSTEP was written by a core movement in this clock cycle (R1068) -/
  tickWritten : Bool
  /-- a software reset landed in this core step (R1201) -/
  resetNow : Bool
  /-- read-and-clear registers the executing bundle has read: MGCEXCEPTION, MGCSTIKY0, MGCSTIKY1 (R51, R58) -/
  clears : BitVec 3
  /-- exceptions raised in this clock cycle (R1123) -/
  raised : BitVec 32
  /-- levels of LINESH0..7 (R123) and of dbg_req_from_arm -/
  lineSh : BitVec 8
  dbgReq : Bool
  /-- memory port accesses of this clock cycle -/
  acc : List Access
  /-- the environment: what the outside does in the coming clock cycles -/
  env : List CycleIn
  /-- what it does in this one -/
  inp : CycleIn
  /-- what the machine shows in this one -/
  out : List Out
  /-- MODEL: how many free values have been drawn -/
  free : Nat
  deriving DecidableEq, Repr

/-! ## How a step stops -/

/-- Faults: the spec calls the result undefined and names no value (spec 93, treatment "fault"). -/
inductive Fault where
  /-- U17 (R341): a scalar operation under a predication register with C0 ≠ C1. Raised by gating. Safe. -/
  | scalarPredicate
  /-- U1 (R34, R337): two ports write different data to one RF register in one cycle. Raised by landing. Safe. -/
  | rfDoubleWrite
  /-- U11 (R189): simultaneous accesses to one data word that are not allowed. Raised by the memory ports. Safe. -/
  | sameWordAccess
  /-- U25 (R1005): a preserve-mode transfer before the channel's first transfer or after an abort. Raised by the DMA engine. Safe. -/
  | preserveUndefined
  deriving DecidableEq, Repr

/-- Refusals: the spec gives the program or the host action no meaning (spec 93, treatment "refuse"). -/
inductive Refusal where
  /-- An instruction the model gives no meaning yet. Raised by Dispatch only. Safe. -/
  | notModelled (mnemonic : String)
  /-- U2: a vector movement of a first-bank address outside 0x14..0x23. Raised by FLOW and AGU0 movements. Safe. -/
  | vectorFirstBank
  /-- U3: a predicate-setting operation with predmode 4..7. Raised by them. Safe. -/
  | predmodeUndefined
  /-- U3: setnotp naming predication register 3. Raised by setnotp. Safe. -/
  | setnotpRegister
  /-- U4: both bits of a set/clear pair. Raised by control register writes, and by PMUCTL writes (log 36). Safe. -/
  | controlPair
  /-- U5: MGCDMAINTSEG not one-hot at a transfer start. Raised by the DMA engine. Safe. -/
  | dmaSegment
  /-- U9: a fetch above 0x1FFF with the PMU off. Raised by fetch. Safe. -/
  | fetchRange
  /-- U10: two delayed writes on one core memory port. Raised by landing. Safe. -/
  | twoPortWrites
  /-- U12: a program word near a running pc is written. Raised by slave and DMA writes. Safe. -/
  | programNearPc
  /-- U13: an odd RF address for a pair. Raised by operand access. Safe. -/
  | oddPair
  /-- U14: a jump type with several bits or a reserved bit. Raised by jumps. Safe. -/
  | jumpType
  /-- U15: pmucmd 0 or 3. Raised by pmucmd. Safe. -/
  | pmuCommand
  /-- U16, R296: a FLOW code with no description that executes. Raised by the step. Safe. -/
  | flowCode
  /-- U18: a store with no producer result. Raised by AGU stores. Safe. -/
  | storeNoProducer
  /-- U19: two writers of one A field land together. Raised by landing. Safe. -/
  | arfFieldTwice
  /-- U20: transfer type 01 as a destination. Raised by movements and AGU0 reads. Safe. -/
  | transferType
  /-- U21: a movement between registers that the source excludes. Raised by movements. Safe. -/
  | movementClass
  /-- U21: a core movement toward MGCPC. Raised by landing. Safe. -/
  | movePc
  /-- U21: a movement toward MGCSTKIQ lands with a stack operation. Raised by landing. Safe. -/
  | moveStkiq
  /-- U22: swpipe ON inside an interrupt service routine. Raised by swpipe. Safe. -/
  | swpipeInIsr
  /-- U22: sleep near a page end with the PMU on. Raised by sleepon, writedma, readdma. Safe. -/
  | sleepPageEnd
  /-- U23: channel 3 used, or abortall during a chunk load, with the PMU on. Raised by DMA writes. Safe. -/
  | dmaChannel3
  | abortallPmu
  /-- U24: a DMA internal address, modifier or length that is not described. Raised by the DMA engine. Safe. -/
  | dmaInternal
  /-- U24: chgchan with an action bit. Raised by MGCDMACTRL writes. Safe. -/
  | dmaCtrlMix
  /-- U25: a software reset while a channel is busy, a PMU chunk load (R972) included. Raised by MGCCTRL writes. Safe. -/
  | resetBusy
  /-- U26: start while not in debug state. Raised by MGCCTRL writes. Safe. -/
  | startRunning
  /-- U26: allfatal with nonefatal. Raised by MGCCTRL writes. Safe. -/
  | fatalBoth
  /-- D1 (R300): decompon. Raised by MGCCTRL writes. Safe. -/
  | decompressor
  deriving DecidableEq, Repr

/-! ## Reset (R130, R131, R1200) -/

def Arf.reset : Arf := { s := 0, l := 0, a := 0, m := 0 }

def Regs.reset : Regs :=
  { pc := 0, stk := 0, branch := 0, rept := 0, loopcnt := 0, looplen := 0, gp0 := 0, gp1 := 0, gp2 := 0,
    cond := 0, stkiq := 0, pred := 0x007, sticky0 := 0, sticky1 := 0, exception := 0, mask := 0, tick := 0,
    watch := 0xFFFF, mutexLocked := 0, mutexOwner := 0 }

/-- MGCSTAT = 0x00000204: stopped, in debug state. -/
def Mode.reset : Mode :=
  { start := false, step := false, interrupt := false, halt := false, ct := false, stop := true,
    brk := false, watch := false, gbreak := false, decopen := false, pmuen := false, softpipe := false,
    pty2break := false, pmcheck := false, rptsingle := false, lock := false, allfatal := false,
    nonefatal := false, tickovf := false, intovfen := false, watchen := false, ticken := false,
    stepreq := false, asleep := false, maxstage := 0 }

def Ints.reset : Ints :=
  { svr := Vector.replicate 8 0, mask := 0xFFFF, pend := 0, en := 0, shedge := 0, shpend := 0, shsave := 0,
    ret := 0, prio := 0, wakeInt := 0, wakeIntEv := 0, wakeEot := 0, wakeEotEv := 0 }

def DmaChan.reset : DmaChan :=
  { extAdd := 0, extCirc := 0, extMod := 0, intAdd := 0, intCirc := 0, intMod := 0, len := 0, seg := 0,
    busy := false, isRead := false, prsvInt := false, prsvExt := false, savedExt := none, savedInt := none }

def Dma.reset : Dma :=
  { chans := Vector.replicate 4 DmaChan.reset, active := 0, running := none, err := false, eot := 0,
    lock := false, curLen := 0, curExt := 0, curInt := 0, part := 0 }

def Pmu.reset : Pmu :=
  { virt := Vector.replicate 64 0, mapped := Vector.replicate 8 0, faultAdd := 0, extAdd := 0x200,
    maskPrefetch := false, missCnt := 0, physPt := 7, job := none, missAt := none }

/-- The machine right after a hard reset, in a world that does nothing. Registers without a reset value, and the right parity of
every program word (R126): DESIGN CHOICE (log 1). -/
def State.reset : State :=
  { rf := Vector.replicate 256 0, arf := Vector.replicate 16 Arf.reset, tmp0 := 0, tmp1 := 0,
    regs := Regs.reset, mode := Mode.reset, ints := Ints.reset, dma := Dma.reset, pmu := Pmu.reset,
    mem := [], badParity := [], vliw := 0, pend := [], ports := [], mulOut := none, addOut := none,
    npc := none, svc := false, turns := [], landed := false, held := none, tickWritten := false, resetNow := false, clears := 0, raised := 0,
    lineSh := 0, dbgReq := false, acc := [], env := [], inp := CycleIn.quiet, out := [], free := 0 }

end Sys2Proof.Machine
end

