-- ==== Sys2Proof/Syntax.lean ====
section
/-! DEFINITION. The instructions: one constructor per row of spec/opcode_table.json (spec 30 R311), its fields the
operand fields of the row. `p` is the issue's 2-bit predication field (R253). -/

namespace Sys2Proof

/-- One operation of one issue. -/
inductive Instr where
  -- ADD issue (R254 to R256)
  | cfaddPP (p : BitVec 2) (d s1 s2 : BitVec 8)
  | cfaddPN (p : BitVec 2) (d s1 s2 : BitVec 8)
  | cfaddNN (p : BitVec 2) (d s1 s2 : BitVec 8)
  | cfaddNP (p : BitVec 2) (d s1 s2 : BitVec 8)
  | cfjaddPP (p : BitVec 2) (d s1 s2 : BitVec 8)
  | cfjaddPN (p : BitVec 2) (d s1 s2 : BitVec 8)
  | cfjaddNN (p : BitVec 2) (d s1 s2 : BitVec 8)
  | cfjaddNP (p : BitVec 2) (d s1 s2 : BitVec 8)
  | cjjaddPP (p : BitVec 2) (d s1 s2 : BitVec 8)
  | cjjaddPN (p : BitVec 2) (d s1 s2 : BitVec 8)
  | cjjaddNN (p : BitVec 2) (d s1 s2 : BitVec 8)
  | cjjaddNP (p : BitVec 2) (d s1 s2 : BitVec 8)
  | cfraddPP (p : BitVec 2) (d s1 s2 : BitVec 8)
  | cfraddPN (p : BitVec 2) (d s1 s2 : BitVec 8)
  | cfraddNN (p : BitVec 2) (d s1 s2 : BitVec 8)
  | cfraddNP (p : BitVec 2) (d s1 s2 : BitVec 8)
  | ciaddPP (p : BitVec 2) (d s1 s2 : BitVec 8)
  | ciaddPN (p : BitVec 2) (d s1 s2 : BitVec 8)
  | ciaddNN (p : BitVec 2) (d s1 s2 : BitVec 8)
  | ciaddNP (p : BitVec 2) (d s1 s2 : BitVec 8)
  | cijaddPP (p : BitVec 2) (d s1 s2 : BitVec 8)
  | cijaddPN (p : BitVec 2) (d s1 s2 : BitVec 8)
  | cijaddNN (p : BitVec 2) (d s1 s2 : BitVec 8)
  | cijaddNP (p : BitVec 2) (d s1 s2 : BitVec 8)
  | cijjaddPP (p : BitVec 2) (d s1 s2 : BitVec 8)
  | cijjaddPN (p : BitVec 2) (d s1 s2 : BitVec 8)
  | cijjaddNN (p : BitVec 2) (d s1 s2 : BitVec 8)
  | cijjaddNP (p : BitVec 2) (d s1 s2 : BitVec 8)
  | ciraddPP (p : BitVec 2) (d s1 s2 : BitVec 8)
  | ciraddPN (p : BitVec 2) (d s1 s2 : BitVec 8)
  | ciraddNN (p : BitVec 2) (d s1 s2 : BitVec 8)
  | ciraddNP (p : BitVec 2) (d s1 s2 : BitVec 8)
  | vfabsaddPP (p : BitVec 2) (d s1 s2 : BitVec 8)
  | vfabsaddPN (p : BitVec 2) (d s1 s2 : BitVec 8)
  | vfabsaddNN (p : BitVec 2) (d s1 s2 : BitVec 8)
  | vfabsaddNP (p : BitVec 2) (d s1 s2 : BitVec 8)
  | viabsaddPP (p : BitVec 2) (d s1 s2 : BitVec 8)
  | viabsaddPN (p : BitVec 2) (d s1 s2 : BitVec 8)
  | viabsaddNN (p : BitVec 2) (d s1 s2 : BitVec 8)
  | viabsaddNP (p : BitVec 2) (d s1 s2 : BitVec 8)
  | vfaddsub (p : BitVec 2) (d1 d2 s1 s2 : BitVec 8)
  | faddPP (p : BitVec 2) (d s1 s2 : BitVec 8)
  | faddPN (p : BitVec 2) (d s1 s2 : BitVec 8)
  | faddNN (p : BitVec 2) (d s1 s2 : BitVec 8)
  | faddNP (p : BitVec 2) (d s1 s2 : BitVec 8)
  | faddsub (p : BitVec 2) (d1 d2 s1 s2 : BitVec 8)
  | iaddPP (p : BitVec 2) (d s1 s2 : BitVec 8)
  | iaddPN (p : BitVec 2) (d s1 s2 : BitVec 8)
  | iaddNN (p : BitVec 2) (d s1 s2 : BitVec 8)
  | iaddNP (p : BitVec 2) (d s1 s2 : BitVec 8)
  | iaddsub (p : BitVec 2) (d1 d2 s1 s2 : BitVec 8)
  | fabsaddPP (p : BitVec 2) (d s1 s2 : BitVec 8)
  | fabsaddPN (p : BitVec 2) (d s1 s2 : BitVec 8)
  | fabsaddNN (p : BitVec 2) (d s1 s2 : BitVec 8)
  | fabsaddNP (p : BitVec 2) (d s1 s2 : BitVec 8)
  | iabsaddPP (p : BitVec 2) (d s1 s2 : BitVec 8)
  | iabsaddPN (p : BitVec 2) (d s1 s2 : BitVec 8)
  | iabsaddNN (p : BitVec 2) (d s1 s2 : BitVec 8)
  | iabsaddNP (p : BitVec 2) (d s1 s2 : BitVec 8)
  | vfmin (p : BitVec 2) (d s1 s2 : BitVec 8)
  | vimin (p : BitVec 2) (d s1 s2 : BitVec 8)
  | vfmax (p : BitVec 2) (d s1 s2 : BitVec 8)
  | vimax (p : BitVec 2) (d s1 s2 : BitVec 8)
  | vfminmax (p : BitVec 2) (d1 d2 s1 s2 : BitVec 8)
  | viminmax (p : BitVec 2) (d1 d2 s1 s2 : BitVec 8)
  | vswap (p : BitVec 2) (d1 d2 s1 s2 : BitVec 8)
  | fmin (p : BitVec 2) (d s1 s2 : BitVec 8)
  | imin (p : BitVec 2) (d s1 s2 : BitVec 8)
  | fmax (p : BitVec 2) (d s1 s2 : BitVec 8)
  | imax (p : BitVec 2) (d s1 s2 : BitVec 8)
  | fminmax (p : BitVec 2) (d1 d2 s1 s2 : BitVec 8)
  | iminmax (p : BitVec 2) (d1 d2 s1 s2 : BitVec 8)
  | fsel (p : BitVec 2) (d s1 s2 : BitVec 8)
  | isel (p : BitVec 2) (d s1 s2 : BitVec 8)
  | swap (p : BitVec 2) (d1 d2 s1 s2 : BitVec 8)
  | viaddsub (p : BitVec 2) (d1 d2 s1 s2 : BitVec 8)
  | addNop (p : BitVec 2)
  | cfeq (p : BitVec 2) (s1 s2 : BitVec 8)
  | cfne (p : BitVec 2) (s1 s2 : BitVec 8)
  | vfeq (p : BitVec 2) (s1 s2 : BitVec 8)
  | vflt (p : BitVec 2) (s1 s2 : BitVec 8)
  | vfgt (p : BitVec 2) (s1 s2 : BitVec 8)
  | vfle (p : BitVec 2) (s1 s2 : BitVec 8)
  | vfge (p : BitVec 2) (s1 s2 : BitVec 8)
  | vfne (p : BitVec 2) (s1 s2 : BitVec 8)
  | vieq (p : BitVec 2) (s1 s2 : BitVec 8)
  | vilt (p : BitVec 2) (s1 s2 : BitVec 8)
  | vigt (p : BitVec 2) (s1 s2 : BitVec 8)
  | vile (p : BitVec 2) (s1 s2 : BitVec 8)
  | vige (p : BitVec 2) (s1 s2 : BitVec 8)
  | vine (p : BitVec 2) (s1 s2 : BitVec 8)
  | feq (p : BitVec 2) (s1 s2 : BitVec 8)
  | flt (p : BitVec 2) (s1 s2 : BitVec 8)
  | fgt (p : BitVec 2) (s1 s2 : BitVec 8)
  | fle (p : BitVec 2) (s1 s2 : BitVec 8)
  | fge (p : BitVec 2) (s1 s2 : BitVec 8)
  | fne (p : BitVec 2) (s1 s2 : BitVec 8)
  | ieq (p : BitVec 2) (s1 s2 : BitVec 8)
  | ilt (p : BitVec 2) (s1 s2 : BitVec 8)
  | igt (p : BitVec 2) (s1 s2 : BitVec 8)
  | ile (p : BitVec 2) (s1 s2 : BitVec 8)
  | ige (p : BitVec 2) (s1 s2 : BitVec 8)
  | ine (p : BitVec 2) (s1 s2 : BitVec 8)
  | cieq (p : BitVec 2) (s1 s2 : BitVec 8)
  | cine (p : BitVec 2) (s1 s2 : BitVec 8)
  -- MUL issue (R257, R258)
  | cfmulP (p : BitVec 2) (d s1 s2 : BitVec 8)
  | cfmulN (p : BitVec 2) (d s1 s2 : BitVec 8)
  | cfjmulP (p : BitVec 2) (d s1 s2 : BitVec 8)
  | cfjmulN (p : BitVec 2) (d s1 s2 : BitVec 8)
  | cfjmmulP (p : BitVec 2) (d s1 s2 : BitVec 8)
  | cfjmmulN (p : BitVec 2) (d s1 s2 : BitVec 8)
  | cfrmulP (p : BitVec 2) (d s1 s2 : BitVec 8)
  | cfrmulN (p : BitVec 2) (d s1 s2 : BitVec 8)
  | cimulP (p : BitVec 2) (d s1 s2 : BitVec 8)
  | cimulN (p : BitVec 2) (d s1 s2 : BitVec 8)
  | cijmulP (p : BitVec 2) (d s1 s2 : BitVec 8)
  | cijmulN (p : BitVec 2) (d s1 s2 : BitVec 8)
  | cijmmulP (p : BitVec 2) (d s1 s2 : BitVec 8)
  | cijmmulN (p : BitVec 2) (d s1 s2 : BitVec 8)
  | cirmulP (p : BitVec 2) (d s1 s2 : BitVec 8)
  | cirmulN (p : BitVec 2) (d s1 s2 : BitVec 8)
  | vfmulP (p : BitVec 2) (d s1 s2 : BitVec 8)
  | vfmulN (p : BitVec 2) (d s1 s2 : BitVec 8)
  | vimulP (p : BitVec 2) (d s1 s2 : BitVec 8)
  | vimulN (p : BitVec 2) (d s1 s2 : BitVec 8)
  | fmulP (p : BitVec 2) (d s1 s2 : BitVec 8)
  | fmulN (p : BitVec 2) (d s1 s2 : BitVec 8)
  | imulP (p : BitVec 2) (d s1 s2 : BitVec 8)
  | imulN (p : BitVec 2) (d s1 s2 : BitVec 8)
  | vsh (p : BitVec 2) (d s1 s2 : BitVec 8)
  | vshand (p : BitVec 2) (d s1 s2 : BitVec 8)
  | vshor (p : BitVec 2) (d s1 s2 : BitVec 8)
  | vshxor (p : BitVec 2) (d s1 s2 : BitVec 8)
  | vbitset (p : BitVec 2) (d s1 s2 : BitVec 8)
  | vbitclr (p : BitVec 2) (d s1 s2 : BitVec 8)
  | vbittgl (p : BitVec 2) (d s1 s2 : BitVec 8)
  | vbittst (p : BitVec 2) (d s1 s2 : BitVec 8)
  | sh (p : BitVec 2) (d s1 s2 : BitVec 8)
  | shand (p : BitVec 2) (d s1 s2 : BitVec 8)
  | shor (p : BitVec 2) (d s1 s2 : BitVec 8)
  | shxor (p : BitVec 2) (d s1 s2 : BitVec 8)
  | bitset (p : BitVec 2) (d s1 s2 : BitVec 8)
  | bitclr (p : BitVec 2) (d s1 s2 : BitVec 8)
  | bittgl (p : BitVec 2) (d s1 s2 : BitVec 8)
  | bittst (p : BitVec 2) (d s1 s2 : BitVec 8)
  | vftoi (p : BitVec 2) (d s1 : BitVec 8)
  | vitof (p : BitVec 2) (d s1 : BitVec 8)
  | ftoi (p : BitVec 2) (d s1 : BitVec 8)
  | itof (p : BitVec 2) (d s1 : BitVec 8)
  | vrf2rf (p : BitVec 2) (d s1 : BitVec 8)
  | rf2rf (p : BitVec 2) (d s1 : BitVec 8)
  | invseed (p : BitVec 2) (d s1 : BitVec 8)
  | invsqrtseed (p : BitVec 2) (d s1 : BitVec 8)
  | vinvseed (p : BitVec 2) (d s1 : BitVec 8)
  | vinvsqrtseed (p : BitVec 2) (d s1 : BitVec 8)
  | mulNop (p : BitVec 2)
  -- AGU0 addressing (R260, R690)
  | agu0DirRs (p : BitVec 2) (x : BitVec 4) (rfa7 : BitVec 9)
  | agu0DirRv (p : BitVec 2) (x : BitVec 4) (rfa7 : BitVec 9)
  | agu0DirWs (p : BitVec 2) (x : BitVec 4) (rfa7 : BitVec 9)
  | agu0DirWv (p : BitVec 2) (x : BitVec 4) (rfa7 : BitVec 9)
  -- AGU1 addressing
  | agu1DirRs (p : BitVec 2) (x : BitVec 4) (rfa5 : BitVec 8)
  | agu1DirRv (p : BitVec 2) (x : BitVec 4) (rfa5 : BitVec 8)
  | agu1DirWs (p : BitVec 2) (x : BitVec 4)
  | agu1DirWv (p : BitVec 2) (x : BitVec 4)
  -- AGU0 addressing (R260, R690)
  | agu0PostincRs (p : BitVec 2) (x : BitVec 4) (rfa7 : BitVec 9)
  | agu0PostincRv (p : BitVec 2) (x : BitVec 4) (rfa7 : BitVec 9)
  | agu0PostincWs (p : BitVec 2) (x : BitVec 4) (rfa7 : BitVec 9)
  | agu0PostincWv (p : BitVec 2) (x : BitVec 4) (rfa7 : BitVec 9)
  -- AGU1 addressing
  | agu1PostincRs (p : BitVec 2) (x : BitVec 4) (rfa5 : BitVec 8)
  | agu1PostincRv (p : BitVec 2) (x : BitVec 4) (rfa5 : BitVec 8)
  | agu1PostincWs (p : BitVec 2) (x : BitVec 4)
  | agu1PostincWv (p : BitVec 2) (x : BitVec 4)
  -- AGU0 addressing (R260, R690)
  | agu0PostdecRs (p : BitVec 2) (x : BitVec 4) (rfa7 : BitVec 9)
  | agu0PostdecRv (p : BitVec 2) (x : BitVec 4) (rfa7 : BitVec 9)
  | agu0PostdecWs (p : BitVec 2) (x : BitVec 4) (rfa7 : BitVec 9)
  | agu0PostdecWv (p : BitVec 2) (x : BitVec 4) (rfa7 : BitVec 9)
  -- AGU1 addressing
  | agu1PostdecRs (p : BitVec 2) (x : BitVec 4) (rfa5 : BitVec 8)
  | agu1PostdecRv (p : BitVec 2) (x : BitVec 4) (rfa5 : BitVec 8)
  | agu1PostdecWs (p : BitVec 2) (x : BitVec 4)
  | agu1PostdecWv (p : BitVec 2) (x : BitVec 4)
  -- AGU0 addressing (R260, R690)
  | agu0PreincRs (p : BitVec 2) (x : BitVec 4) (rfa7 : BitVec 9)
  | agu0PreincRv (p : BitVec 2) (x : BitVec 4) (rfa7 : BitVec 9)
  | agu0PreincWs (p : BitVec 2) (x : BitVec 4) (rfa7 : BitVec 9)
  | agu0PreincWv (p : BitVec 2) (x : BitVec 4) (rfa7 : BitVec 9)
  -- AGU1 addressing
  | agu1PreincRs (p : BitVec 2) (x : BitVec 4) (rfa5 : BitVec 8)
  | agu1PreincRv (p : BitVec 2) (x : BitVec 4) (rfa5 : BitVec 8)
  | agu1PreincWs (p : BitVec 2) (x : BitVec 4)
  | agu1PreincWv (p : BitVec 2) (x : BitVec 4)
  -- AGU0 addressing (R260, R690)
  | agu0PredecRs (p : BitVec 2) (x : BitVec 4) (rfa7 : BitVec 9)
  | agu0PredecRv (p : BitVec 2) (x : BitVec 4) (rfa7 : BitVec 9)
  | agu0PredecWs (p : BitVec 2) (x : BitVec 4) (rfa7 : BitVec 9)
  | agu0PredecWv (p : BitVec 2) (x : BitVec 4) (rfa7 : BitVec 9)
  -- AGU1 addressing
  | agu1PredecRs (p : BitVec 2) (x : BitVec 4) (rfa5 : BitVec 8)
  | agu1PredecRv (p : BitVec 2) (x : BitVec 4) (rfa5 : BitVec 8)
  | agu1PredecWs (p : BitVec 2) (x : BitVec 4)
  | agu1PredecWv (p : BitVec 2) (x : BitVec 4)
  -- AGU0 addressing (R260, R690)
  | agu0Postinc2Rs (p : BitVec 2) (x : BitVec 4) (rfa7 : BitVec 9)
  | agu0Postinc2Rv (p : BitVec 2) (x : BitVec 4) (rfa7 : BitVec 9)
  | agu0Postinc2Ws (p : BitVec 2) (x : BitVec 4) (rfa7 : BitVec 9)
  | agu0Postinc2Wv (p : BitVec 2) (x : BitVec 4) (rfa7 : BitVec 9)
  -- AGU1 addressing
  | agu1Postinc2Rs (p : BitVec 2) (x : BitVec 4) (rfa5 : BitVec 8)
  | agu1Postinc2Rv (p : BitVec 2) (x : BitVec 4) (rfa5 : BitVec 8)
  | agu1Postinc2Ws (p : BitVec 2) (x : BitVec 4)
  | agu1Postinc2Wv (p : BitVec 2) (x : BitVec 4)
  -- AGU0 addressing (R260, R690)
  | agu0Postdec2Rs (p : BitVec 2) (x : BitVec 4) (rfa7 : BitVec 9)
  | agu0Postdec2Rv (p : BitVec 2) (x : BitVec 4) (rfa7 : BitVec 9)
  | agu0Postdec2Ws (p : BitVec 2) (x : BitVec 4) (rfa7 : BitVec 9)
  | agu0Postdec2Wv (p : BitVec 2) (x : BitVec 4) (rfa7 : BitVec 9)
  -- AGU1 addressing
  | agu1Postdec2Rs (p : BitVec 2) (x : BitVec 4) (rfa5 : BitVec 8)
  | agu1Postdec2Rv (p : BitVec 2) (x : BitVec 4) (rfa5 : BitVec 8)
  | agu1Postdec2Ws (p : BitVec 2) (x : BitVec 4)
  | agu1Postdec2Wv (p : BitVec 2) (x : BitVec 4)
  -- AGU0 addressing (R260, R690)
  | agu0Preinc2Rs (p : BitVec 2) (x : BitVec 4) (rfa7 : BitVec 9)
  | agu0Preinc2Rv (p : BitVec 2) (x : BitVec 4) (rfa7 : BitVec 9)
  | agu0Preinc2Ws (p : BitVec 2) (x : BitVec 4) (rfa7 : BitVec 9)
  | agu0Preinc2Wv (p : BitVec 2) (x : BitVec 4) (rfa7 : BitVec 9)
  -- AGU1 addressing
  | agu1Preinc2Rs (p : BitVec 2) (x : BitVec 4) (rfa5 : BitVec 8)
  | agu1Preinc2Rv (p : BitVec 2) (x : BitVec 4) (rfa5 : BitVec 8)
  | agu1Preinc2Ws (p : BitVec 2) (x : BitVec 4)
  | agu1Preinc2Wv (p : BitVec 2) (x : BitVec 4)
  -- AGU0 addressing (R260, R690)
  | agu0IndexRs (p : BitVec 2) (x : BitVec 4) (rfa7 : BitVec 9)
  | agu0IndexRv (p : BitVec 2) (x : BitVec 4) (rfa7 : BitVec 9)
  | agu0IndexWs (p : BitVec 2) (x : BitVec 4) (rfa7 : BitVec 9)
  | agu0IndexWv (p : BitVec 2) (x : BitVec 4) (rfa7 : BitVec 9)
  -- AGU1 addressing
  | agu1IndexRs (p : BitVec 2) (x : BitVec 4) (rfa5 : BitVec 8)
  | agu1IndexRv (p : BitVec 2) (x : BitVec 4) (rfa5 : BitVec 8)
  | agu1IndexWs (p : BitVec 2) (x : BitVec 4)
  | agu1IndexWv (p : BitVec 2) (x : BitVec 4)
  -- AGU0 addressing (R260, R690)
  | agu0Base2immuRs (p : BitVec 2) (x : BitVec 4) (rfa7 : BitVec 9)
  | agu0Base2immuRv (p : BitVec 2) (x : BitVec 4) (rfa7 : BitVec 9)
  | agu0Base2immuWs (p : BitVec 2) (x : BitVec 4) (rfa7 : BitVec 9)
  | agu0Base2immuWv (p : BitVec 2) (x : BitVec 4) (rfa7 : BitVec 9)
  -- AGU1 addressing
  | agu1Base2immuRs (p : BitVec 2) (x : BitVec 4) (rfa5 : BitVec 8)
  | agu1Base2immuRv (p : BitVec 2) (x : BitVec 4) (rfa5 : BitVec 8)
  | agu1Base2immuWs (p : BitVec 2) (x : BitVec 4)
  | agu1Base2immuWv (p : BitVec 2) (x : BitVec 4)
  -- AGU0 addressing (R260, R690)
  | agu0BaseimmuRs (p : BitVec 2) (x : BitVec 4) (rfa7 : BitVec 9)
  | agu0BaseimmuRv (p : BitVec 2) (x : BitVec 4) (rfa7 : BitVec 9)
  | agu0BaseimmuWs (p : BitVec 2) (x : BitVec 4) (rfa7 : BitVec 9)
  | agu0BaseimmuWv (p : BitVec 2) (x : BitVec 4) (rfa7 : BitVec 9)
  -- AGU1 addressing
  | agu1BaseimmuRs (p : BitVec 2) (x : BitVec 4) (rfa5 : BitVec 8)
  | agu1BaseimmuRv (p : BitVec 2) (x : BitVec 4) (rfa5 : BitVec 8)
  | agu1BaseimmuWs (p : BitVec 2) (x : BitVec 4)
  | agu1BaseimmuWv (p : BitVec 2) (x : BitVec 4)
  -- AGU0 addressing (R260, R690)
  | agu0BaseimmRs (p : BitVec 2) (x : BitVec 4) (rfa7 : BitVec 9)
  | agu0BaseimmRv (p : BitVec 2) (x : BitVec 4) (rfa7 : BitVec 9)
  | agu0BaseimmWs (p : BitVec 2) (x : BitVec 4) (rfa7 : BitVec 9)
  | agu0BaseimmWv (p : BitVec 2) (x : BitVec 4) (rfa7 : BitVec 9)
  -- AGU1 addressing
  | agu1BaseimmRs (p : BitVec 2) (x : BitVec 4) (rfa5 : BitVec 8)
  | agu1BaseimmRv (p : BitVec 2) (x : BitVec 4) (rfa5 : BitVec 8)
  | agu1BaseimmWs (p : BitVec 2) (x : BitVec 4)
  | agu1BaseimmWv (p : BitVec 2) (x : BitVec 4)
  -- AGU0 addressing (R260, R690)
  | agu0AbsRs (p : BitVec 2) (x : BitVec 4) (rfa7 : BitVec 9)
  | agu0AbsRv (p : BitVec 2) (x : BitVec 4) (rfa7 : BitVec 9)
  | agu0AbsWs (p : BitVec 2) (x : BitVec 4) (rfa7 : BitVec 9)
  | agu0AbsWv (p : BitVec 2) (x : BitVec 4) (rfa7 : BitVec 9)
  -- AGU1 addressing
  | agu1AbsRs (p : BitVec 2) (x : BitVec 4) (rfa5 : BitVec 8)
  | agu1AbsRv (p : BitVec 2) (x : BitVec 4) (rfa5 : BitVec 8)
  | agu1AbsWs (p : BitVec 2) (x : BitVec 4)
  | agu1AbsWv (p : BitVec 2) (x : BitVec 4)
  -- AGU0 addressing (R260, R690)
  | agu0AbsldRs (p : BitVec 2) (x : BitVec 4) (rfa7 : BitVec 9)
  | agu0AbsldRv (p : BitVec 2) (x : BitVec 4) (rfa7 : BitVec 9)
  | agu0AbsldWs (p : BitVec 2) (x : BitVec 4) (rfa7 : BitVec 9)
  | agu0AbsldWv (p : BitVec 2) (x : BitVec 4) (rfa7 : BitVec 9)
  -- AGU1 addressing
  | agu1AbsldRs (p : BitVec 2) (x : BitVec 4) (rfa5 : BitVec 8)
  | agu1AbsldRv (p : BitVec 2) (x : BitVec 4) (rfa5 : BitVec 8)
  | agu1AbsldWs (p : BitVec 2) (x : BitVec 4)
  | agu1AbsldWv (p : BitVec 2) (x : BitVec 4)
  -- AGU0 addressing (R260, R690)
  | agu0TmpRs (p : BitVec 2) (x : BitVec 4) (rfa7 : BitVec 9)
  | agu0TmpRv (p : BitVec 2) (x : BitVec 4) (rfa7 : BitVec 9)
  | agu0TmpWs (p : BitVec 2) (x : BitVec 4) (rfa7 : BitVec 9)
  | agu0TmpWv (p : BitVec 2) (x : BitVec 4) (rfa7 : BitVec 9)
  -- AGU1 addressing
  | agu1TmpRs (p : BitVec 2) (x : BitVec 4) (rfa5 : BitVec 8)
  | agu1TmpRv (p : BitVec 2) (x : BitVec 4) (rfa5 : BitVec 8)
  | agu1TmpWs (p : BitVec 2) (x : BitVec 4)
  | agu1TmpWv (p : BitVec 2) (x : BitVec 4)
  -- AGU0 addressing (R260, R690)
  | agu0BasetmpRs (p : BitVec 2) (x : BitVec 4) (rfa7 : BitVec 9)
  | agu0BasetmpRv (p : BitVec 2) (x : BitVec 4) (rfa7 : BitVec 9)
  | agu0BasetmpWs (p : BitVec 2) (x : BitVec 4) (rfa7 : BitVec 9)
  | agu0BasetmpWv (p : BitVec 2) (x : BitVec 4) (rfa7 : BitVec 9)
  -- AGU1 addressing
  | agu1BasetmpRs (p : BitVec 2) (x : BitVec 4) (rfa5 : BitVec 8)
  | agu1BasetmpRv (p : BitVec 2) (x : BitVec 4) (rfa5 : BitVec 8)
  | agu1BasetmpWs (p : BitVec 2) (x : BitVec 4)
  | agu1BasetmpWv (p : BitVec 2) (x : BitVec 4)
  -- AGU0 arithmetic (spec 45)
  | agu0Nop (p : BitVec 2)
  -- AGU1 arithmetic
  | agu1Nop (p : BitVec 2)
  -- AGU0 arithmetic (spec 45)
  | agu0MovAAy (p : BitVec 2) (x : BitVec 4)
  -- AGU1 arithmetic
  | agu1MovAAy (p : BitVec 2) (x : BitVec 4)
  -- AGU0 arithmetic (spec 45)
  | agu0SubAAT (p : BitVec 2) (x : BitVec 4)
  -- AGU1 arithmetic
  | agu1SubAAT (p : BitVec 2) (x : BitVec 4)
  -- AGU0 arithmetic (spec 45)
  | agu0AddAAT (p : BitVec 2) (x : BitVec 4)
  -- AGU1 arithmetic
  | agu1AddAAT (p : BitVec 2) (x : BitVec 4)
  -- AGU0 arithmetic (spec 45)
  | agu0SubAAyT (p : BitVec 2) (x : BitVec 4)
  -- AGU1 arithmetic
  | agu1SubAAyT (p : BitVec 2) (x : BitVec 4)
  -- AGU0 arithmetic (spec 45)
  | agu0AddAAyT (p : BitVec 2) (x : BitVec 4)
  -- AGU1 arithmetic
  | agu1AddAAyT (p : BitVec 2) (x : BitVec 4)
  -- AGU0 arithmetic (spec 45)
  | agu0SubTAT (p : BitVec 2) (x : BitVec 4)
  -- AGU1 arithmetic
  | agu1SubTAT (p : BitVec 2) (x : BitVec 4)
  -- AGU0 arithmetic (spec 45)
  | agu0AddTAT (p : BitVec 2) (x : BitVec 4)
  -- AGU1 arithmetic
  | agu1AddTAT (p : BitVec 2) (x : BitVec 4)
  -- AGU0 arithmetic (spec 45)
  | agu0AddAASimm (p : BitVec 2) (x : BitVec 4)
  -- AGU1 arithmetic
  | agu1AddAASimm (p : BitVec 2) (x : BitVec 4)
  -- AGU0 arithmetic (spec 45)
  | agu0AddAAySimm (p : BitVec 2) (x : BitVec 4)
  -- AGU1 arithmetic
  | agu1AddAAySimm (p : BitVec 2) (x : BitVec 4)
  -- AGU0 arithmetic (spec 45)
  | agu0AddTASimm (p : BitVec 2) (x : BitVec 4)
  -- AGU1 arithmetic
  | agu1AddTASimm (p : BitVec 2) (x : BitVec 4)
  -- AGU0 arithmetic (spec 45)
  | agu0AddTTSimm (p : BitVec 2) (x : BitVec 4)
  -- AGU1 arithmetic
  | agu1AddTTSimm (p : BitVec 2) (x : BitVec 4)
  -- AGU0 arithmetic (spec 45)
  | agu0MulTASimm (p : BitVec 2) (x : BitVec 4)
  -- AGU1 arithmetic
  | agu1MulTASimm (p : BitVec 2) (x : BitVec 4)
  -- AGU0 arithmetic (spec 45)
  | agu0MulTTSimm (p : BitVec 2) (x : BitVec 4)
  -- AGU1 arithmetic
  | agu1MulTTSimm (p : BitVec 2) (x : BitVec 4)
  -- AGU0 arithmetic (spec 45)
  | agu0MulTAMy (p : BitVec 2) (x : BitVec 4)
  -- AGU1 arithmetic
  | agu1MulTAMy (p : BitVec 2) (x : BitVec 4)
  -- AGU0 arithmetic (spec 45)
  | agu0Eq (p : BitVec 2) (x : BitVec 4)
  -- AGU1 arithmetic
  | agu1Eq (p : BitVec 2) (x : BitVec 4)
  -- AGU0 arithmetic (spec 45)
  | agu0Neq (p : BitVec 2) (x : BitVec 4)
  -- AGU1 arithmetic
  | agu1Neq (p : BitVec 2) (x : BitVec 4)
  -- AGU0 arithmetic (spec 45)
  | agu0GeS (p : BitVec 2) (x : BitVec 4)
  -- AGU1 arithmetic
  | agu1GeS (p : BitVec 2) (x : BitVec 4)
  -- AGU0 arithmetic (spec 45)
  | agu0GtS (p : BitVec 2) (x : BitVec 4)
  -- AGU1 arithmetic
  | agu1GtS (p : BitVec 2) (x : BitVec 4)
  -- AGU0 arithmetic (spec 45)
  | agu0LeS (p : BitVec 2) (x : BitVec 4)
  -- AGU1 arithmetic
  | agu1LeS (p : BitVec 2) (x : BitVec 4)
  -- AGU0 arithmetic (spec 45)
  | agu0LtS (p : BitVec 2) (x : BitVec 4)
  -- AGU1 arithmetic
  | agu1LtS (p : BitVec 2) (x : BitVec 4)
  -- AGU0 arithmetic (spec 45)
  | agu0MovAT (p : BitVec 2) (x : BitVec 4)
  -- AGU1 arithmetic
  | agu1MovAT (p : BitVec 2) (x : BitVec 4)
  -- AGU0 arithmetic (spec 45)
  | agu0MovTA (p : BitVec 2) (x : BitVec 4)
  -- AGU1 arithmetic
  | agu1MovTA (p : BitVec 2) (x : BitVec 4)
  -- AGU0 arithmetic (spec 45)
  | agu0MovTM (p : BitVec 2) (x : BitVec 4)
  -- AGU1 arithmetic
  | agu1MovTM (p : BitVec 2) (x : BitVec 4)
  -- AGU0 arithmetic (spec 45)
  | agu0MovTS (p : BitVec 2) (x : BitVec 4)
  -- AGU1 arithmetic
  | agu1MovTS (p : BitVec 2) (x : BitVec 4)
  -- AGU0 arithmetic (spec 45)
  | agu0MovTL (p : BitVec 2) (x : BitVec 4)
  -- AGU1 arithmetic
  | agu1MovTL (p : BitVec 2) (x : BitVec 4)
  -- AGU0 arithmetic (spec 45)
  | agu0AddltAML (p : BitVec 2) (x : BitVec 4)
  -- AGU1 arithmetic
  | agu1AddltAML (p : BitVec 2) (x : BitVec 4)
  -- AGU0 arithmetic (spec 45)
  | agu0SubgtAM (p : BitVec 2) (x : BitVec 4)
  -- AGU1 arithmetic
  | agu1SubgtAM (p : BitVec 2) (x : BitVec 4)
  -- AGU0 arithmetic (spec 45)
  | agu0SubgtAT (p : BitVec 2) (x : BitVec 4)
  -- AGU1 arithmetic
  | agu1SubgtAT (p : BitVec 2) (x : BitVec 4)
  -- AGU0 arithmetic (spec 45)
  | agu0AddltATL (p : BitVec 2) (x : BitVec 4)
  -- AGU1 arithmetic
  | agu1AddltATL (p : BitVec 2) (x : BitVec 4)
  -- AGU0 arithmetic (spec 45)
  | agu0SubgtASimm (p : BitVec 2) (x : BitVec 4)
  -- AGU1 arithmetic
  | agu1SubgtASimm (p : BitVec 2) (x : BitVec 4)
  -- AGU0 arithmetic (spec 45)
  | agu0MovASimm (p : BitVec 2) (x : BitVec 4)
  -- AGU1 arithmetic
  | agu1MovASimm (p : BitVec 2) (x : BitVec 4)
  -- AGU0 arithmetic (spec 45)
  | agu0ClrT (p : BitVec 2) (x : BitVec 4)
  -- AGU1 arithmetic
  | agu1ClrT (p : BitVec 2) (x : BitVec 4)
  -- AGU0 arithmetic (spec 45)
  | agu0AbsA (p : BitVec 2) (x : BitVec 4)
  -- AGU1 arithmetic
  | agu1AbsA (p : BitVec 2) (x : BitVec 4)
  -- AGU0 arithmetic (spec 45)
  | agu0AbsTA (p : BitVec 2) (x : BitVec 4)
  -- AGU1 arithmetic
  | agu1AbsTA (p : BitVec 2) (x : BitVec 4)
  -- AGU0 arithmetic (spec 45)
  | agu0NegTM (p : BitVec 2) (x : BitVec 4)
  -- AGU1 arithmetic
  | agu1NegTM (p : BitVec 2) (x : BitVec 4)
  -- AGU0 arithmetic (spec 45)
  | agu0MovTUimm4 (p : BitVec 2) (uimm4 : BitVec 4)
  -- AGU1 arithmetic
  | agu1MovTUimm4 (p : BitVec 2) (uimm4 : BitVec 4)
  -- AGU0 arithmetic (spec 45)
  | agu0Bittest (p : BitVec 2) (x : BitVec 4)
  -- AGU1 arithmetic
  | agu1Bittest (p : BitVec 2) (x : BitVec 4)
  -- AGU0 arithmetic (spec 45)
  | agu0ShlAT (p : BitVec 2) (x : BitVec 4)
  -- AGU1 arithmetic
  | agu1ShlAT (p : BitVec 2) (x : BitVec 4)
  -- AGU0 arithmetic (spec 45)
  | agu0ShrAT (p : BitVec 2) (x : BitVec 4)
  -- AGU1 arithmetic
  | agu1ShrAT (p : BitVec 2) (x : BitVec 4)
  -- AGU0 arithmetic (spec 45)
  | agu0SarAT (p : BitVec 2) (x : BitVec 4)
  -- AGU1 arithmetic
  | agu1SarAT (p : BitVec 2) (x : BitVec 4)
  -- AGU0 arithmetic (spec 45)
  | agu0AndAT (p : BitVec 2) (x : BitVec 4)
  -- AGU1 arithmetic
  | agu1AndAT (p : BitVec 2) (x : BitVec 4)
  -- AGU0 arithmetic (spec 45)
  | agu0OrAT (p : BitVec 2) (x : BitVec 4)
  -- AGU1 arithmetic
  | agu1OrAT (p : BitVec 2) (x : BitVec 4)
  -- AGU0 arithmetic (spec 45)
  | agu0XorAT (p : BitVec 2) (x : BitVec 4)
  -- AGU1 arithmetic
  | agu1XorAT (p : BitVec 2) (x : BitVec 4)
  -- AGU0 arithmetic (spec 45)
  | agu0SubuAAT (p : BitVec 2) (x : BitVec 4)
  -- AGU1 arithmetic
  | agu1SubuAAT (p : BitVec 2) (x : BitVec 4)
  -- AGU0 arithmetic (spec 45)
  | agu0AdduAAT (p : BitVec 2) (x : BitVec 4)
  -- AGU1 arithmetic
  | agu1AdduAAT (p : BitVec 2) (x : BitVec 4)
  -- AGU0 arithmetic (spec 45)
  | agu0SubuAAyT (p : BitVec 2) (x : BitVec 4)
  -- AGU1 arithmetic
  | agu1SubuAAyT (p : BitVec 2) (x : BitVec 4)
  -- AGU0 arithmetic (spec 45)
  | agu0AdduAAyT (p : BitVec 2) (x : BitVec 4)
  -- AGU1 arithmetic
  | agu1AdduAAyT (p : BitVec 2) (x : BitVec 4)
  -- AGU0 arithmetic (spec 45)
  | agu0SubuTAT (p : BitVec 2) (x : BitVec 4)
  -- AGU1 arithmetic
  | agu1SubuTAT (p : BitVec 2) (x : BitVec 4)
  -- AGU0 arithmetic (spec 45)
  | agu0AdduTAT (p : BitVec 2) (x : BitVec 4)
  -- AGU1 arithmetic
  | agu1AdduTAT (p : BitVec 2) (x : BitVec 4)
  -- AGU0 arithmetic (spec 45)
  | agu0AdduAAImm (p : BitVec 2) (x : BitVec 4)
  -- AGU1 arithmetic
  | agu1AdduAAImm (p : BitVec 2) (x : BitVec 4)
  -- AGU0 arithmetic (spec 45)
  | agu0AdduAAyImm (p : BitVec 2) (x : BitVec 4)
  -- AGU1 arithmetic
  | agu1AdduAAyImm (p : BitVec 2) (x : BitVec 4)
  -- AGU0 arithmetic (spec 45)
  | agu0AdduTAImm (p : BitVec 2) (x : BitVec 4)
  -- AGU1 arithmetic
  | agu1AdduTAImm (p : BitVec 2) (x : BitVec 4)
  -- AGU0 arithmetic (spec 45)
  | agu0AdduTTImm (p : BitVec 2) (x : BitVec 4)
  -- AGU1 arithmetic
  | agu1AdduTTImm (p : BitVec 2) (x : BitVec 4)
  -- AGU0 arithmetic (spec 45)
  | agu0MuluTAImm (p : BitVec 2) (x : BitVec 4)
  -- AGU1 arithmetic
  | agu1MuluTAImm (p : BitVec 2) (x : BitVec 4)
  -- AGU0 arithmetic (spec 45)
  | agu0MuluTTImm (p : BitVec 2) (x : BitVec 4)
  -- AGU1 arithmetic
  | agu1MuluTTImm (p : BitVec 2) (x : BitVec 4)
  -- AGU0 arithmetic (spec 45)
  | agu0MuluTAMy (p : BitVec 2) (x : BitVec 4)
  -- AGU1 arithmetic
  | agu1MuluTAMy (p : BitVec 2) (x : BitVec 4)
  -- AGU0 arithmetic (spec 45)
  | agu0GeU (p : BitVec 2) (x : BitVec 4)
  -- AGU1 arithmetic
  | agu1GeU (p : BitVec 2) (x : BitVec 4)
  -- AGU0 arithmetic (spec 45)
  | agu0GtU (p : BitVec 2) (x : BitVec 4)
  -- AGU1 arithmetic
  | agu1GtU (p : BitVec 2) (x : BitVec 4)
  -- AGU0 arithmetic (spec 45)
  | agu0LeU (p : BitVec 2) (x : BitVec 4)
  -- AGU1 arithmetic
  | agu1LeU (p : BitVec 2) (x : BitVec 4)
  -- AGU0 arithmetic (spec 45)
  | agu0LtU (p : BitVec 2) (x : BitVec 4)
  -- AGU1 arithmetic
  | agu1LtU (p : BitVec 2) (x : BitVec 4)
  -- AGU0 arithmetic (spec 45)
  | agu0AddltuAML (p : BitVec 2) (x : BitVec 4)
  -- AGU1 arithmetic
  | agu1AddltuAML (p : BitVec 2) (x : BitVec 4)
  -- AGU0 arithmetic (spec 45)
  | agu0SubgtuAM (p : BitVec 2) (x : BitVec 4)
  -- AGU1 arithmetic
  | agu1SubgtuAM (p : BitVec 2) (x : BitVec 4)
  -- FLOW issue (R271)
  | immv (p : BitVec 2) (rfa7 : BitVec 9) (immh imml : BitVec 40)
  | immvc (p : BitVec 2) (rfa7 : BitVec 9) (imm : BitVec 40)
  | immsi (p : BitVec 2) (rfa7 : BitVec 9) (imm : BitVec 40)
  | immsf (p : BitVec 2) (rfa7 : BitVec 9) (imm : BitVec 40)
  | immsic (p : BitVec 2) (rfa7 : BitVec 9) (sel : BitVec 2)
  | immsfc (p : BitVec 2) (rfa7 : BitVec 9) (sel : BitVec 2)
  | imm0v (p : BitVec 2) (rfa7 : BitVec 9)
  | imm0s (p : BitVec 2) (rfa7 : BitVec 9)
  | movv (p : BitVec 2) (rfa7 : BitVec 9) (src : BitVec 8)
  | movs (p : BitVec 2) (rfa7 : BitVec 9) (src : BitVec 8)
  | movvf (p : BitVec 2) (rfa7 : BitVec 9) (src : BitVec 8)
  | movsf (p : BitVec 2) (rfa7 : BitVec 9) (src : BitVec 8)
  | movss (p : BitVec 2) (rfa7 : BitVec 9) (src : BitVec 8)
  | pushOp (p : BitVec 2)
  | pushAgu0 (p : BitVec 2)
  | pushAgu1 (p : BitVec 2)
  | pop (p : BitVec 2)
  | flowTrue (p : BitVec 2)
  | flowFalse (p : BitVec 2)
  | fsnot (p : BitVec 2)
  | fsand (p : BitVec 2)
  | fsor (p : BitVec 2)
  | fsxor (p : BitVec 2)
  | repush (p : BitVec 2)
  | fsswap (p : BitVec 2)
  | fsand2 (p : BitVec 2)
  | fsi2q (p : BitVec 2)
  | fsq2i (p : BitVec 2)
  | clrp (p r : BitVec 2)
  | setp (r : BitVec 2)
  | setpv (r imm : BitVec 2)
  | settop (p r : BitVec 2)
  | setop (p r : BitVec 2)
  | setagu0 (p r : BitVec 2)
  | setagu1 (p r : BitVec 2)
  | setnotp (p r : BitVec 2)
  | setnot (p r : BitVec 2)
  | br (p : BitVec 2) (jt : BitVec 8) (off : BitVec 16)
  | brReg (p : BitVec 2) (jt : BitVec 8)
  | call (p : BitVec 2) (jt : BitVec 8) (off : BitVec 16)
  | callReg (p : BitVec 2) (jt : BitVec 8)
  | ret (p : BitVec 2)
  | reti (p : BitVec 2)
  | repb (p : BitVec 2) (len : BitVec 16)
  | swpipe (on : BitVec 1) (k : BitVec 3)
  | watchint (p : BitVec 2)
  | sleepon (p : BitVec 2)
  | sirq (p n : BitVec 2)
  | halt (p : BitVec 2)
  | writedma (p : BitVec 2)
  | readdma (p : BitVec 2)
  | prefetchReg (p : BitVec 2)
  | prefetchOff (p : BitVec 2) (off : BitVec 16)
  | pmucmd (p cmd : BitVec 2)
  deriving DecidableEq, Repr

end Sys2Proof
end

