-- ==== Sys2Proof/Decode.lean ====
section
/-! DEFINITION. The decoder (spec 30: the program word, the five code maps, the FLOW formats, inhibition R332) and the
encoder written from the same tables. The unassigned code of an issue is named, never guessed. -/

namespace Sys2Proof

open Machine (Issue)

-- Lean's code generator holds at most 244 constructors with fields: the tables have no compiled code, only their meaning.
noncomputable section

/-! ## Fields of the program word (R250) -/

/-- The n bits of w from bit lo up. -/
def getField (w : Bundle) (lo n : Nat) : BitVec n := w.extractLsb' lo n

/-- w with the field from bit lo up replaced by v. -/
def setField {n : Nat} (w : Bundle) (lo : Nat) (v : BitVec n) : Bundle :=
  (w &&& ~~~((BitVec.allOnes n).setWidth 128 <<< lo)) ||| (v.setWidth 128 <<< lo)

def flowCode (w : Bundle) : BitVec 6 := getField w 113 6
def agu0Code (w : Bundle) : BitVec 7 := getField w 89 7
def mulCode (w : Bundle) : BitVec 7 := getField w 54 7
def agu1Code (w : Bundle) : BitVec 7 := getField w 41 7
def addCode (w : Bundle) : BitVec 7 := getField w 6 7

/-- ADD issue fields (R254, R255). -/
structure AddF where
  p : BitVec 2
  d : BitVec 8
  d2 : BitVec 8
  s1 : BitVec 8
  s2 : BitVec 8

def AddF.of (w : Bundle) : AddF :=
  { p := getField w 4 2, d := getField w 29 8, d2 := getField w 96 8, s1 := getField w 13 8, s2 := getField w 21 8 }

/-- MUL issue fields (R257). -/
structure MulF where
  p : BitVec 2
  d : BitVec 8
  s1 : BitVec 8
  s2 : BitVec 8

def MulF.of (w : Bundle) : MulF :=
  { p := getField w 52 2, d := getField w 77 8, s1 := getField w 61 8, s2 := getField w 69 8 }

/-- AGU0 issue fields (R259, R261). -/
structure Agu0F where
  p : BitVec 2
  x : BitVec 4
  rfa7 : BitVec 9

def Agu0F.of (w : Bundle) : Agu0F := { p := getField w 0 2, x := getField w 85 4, rfa7 := getField w 104 9 }

/-- AGU1 issue fields (R259, R261). -/
structure Agu1F where
  p : BitVec 2
  x : BitVec 4
  rfa5 : BitVec 8

def Agu1F.of (w : Bundle) : Agu1F := { p := getField w 48 2, x := getField w 37 4, rfa5 := getField w 96 8 }

/-- FLOW fields of every format (R272 to R283). -/
structure FlowF where
  p : BitVec 2
  r : BitVec 2
  on : BitVec 1
  k2 : BitVec 1
  rfa7 : BitVec 9
  rfa5 : BitVec 8
  rfa0 : BitVec 8
  imm : BitVec 40
  imml : BitVec 40
  jt : BitVec 8
  off : BitVec 16

def FlowF.of (w : Bundle) : FlowF :=
  { p := getField w 2 2, r := getField w 50 2, on := getField w 51 1, k2 := getField w 50 1,
    rfa7 := getField w 104 9, rfa5 := getField w 96 8, rfa0 := getField w 69 8, imm := getField w 53 40,
    imml := getField w 4 40, jt := getField w 77 8, off := getField w 61 16 }

/-! ## Code maps (R256, R258, R260, R271) -/

/-- The entry of a code; none for an unassigned one. -/
def pick {n : Nat} {α : Type} (c : BitVec n) : List (BitVec n × α) → Option α
  | [] => none
  | e :: t => if e.1 = c then some e.2 else pick c t

def addTable0 : List (BitVec 7 × (AddF → Instr)) := [
  (0x00, fun f => .cfaddPP f.p f.d f.s1 f.s2),
  (0x01, fun f => .cfaddPN f.p f.d f.s1 f.s2),
  (0x02, fun f => .cfaddNN f.p f.d f.s1 f.s2),
  (0x03, fun f => .cfaddNP f.p f.d f.s1 f.s2),
  (0x04, fun f => .cfjaddPP f.p f.d f.s1 f.s2),
  (0x05, fun f => .cfjaddPN f.p f.d f.s1 f.s2),
  (0x06, fun f => .cfjaddNN f.p f.d f.s1 f.s2),
  (0x07, fun f => .cfjaddNP f.p f.d f.s1 f.s2),
  (0x08, fun f => .cjjaddPP f.p f.d f.s1 f.s2),
  (0x09, fun f => .cjjaddPN f.p f.d f.s1 f.s2),
  (0x0A, fun f => .cjjaddNN f.p f.d f.s1 f.s2),
  (0x0B, fun f => .cjjaddNP f.p f.d f.s1 f.s2),
  (0x0C, fun f => .cfraddPP f.p f.d f.s1 f.s2),
  (0x0D, fun f => .cfraddPN f.p f.d f.s1 f.s2),
  (0x0E, fun f => .cfraddNN f.p f.d f.s1 f.s2),
  (0x0F, fun f => .cfraddNP f.p f.d f.s1 f.s2),
  (0x10, fun f => .ciaddPP f.p f.d f.s1 f.s2),
  (0x11, fun f => .ciaddPN f.p f.d f.s1 f.s2),
  (0x12, fun f => .ciaddNN f.p f.d f.s1 f.s2),
  (0x13, fun f => .ciaddNP f.p f.d f.s1 f.s2),
  (0x14, fun f => .cijaddPP f.p f.d f.s1 f.s2),
  (0x15, fun f => .cijaddPN f.p f.d f.s1 f.s2),
  (0x16, fun f => .cijaddNN f.p f.d f.s1 f.s2),
  (0x17, fun f => .cijaddNP f.p f.d f.s1 f.s2),
  (0x18, fun f => .cijjaddPP f.p f.d f.s1 f.s2),
  (0x19, fun f => .cijjaddPN f.p f.d f.s1 f.s2),
  (0x1A, fun f => .cijjaddNN f.p f.d f.s1 f.s2),
  (0x1B, fun f => .cijjaddNP f.p f.d f.s1 f.s2),
  (0x1C, fun f => .ciraddPP f.p f.d f.s1 f.s2),
  (0x1D, fun f => .ciraddPN f.p f.d f.s1 f.s2),
  (0x1E, fun f => .ciraddNN f.p f.d f.s1 f.s2),
  (0x1F, fun f => .ciraddNP f.p f.d f.s1 f.s2)]

def addTable1 : List (BitVec 7 × (AddF → Instr)) := [
  (0x20, fun f => .vfabsaddPP f.p f.d f.s1 f.s2),
  (0x21, fun f => .vfabsaddPN f.p f.d f.s1 f.s2),
  (0x22, fun f => .vfabsaddNN f.p f.d f.s1 f.s2),
  (0x23, fun f => .vfabsaddNP f.p f.d f.s1 f.s2),
  (0x24, fun f => .viabsaddPP f.p f.d f.s1 f.s2),
  (0x25, fun f => .viabsaddPN f.p f.d f.s1 f.s2),
  (0x26, fun f => .viabsaddNN f.p f.d f.s1 f.s2),
  (0x27, fun f => .viabsaddNP f.p f.d f.s1 f.s2),
  (0x28, fun f => .vfaddsub f.p f.d f.d2 f.s1 f.s2),
  (0x29, fun f => .faddPP f.p f.d f.s1 f.s2),
  (0x2A, fun f => .faddPN f.p f.d f.s1 f.s2),
  (0x2B, fun f => .faddNN f.p f.d f.s1 f.s2),
  (0x2C, fun f => .faddNP f.p f.d f.s1 f.s2),
  (0x2D, fun f => .faddsub f.p f.d f.d2 f.s1 f.s2),
  (0x2E, fun f => .iaddPP f.p f.d f.s1 f.s2),
  (0x2F, fun f => .iaddPN f.p f.d f.s1 f.s2),
  (0x30, fun f => .iaddNN f.p f.d f.s1 f.s2),
  (0x31, fun f => .iaddNP f.p f.d f.s1 f.s2),
  (0x32, fun f => .iaddsub f.p f.d f.d2 f.s1 f.s2),
  (0x33, fun f => .fabsaddPP f.p f.d f.s1 f.s2),
  (0x34, fun f => .fabsaddPN f.p f.d f.s1 f.s2),
  (0x35, fun f => .fabsaddNN f.p f.d f.s1 f.s2),
  (0x36, fun f => .fabsaddNP f.p f.d f.s1 f.s2),
  (0x37, fun f => .iabsaddPP f.p f.d f.s1 f.s2),
  (0x38, fun f => .iabsaddPN f.p f.d f.s1 f.s2),
  (0x39, fun f => .iabsaddNN f.p f.d f.s1 f.s2),
  (0x3A, fun f => .iabsaddNP f.p f.d f.s1 f.s2),
  (0x3B, fun f => .vfmin f.p f.d f.s1 f.s2),
  (0x3C, fun f => .vimin f.p f.d f.s1 f.s2),
  (0x3D, fun f => .vfmax f.p f.d f.s1 f.s2),
  (0x3E, fun f => .vimax f.p f.d f.s1 f.s2),
  (0x3F, fun f => .vfminmax f.p f.d f.d2 f.s1 f.s2)]

def addTable2 : List (BitVec 7 × (AddF → Instr)) := [
  (0x40, fun f => .viminmax f.p f.d f.d2 f.s1 f.s2),
  (0x41, fun f => .vswap f.p f.d f.d2 f.s1 f.s2),
  (0x42, fun f => .fmin f.p f.d f.s1 f.s2),
  (0x43, fun f => .imin f.p f.d f.s1 f.s2),
  (0x44, fun f => .fmax f.p f.d f.s1 f.s2),
  (0x45, fun f => .imax f.p f.d f.s1 f.s2),
  (0x46, fun f => .fminmax f.p f.d f.d2 f.s1 f.s2),
  (0x47, fun f => .iminmax f.p f.d f.d2 f.s1 f.s2),
  (0x48, fun f => .fsel f.p f.d f.s1 f.s2),
  (0x49, fun f => .isel f.p f.d f.s1 f.s2),
  (0x5A, fun f => .swap f.p f.d f.d2 f.s1 f.s2),
  (0x7D, fun f => .viaddsub f.p f.d f.d2 f.s1 f.s2),
  (0x7F, fun f => .addNop f.p),
  (0x61, fun f => .cfeq f.p f.s1 f.s2),
  (0x62, fun f => .cfne f.p f.s1 f.s2),
  (0x63, fun f => .vfeq f.p f.s1 f.s2),
  (0x64, fun f => .vflt f.p f.s1 f.s2),
  (0x65, fun f => .vfgt f.p f.s1 f.s2),
  (0x66, fun f => .vfle f.p f.s1 f.s2),
  (0x67, fun f => .vfge f.p f.s1 f.s2),
  (0x68, fun f => .vfne f.p f.s1 f.s2),
  (0x69, fun f => .vieq f.p f.s1 f.s2),
  (0x6A, fun f => .vilt f.p f.s1 f.s2),
  (0x6B, fun f => .vigt f.p f.s1 f.s2),
  (0x6C, fun f => .vile f.p f.s1 f.s2),
  (0x6D, fun f => .vige f.p f.s1 f.s2),
  (0x6E, fun f => .vine f.p f.s1 f.s2),
  (0x6F, fun f => .feq f.p f.s1 f.s2),
  (0x70, fun f => .flt f.p f.s1 f.s2),
  (0x71, fun f => .fgt f.p f.s1 f.s2),
  (0x72, fun f => .fle f.p f.s1 f.s2),
  (0x73, fun f => .fge f.p f.s1 f.s2)]

def addTable3 : List (BitVec 7 × (AddF → Instr)) := [
  (0x74, fun f => .fne f.p f.s1 f.s2),
  (0x75, fun f => .ieq f.p f.s1 f.s2),
  (0x76, fun f => .ilt f.p f.s1 f.s2),
  (0x77, fun f => .igt f.p f.s1 f.s2),
  (0x78, fun f => .ile f.p f.s1 f.s2),
  (0x79, fun f => .ige f.p f.s1 f.s2),
  (0x7A, fun f => .ine f.p f.s1 f.s2),
  (0x7B, fun f => .cieq f.p f.s1 f.s2),
  (0x7C, fun f => .cine f.p f.s1 f.s2)]

def addTable : List (BitVec 7 × (AddF → Instr)) := addTable0 ++ addTable1 ++ addTable2 ++ addTable3

def mulTable0 : List (BitVec 7 × (MulF → Instr)) := [
  (0x00, fun f => .cfmulP f.p f.d f.s1 f.s2),
  (0x01, fun f => .cfmulN f.p f.d f.s1 f.s2),
  (0x02, fun f => .cfjmulP f.p f.d f.s1 f.s2),
  (0x03, fun f => .cfjmulN f.p f.d f.s1 f.s2),
  (0x04, fun f => .cfjmmulP f.p f.d f.s1 f.s2),
  (0x05, fun f => .cfjmmulN f.p f.d f.s1 f.s2),
  (0x06, fun f => .cfrmulP f.p f.d f.s1 f.s2),
  (0x07, fun f => .cfrmulN f.p f.d f.s1 f.s2),
  (0x08, fun f => .cimulP f.p f.d f.s1 f.s2),
  (0x09, fun f => .cimulN f.p f.d f.s1 f.s2),
  (0x0A, fun f => .cijmulP f.p f.d f.s1 f.s2),
  (0x0B, fun f => .cijmulN f.p f.d f.s1 f.s2),
  (0x0C, fun f => .cijmmulP f.p f.d f.s1 f.s2),
  (0x0D, fun f => .cijmmulN f.p f.d f.s1 f.s2),
  (0x0E, fun f => .cirmulP f.p f.d f.s1 f.s2),
  (0x0F, fun f => .cirmulN f.p f.d f.s1 f.s2),
  (0x20, fun f => .vfmulP f.p f.d f.s1 f.s2),
  (0x21, fun f => .vfmulN f.p f.d f.s1 f.s2),
  (0x22, fun f => .vimulP f.p f.d f.s1 f.s2),
  (0x23, fun f => .vimulN f.p f.d f.s1 f.s2),
  (0x28, fun f => .fmulP f.p f.d f.s1 f.s2),
  (0x29, fun f => .fmulN f.p f.d f.s1 f.s2),
  (0x2A, fun f => .imulP f.p f.d f.s1 f.s2),
  (0x2B, fun f => .imulN f.p f.d f.s1 f.s2),
  (0x30, fun f => .vsh f.p f.d f.s1 f.s2),
  (0x31, fun f => .vshand f.p f.d f.s1 f.s2),
  (0x32, fun f => .vshor f.p f.d f.s1 f.s2),
  (0x33, fun f => .vshxor f.p f.d f.s1 f.s2),
  (0x34, fun f => .vbitset f.p f.d f.s1 f.s2),
  (0x35, fun f => .vbitclr f.p f.d f.s1 f.s2),
  (0x36, fun f => .vbittgl f.p f.d f.s1 f.s2),
  (0x37, fun f => .vbittst f.p f.d f.s1 f.s2)]

def mulTable1 : List (BitVec 7 × (MulF → Instr)) := [
  (0x38, fun f => .sh f.p f.d f.s1 f.s2),
  (0x39, fun f => .shand f.p f.d f.s1 f.s2),
  (0x3A, fun f => .shor f.p f.d f.s1 f.s2),
  (0x3B, fun f => .shxor f.p f.d f.s1 f.s2),
  (0x3C, fun f => .bitset f.p f.d f.s1 f.s2),
  (0x3D, fun f => .bitclr f.p f.d f.s1 f.s2),
  (0x3E, fun f => .bittgl f.p f.d f.s1 f.s2),
  (0x3F, fun f => .bittst f.p f.d f.s1 f.s2),
  (0x40, fun f => .vftoi f.p f.d f.s1),
  (0x41, fun f => .vitof f.p f.d f.s1),
  (0x42, fun f => .ftoi f.p f.d f.s1),
  (0x43, fun f => .itof f.p f.d f.s1),
  (0x44, fun f => .vrf2rf f.p f.d f.s1),
  (0x45, fun f => .rf2rf f.p f.d f.s1),
  (0x46, fun f => .invseed f.p f.d f.s1),
  (0x47, fun f => .invsqrtseed f.p f.d f.s1),
  (0x48, fun f => .vinvseed f.p f.d f.s1),
  (0x49, fun f => .vinvsqrtseed f.p f.d f.s1),
  (0x7F, fun f => .mulNop f.p)]

def mulTable : List (BitVec 7 × (MulF → Instr)) := mulTable0 ++ mulTable1

def agu0Table0 : List (BitVec 7 × (Agu0F → Instr)) := [
  (0x00, fun f => .agu0DirRs f.p f.x f.rfa7),
  (0x10, fun f => .agu0DirRv f.p f.x f.rfa7),
  (0x20, fun f => .agu0DirWs f.p f.x f.rfa7),
  (0x30, fun f => .agu0DirWv f.p f.x f.rfa7),
  (0x01, fun f => .agu0PostincRs f.p f.x f.rfa7),
  (0x11, fun f => .agu0PostincRv f.p f.x f.rfa7),
  (0x21, fun f => .agu0PostincWs f.p f.x f.rfa7),
  (0x31, fun f => .agu0PostincWv f.p f.x f.rfa7),
  (0x02, fun f => .agu0PostdecRs f.p f.x f.rfa7),
  (0x12, fun f => .agu0PostdecRv f.p f.x f.rfa7),
  (0x22, fun f => .agu0PostdecWs f.p f.x f.rfa7),
  (0x32, fun f => .agu0PostdecWv f.p f.x f.rfa7),
  (0x03, fun f => .agu0PreincRs f.p f.x f.rfa7),
  (0x13, fun f => .agu0PreincRv f.p f.x f.rfa7),
  (0x23, fun f => .agu0PreincWs f.p f.x f.rfa7),
  (0x33, fun f => .agu0PreincWv f.p f.x f.rfa7),
  (0x04, fun f => .agu0PredecRs f.p f.x f.rfa7),
  (0x14, fun f => .agu0PredecRv f.p f.x f.rfa7),
  (0x24, fun f => .agu0PredecWs f.p f.x f.rfa7),
  (0x34, fun f => .agu0PredecWv f.p f.x f.rfa7),
  (0x05, fun f => .agu0Postinc2Rs f.p f.x f.rfa7),
  (0x15, fun f => .agu0Postinc2Rv f.p f.x f.rfa7),
  (0x25, fun f => .agu0Postinc2Ws f.p f.x f.rfa7),
  (0x35, fun f => .agu0Postinc2Wv f.p f.x f.rfa7),
  (0x06, fun f => .agu0Postdec2Rs f.p f.x f.rfa7),
  (0x16, fun f => .agu0Postdec2Rv f.p f.x f.rfa7),
  (0x26, fun f => .agu0Postdec2Ws f.p f.x f.rfa7),
  (0x36, fun f => .agu0Postdec2Wv f.p f.x f.rfa7),
  (0x07, fun f => .agu0Preinc2Rs f.p f.x f.rfa7),
  (0x17, fun f => .agu0Preinc2Rv f.p f.x f.rfa7),
  (0x27, fun f => .agu0Preinc2Ws f.p f.x f.rfa7),
  (0x37, fun f => .agu0Preinc2Wv f.p f.x f.rfa7)]

def agu0Table1 : List (BitVec 7 × (Agu0F → Instr)) := [
  (0x08, fun f => .agu0IndexRs f.p f.x f.rfa7),
  (0x18, fun f => .agu0IndexRv f.p f.x f.rfa7),
  (0x28, fun f => .agu0IndexWs f.p f.x f.rfa7),
  (0x38, fun f => .agu0IndexWv f.p f.x f.rfa7),
  (0x09, fun f => .agu0Base2immuRs f.p f.x f.rfa7),
  (0x19, fun f => .agu0Base2immuRv f.p f.x f.rfa7),
  (0x29, fun f => .agu0Base2immuWs f.p f.x f.rfa7),
  (0x39, fun f => .agu0Base2immuWv f.p f.x f.rfa7),
  (0x0A, fun f => .agu0BaseimmuRs f.p f.x f.rfa7),
  (0x1A, fun f => .agu0BaseimmuRv f.p f.x f.rfa7),
  (0x2A, fun f => .agu0BaseimmuWs f.p f.x f.rfa7),
  (0x3A, fun f => .agu0BaseimmuWv f.p f.x f.rfa7),
  (0x0B, fun f => .agu0BaseimmRs f.p f.x f.rfa7),
  (0x1B, fun f => .agu0BaseimmRv f.p f.x f.rfa7),
  (0x2B, fun f => .agu0BaseimmWs f.p f.x f.rfa7),
  (0x3B, fun f => .agu0BaseimmWv f.p f.x f.rfa7),
  (0x0C, fun f => .agu0AbsRs f.p f.x f.rfa7),
  (0x1C, fun f => .agu0AbsRv f.p f.x f.rfa7),
  (0x2C, fun f => .agu0AbsWs f.p f.x f.rfa7),
  (0x3C, fun f => .agu0AbsWv f.p f.x f.rfa7),
  (0x0D, fun f => .agu0AbsldRs f.p f.x f.rfa7),
  (0x1D, fun f => .agu0AbsldRv f.p f.x f.rfa7),
  (0x2D, fun f => .agu0AbsldWs f.p f.x f.rfa7),
  (0x3D, fun f => .agu0AbsldWv f.p f.x f.rfa7),
  (0x0E, fun f => .agu0TmpRs f.p f.x f.rfa7),
  (0x1E, fun f => .agu0TmpRv f.p f.x f.rfa7),
  (0x2E, fun f => .agu0TmpWs f.p f.x f.rfa7),
  (0x3E, fun f => .agu0TmpWv f.p f.x f.rfa7),
  (0x0F, fun f => .agu0BasetmpRs f.p f.x f.rfa7),
  (0x1F, fun f => .agu0BasetmpRv f.p f.x f.rfa7),
  (0x2F, fun f => .agu0BasetmpWs f.p f.x f.rfa7),
  (0x3F, fun f => .agu0BasetmpWv f.p f.x f.rfa7)]

def agu0Table2 : List (BitVec 7 × (Agu0F → Instr)) := [
  (0x40, fun f => .agu0Nop f.p),
  (0x41, fun f => .agu0MovAAy f.p f.x),
  (0x42, fun f => .agu0SubAAT f.p f.x),
  (0x43, fun f => .agu0AddAAT f.p f.x),
  (0x44, fun f => .agu0SubAAyT f.p f.x),
  (0x45, fun f => .agu0AddAAyT f.p f.x),
  (0x46, fun f => .agu0SubTAT f.p f.x),
  (0x47, fun f => .agu0AddTAT f.p f.x),
  (0x48, fun f => .agu0AddAASimm f.p f.x),
  (0x49, fun f => .agu0AddAAySimm f.p f.x),
  (0x4A, fun f => .agu0AddTASimm f.p f.x),
  (0x4B, fun f => .agu0AddTTSimm f.p f.x),
  (0x4C, fun f => .agu0MulTASimm f.p f.x),
  (0x4D, fun f => .agu0MulTTSimm f.p f.x),
  (0x4E, fun f => .agu0MulTAMy f.p f.x),
  (0x4F, fun f => .agu0Eq f.p f.x),
  (0x50, fun f => .agu0Neq f.p f.x),
  (0x51, fun f => .agu0GeS f.p f.x),
  (0x52, fun f => .agu0GtS f.p f.x),
  (0x53, fun f => .agu0LeS f.p f.x),
  (0x54, fun f => .agu0LtS f.p f.x),
  (0x55, fun f => .agu0MovAT f.p f.x),
  (0x56, fun f => .agu0MovTA f.p f.x),
  (0x57, fun f => .agu0MovTM f.p f.x),
  (0x58, fun f => .agu0MovTS f.p f.x),
  (0x59, fun f => .agu0MovTL f.p f.x),
  (0x5A, fun f => .agu0AddltAML f.p f.x),
  (0x5B, fun f => .agu0SubgtAM f.p f.x),
  (0x5C, fun f => .agu0SubgtAT f.p f.x),
  (0x5D, fun f => .agu0AddltATL f.p f.x),
  (0x5E, fun f => .agu0SubgtASimm f.p f.x),
  (0x5F, fun f => .agu0MovASimm f.p f.x)]

def agu0Table3 : List (BitVec 7 × (Agu0F → Instr)) := [
  (0x60, fun f => .agu0ClrT f.p f.x),
  (0x61, fun f => .agu0AbsA f.p f.x),
  (0x62, fun f => .agu0AbsTA f.p f.x),
  (0x63, fun f => .agu0NegTM f.p f.x),
  (0x64, fun f => .agu0MovTUimm4 f.p f.x),
  (0x65, fun f => .agu0Bittest f.p f.x),
  (0x66, fun f => .agu0ShlAT f.p f.x),
  (0x67, fun f => .agu0ShrAT f.p f.x),
  (0x68, fun f => .agu0SarAT f.p f.x),
  (0x69, fun f => .agu0AndAT f.p f.x),
  (0x6A, fun f => .agu0OrAT f.p f.x),
  (0x6B, fun f => .agu0XorAT f.p f.x),
  (0x6C, fun f => .agu0SubuAAT f.p f.x),
  (0x6D, fun f => .agu0AdduAAT f.p f.x),
  (0x6E, fun f => .agu0SubuAAyT f.p f.x),
  (0x6F, fun f => .agu0AdduAAyT f.p f.x),
  (0x70, fun f => .agu0SubuTAT f.p f.x),
  (0x71, fun f => .agu0AdduTAT f.p f.x),
  (0x72, fun f => .agu0AdduAAImm f.p f.x),
  (0x73, fun f => .agu0AdduAAyImm f.p f.x),
  (0x74, fun f => .agu0AdduTAImm f.p f.x),
  (0x75, fun f => .agu0AdduTTImm f.p f.x),
  (0x76, fun f => .agu0MuluTAImm f.p f.x),
  (0x77, fun f => .agu0MuluTTImm f.p f.x),
  (0x78, fun f => .agu0MuluTAMy f.p f.x),
  (0x79, fun f => .agu0GeU f.p f.x),
  (0x7A, fun f => .agu0GtU f.p f.x),
  (0x7B, fun f => .agu0LeU f.p f.x),
  (0x7C, fun f => .agu0LtU f.p f.x),
  (0x7D, fun f => .agu0AddltuAML f.p f.x),
  (0x7E, fun f => .agu0SubgtuAM f.p f.x)]

def agu0Table : List (BitVec 7 × (Agu0F → Instr)) := agu0Table0 ++ agu0Table1 ++ agu0Table2 ++ agu0Table3

def agu1Table0 : List (BitVec 7 × (Agu1F → Instr)) := [
  (0x00, fun f => .agu1DirRs f.p f.x f.rfa5),
  (0x10, fun f => .agu1DirRv f.p f.x f.rfa5),
  (0x20, fun f => .agu1DirWs f.p f.x),
  (0x30, fun f => .agu1DirWv f.p f.x),
  (0x01, fun f => .agu1PostincRs f.p f.x f.rfa5),
  (0x11, fun f => .agu1PostincRv f.p f.x f.rfa5),
  (0x21, fun f => .agu1PostincWs f.p f.x),
  (0x31, fun f => .agu1PostincWv f.p f.x),
  (0x02, fun f => .agu1PostdecRs f.p f.x f.rfa5),
  (0x12, fun f => .agu1PostdecRv f.p f.x f.rfa5),
  (0x22, fun f => .agu1PostdecWs f.p f.x),
  (0x32, fun f => .agu1PostdecWv f.p f.x),
  (0x03, fun f => .agu1PreincRs f.p f.x f.rfa5),
  (0x13, fun f => .agu1PreincRv f.p f.x f.rfa5),
  (0x23, fun f => .agu1PreincWs f.p f.x),
  (0x33, fun f => .agu1PreincWv f.p f.x),
  (0x04, fun f => .agu1PredecRs f.p f.x f.rfa5),
  (0x14, fun f => .agu1PredecRv f.p f.x f.rfa5),
  (0x24, fun f => .agu1PredecWs f.p f.x),
  (0x34, fun f => .agu1PredecWv f.p f.x),
  (0x05, fun f => .agu1Postinc2Rs f.p f.x f.rfa5),
  (0x15, fun f => .agu1Postinc2Rv f.p f.x f.rfa5),
  (0x25, fun f => .agu1Postinc2Ws f.p f.x),
  (0x35, fun f => .agu1Postinc2Wv f.p f.x),
  (0x06, fun f => .agu1Postdec2Rs f.p f.x f.rfa5),
  (0x16, fun f => .agu1Postdec2Rv f.p f.x f.rfa5),
  (0x26, fun f => .agu1Postdec2Ws f.p f.x),
  (0x36, fun f => .agu1Postdec2Wv f.p f.x),
  (0x07, fun f => .agu1Preinc2Rs f.p f.x f.rfa5),
  (0x17, fun f => .agu1Preinc2Rv f.p f.x f.rfa5),
  (0x27, fun f => .agu1Preinc2Ws f.p f.x),
  (0x37, fun f => .agu1Preinc2Wv f.p f.x)]

def agu1Table1 : List (BitVec 7 × (Agu1F → Instr)) := [
  (0x08, fun f => .agu1IndexRs f.p f.x f.rfa5),
  (0x18, fun f => .agu1IndexRv f.p f.x f.rfa5),
  (0x28, fun f => .agu1IndexWs f.p f.x),
  (0x38, fun f => .agu1IndexWv f.p f.x),
  (0x09, fun f => .agu1Base2immuRs f.p f.x f.rfa5),
  (0x19, fun f => .agu1Base2immuRv f.p f.x f.rfa5),
  (0x29, fun f => .agu1Base2immuWs f.p f.x),
  (0x39, fun f => .agu1Base2immuWv f.p f.x),
  (0x0A, fun f => .agu1BaseimmuRs f.p f.x f.rfa5),
  (0x1A, fun f => .agu1BaseimmuRv f.p f.x f.rfa5),
  (0x2A, fun f => .agu1BaseimmuWs f.p f.x),
  (0x3A, fun f => .agu1BaseimmuWv f.p f.x),
  (0x0B, fun f => .agu1BaseimmRs f.p f.x f.rfa5),
  (0x1B, fun f => .agu1BaseimmRv f.p f.x f.rfa5),
  (0x2B, fun f => .agu1BaseimmWs f.p f.x),
  (0x3B, fun f => .agu1BaseimmWv f.p f.x),
  (0x0C, fun f => .agu1AbsRs f.p f.x f.rfa5),
  (0x1C, fun f => .agu1AbsRv f.p f.x f.rfa5),
  (0x2C, fun f => .agu1AbsWs f.p f.x),
  (0x3C, fun f => .agu1AbsWv f.p f.x),
  (0x0D, fun f => .agu1AbsldRs f.p f.x f.rfa5),
  (0x1D, fun f => .agu1AbsldRv f.p f.x f.rfa5),
  (0x2D, fun f => .agu1AbsldWs f.p f.x),
  (0x3D, fun f => .agu1AbsldWv f.p f.x),
  (0x0E, fun f => .agu1TmpRs f.p f.x f.rfa5),
  (0x1E, fun f => .agu1TmpRv f.p f.x f.rfa5),
  (0x2E, fun f => .agu1TmpWs f.p f.x),
  (0x3E, fun f => .agu1TmpWv f.p f.x),
  (0x0F, fun f => .agu1BasetmpRs f.p f.x f.rfa5),
  (0x1F, fun f => .agu1BasetmpRv f.p f.x f.rfa5),
  (0x2F, fun f => .agu1BasetmpWs f.p f.x),
  (0x3F, fun f => .agu1BasetmpWv f.p f.x)]

def agu1Table2 : List (BitVec 7 × (Agu1F → Instr)) := [
  (0x40, fun f => .agu1Nop f.p),
  (0x41, fun f => .agu1MovAAy f.p f.x),
  (0x42, fun f => .agu1SubAAT f.p f.x),
  (0x43, fun f => .agu1AddAAT f.p f.x),
  (0x44, fun f => .agu1SubAAyT f.p f.x),
  (0x45, fun f => .agu1AddAAyT f.p f.x),
  (0x46, fun f => .agu1SubTAT f.p f.x),
  (0x47, fun f => .agu1AddTAT f.p f.x),
  (0x48, fun f => .agu1AddAASimm f.p f.x),
  (0x49, fun f => .agu1AddAAySimm f.p f.x),
  (0x4A, fun f => .agu1AddTASimm f.p f.x),
  (0x4B, fun f => .agu1AddTTSimm f.p f.x),
  (0x4C, fun f => .agu1MulTASimm f.p f.x),
  (0x4D, fun f => .agu1MulTTSimm f.p f.x),
  (0x4E, fun f => .agu1MulTAMy f.p f.x),
  (0x4F, fun f => .agu1Eq f.p f.x),
  (0x50, fun f => .agu1Neq f.p f.x),
  (0x51, fun f => .agu1GeS f.p f.x),
  (0x52, fun f => .agu1GtS f.p f.x),
  (0x53, fun f => .agu1LeS f.p f.x),
  (0x54, fun f => .agu1LtS f.p f.x),
  (0x55, fun f => .agu1MovAT f.p f.x),
  (0x56, fun f => .agu1MovTA f.p f.x),
  (0x57, fun f => .agu1MovTM f.p f.x),
  (0x58, fun f => .agu1MovTS f.p f.x),
  (0x59, fun f => .agu1MovTL f.p f.x),
  (0x5A, fun f => .agu1AddltAML f.p f.x),
  (0x5B, fun f => .agu1SubgtAM f.p f.x),
  (0x5C, fun f => .agu1SubgtAT f.p f.x),
  (0x5D, fun f => .agu1AddltATL f.p f.x),
  (0x5E, fun f => .agu1SubgtASimm f.p f.x),
  (0x5F, fun f => .agu1MovASimm f.p f.x)]

def agu1Table3 : List (BitVec 7 × (Agu1F → Instr)) := [
  (0x60, fun f => .agu1ClrT f.p f.x),
  (0x61, fun f => .agu1AbsA f.p f.x),
  (0x62, fun f => .agu1AbsTA f.p f.x),
  (0x63, fun f => .agu1NegTM f.p f.x),
  (0x64, fun f => .agu1MovTUimm4 f.p f.x),
  (0x65, fun f => .agu1Bittest f.p f.x),
  (0x66, fun f => .agu1ShlAT f.p f.x),
  (0x67, fun f => .agu1ShrAT f.p f.x),
  (0x68, fun f => .agu1SarAT f.p f.x),
  (0x69, fun f => .agu1AndAT f.p f.x),
  (0x6A, fun f => .agu1OrAT f.p f.x),
  (0x6B, fun f => .agu1XorAT f.p f.x),
  (0x6C, fun f => .agu1SubuAAT f.p f.x),
  (0x6D, fun f => .agu1AdduAAT f.p f.x),
  (0x6E, fun f => .agu1SubuAAyT f.p f.x),
  (0x6F, fun f => .agu1AdduAAyT f.p f.x),
  (0x70, fun f => .agu1SubuTAT f.p f.x),
  (0x71, fun f => .agu1AdduTAT f.p f.x),
  (0x72, fun f => .agu1AdduAAImm f.p f.x),
  (0x73, fun f => .agu1AdduAAyImm f.p f.x),
  (0x74, fun f => .agu1AdduTAImm f.p f.x),
  (0x75, fun f => .agu1AdduTTImm f.p f.x),
  (0x76, fun f => .agu1MuluTAImm f.p f.x),
  (0x77, fun f => .agu1MuluTTImm f.p f.x),
  (0x78, fun f => .agu1MuluTAMy f.p f.x),
  (0x79, fun f => .agu1GeU f.p f.x),
  (0x7A, fun f => .agu1GtU f.p f.x),
  (0x7B, fun f => .agu1LeU f.p f.x),
  (0x7C, fun f => .agu1LtU f.p f.x),
  (0x7D, fun f => .agu1AddltuAML f.p f.x),
  (0x7E, fun f => .agu1SubgtuAM f.p f.x)]

def agu1Table : List (BitVec 7 × (Agu1F → Instr)) := agu1Table0 ++ agu1Table1 ++ agu1Table2 ++ agu1Table3

def flowTable0 : List (BitVec 6 × (FlowF → Instr)) := [
  (0x01, fun f => .immv f.p f.rfa7 f.imm f.imml),
  (0x02, fun f => .immvc f.p f.rfa7 f.imm),
  (0x03, fun f => .immsi f.p f.rfa7 f.imm),
  (0x04, fun f => .immsf f.p f.rfa7 f.imm),
  (0x05, fun f => .immsic f.p f.rfa7 f.r),
  (0x06, fun f => .immsfc f.p f.rfa7 f.r),
  (0x07, fun f => .imm0v f.p f.rfa7),
  (0x08, fun f => .imm0s f.p f.rfa7),
  (0x09, fun f => .movv f.p f.rfa7 f.rfa5),
  (0x0A, fun f => .movs f.p f.rfa7 f.rfa5),
  (0x0B, fun f => .movvf f.p f.rfa7 f.rfa0),
  (0x0C, fun f => .movsf f.p f.rfa7 f.rfa0),
  (0x0D, fun f => .movss f.p f.rfa7 f.rfa5),
  (0x0E, fun f => .pushOp f.p),
  (0x0F, fun f => .pushAgu0 f.p),
  (0x10, fun f => .pushAgu1 f.p),
  (0x11, fun f => .pop f.p),
  (0x12, fun f => .flowTrue f.p),
  (0x13, fun f => .flowFalse f.p),
  (0x14, fun f => .fsnot f.p),
  (0x15, fun f => .fsand f.p),
  (0x16, fun f => .fsor f.p),
  (0x17, fun f => .fsxor f.p),
  (0x18, fun f => .repush f.p),
  (0x19, fun f => .fsswap f.p),
  (0x1A, fun f => .fsand2 f.p),
  (0x1B, fun f => .fsi2q f.p),
  (0x1C, fun f => .fsq2i f.p),
  (0x2E, fun f => .clrp f.p f.r),
  (0x2F, fun f => .setp f.r),
  (0x30, fun f => .setpv f.r f.p),
  (0x31, fun f => .settop f.p f.r)]

def flowTable1 : List (BitVec 6 × (FlowF → Instr)) := [
  (0x32, fun f => .setop f.p f.r),
  (0x33, fun f => .setagu0 f.p f.r),
  (0x34, fun f => .setagu1 f.p f.r),
  (0x35, fun f => .setnotp f.p f.r),
  (0x36, fun f => .setnot f.p f.r),
  (0x26, fun f => .br f.p f.jt f.off),
  (0x27, fun f => .brReg f.p f.jt),
  (0x28, fun f => .call f.p f.jt f.off),
  (0x29, fun f => .callReg f.p f.jt),
  (0x2C, fun f => .ret f.p),
  (0x2D, fun f => .reti f.p),
  (0x37, fun f => .repb f.p f.off),
  (0x3B, fun f => .swpipe f.on (f.k2 ++ f.p)),
  (0x1D, fun f => .watchint f.p),
  (0x1E, fun f => .sleepon f.p),
  (0x1F, fun f => .sirq f.p f.r),
  (0x23, fun f => .halt f.p),
  (0x24, fun f => .writedma f.p),
  (0x38, fun f => .readdma f.p),
  (0x2B, fun f => .prefetchReg f.p),
  (0x3A, fun f => .prefetchOff f.p f.off),
  (0x3D, fun f => .pmucmd f.p f.r)]

def flowTable : List (BitVec 6 × (FlowF → Instr)) := flowTable0 ++ flowTable1

/-! ## One issue -/

/-- The operation an issue's fields hold; none for an unassigned code (R295, R296). -/
def decodeIssue (i : Issue) (w : Bundle) : Option Instr :=
  match i with
  | .add => (pick (addCode w) addTable).map (fun mk => mk (AddF.of w))
  | .mul => (pick (mulCode w) mulTable).map (fun mk => mk (MulF.of w))
  | .agu0 => (pick (agu0Code w) agu0Table).map (fun mk => mk (Agu0F.of w))
  | .agu1 => (pick (agu1Code w) agu1Table).map (fun mk => mk (Agu1F.of w))
  | .flow => (pick (flowCode w) flowTable).map (fun mk => mk (FlowF.of w))

/-! ## Inhibition (R332, R262) -/

/-- The bit of an issue in an inhibition mask. -/
def inhibitAdd : BitVec 4 := 1
def inhibitAgu1 : BitVec 4 := 2
def inhibitMul : BitVec 4 := 4
def inhibitAgu0 : BitVec 4 := 8

/-- The issues a FLOW code inhibits (R332). -/
def flowInhibits (c : BitVec 6) : BitVec 4 :=
  if c = 0x01 then inhibitAdd ||| inhibitAgu1 ||| inhibitMul ||| inhibitAgu0
  else if c = 0x02 || c = 0x03 || c = 0x04 then inhibitMul ||| inhibitAgu0
  else if c = 0x0B || c = 0x0C || c = 0x26 || c = 0x27 || c = 0x28 || c = 0x29 || c = 0x37 || c = 0x3A then inhibitMul
  else 0

/-- The AGU codes that take a second ARF index or a 16-bit immediate (R262). -/
def aguExtCode (c : BitVec 7) : Bool :=
  let n := c.toNat
  if n < 64 then [0x5, 0x6, 0x7, 0x9, 0xA, 0xB, 0xC, 0xD].contains (n % 16)
  else
    [0x01, 0x04, 0x05, 0x08, 0x09, 0x0A, 0x0B, 0x0C, 0x0D, 0x0E, 0x1E, 0x1F, 0x2E, 0x2F, 0x32, 0x33, 0x34, 0x35,
      0x36, 0x37, 0x38].contains (n - 64)

/-- The inhibited issues of a word: FLOW's, then those of AGU0's extra operands, then those of AGU1's (R332). The order
between the two units is a DESIGN CHOICE (log 9). -/
def inhibited (w : Bundle) : BitVec 4 :=
  let f := flowInhibits (flowCode w)
  let g := if !f.getLsbD 3 && aguExtCode (agu0Code w) then f ||| (Config.aguExtInhibits w false &&& ~~~inhibitAgu0) else f
  if !g.getLsbD 1 && aguExtCode (agu1Code w) then g ||| (Config.aguExtInhibits w true &&& ~~~inhibitAgu1) else g

/-! ## The whole word -/

/-- What one issue of a decoded word holds. -/
inductive Slot where
  | op (i : Instr)
  /-- an unassigned code -/
  | unknown
  /-- the fields belong to another issue's format -/
  | off
  deriving DecidableEq, Repr

/-- A decoded word. -/
structure Slots where
  add : Slot
  agu1 : Slot
  mul : Slot
  agu0 : Slot
  flow : Slot
  deriving DecidableEq, Repr

/-- The slot of an issue. -/
def slotOf (off : Bool) (o : Option Instr) : Slot :=
  if off then .off
  else
    match o with
    | some i => .op i
    | none => .unknown

/-- Decode a program word: total on every word. -/
def decodeBundle (w : Bundle) : Slots :=
  let n := inhibited w
  { add := slotOf (n.getLsbD 0) (decodeIssue .add w)
    agu1 := slotOf (n.getLsbD 1) (decodeIssue .agu1 w)
    mul := slotOf (n.getLsbD 2) (decodeIssue .mul w)
    agu0 := slotOf (n.getLsbD 3) (decodeIssue .agu0 w)
    flow := slotOf false (decodeIssue .flow w) }

/-! ## Bytes (R172) -/

/-- The sixteen bytes of a program word, the lowest address first. -/
def bytesOf (w : Bundle) : List (BitVec 8) := (List.range 16).map (fun i => getField w (8 * i) 8)

/-- Why bytes are no program word or an issue no operation. -/
inductive DecodeError where
  /-- fewer or more than sixteen bytes -/
  | notOneWord
  /-- the issue's code is unassigned -/
  | unknownCode (i : Issue)
  deriving DecidableEq, Repr

/-- The program word sixteen bytes hold. -/
def ofBytes (l : List (BitVec 8)) : Bundle :=
  l.foldr (fun (b : BitVec 8) (acc : Bundle) => (acc <<< 8) ||| b.setWidth 128) 0

/-- The operation of one issue in the bytes of a program word, total on any bytes. -/
def decodeBytes (i : Issue) (l : List (BitVec 8)) : Except DecodeError Instr :=
  if l.length = 16 then
    match decodeIssue i (ofBytes l) with
    | some x => .ok x
    | none => .error (.unknownCode i)
  else .error .notOneWord

/-! ## The encoder -/

/-- The word that does nothing: watchint and the four no-operations (R296, R297). -/
def nopWord : Bundle := 0x003A0000800000001FC0800000001FC0

def addNopWord (c : BitVec 7) (p : BitVec 2) : Bundle := setField (setField nopWord 6 c) 4 p
def addCmpWord (c : BitVec 7) (p : BitVec 2) (s1 s2 : BitVec 8) : Bundle :=
  setField (setField (addNopWord c p) 13 s1) 21 s2
def addWord (c : BitVec 7) (p : BitVec 2) (d s1 s2 : BitVec 8) : Bundle := setField (addCmpWord c p s1 s2) 29 d
def addWord2 (c : BitVec 7) (p : BitVec 2) (d1 d2 s1 s2 : BitVec 8) : Bundle :=
  setField (addWord c p d1 s1 s2) 96 d2

def mulNopWord (c : BitVec 7) (p : BitVec 2) : Bundle := setField (setField nopWord 54 c) 52 p
def mulWord1 (c : BitVec 7) (p : BitVec 2) (d s1 : BitVec 8) : Bundle :=
  setField (setField (mulNopWord c p) 77 d) 61 s1
def mulWord (c : BitVec 7) (p : BitVec 2) (d s1 s2 : BitVec 8) : Bundle := setField (mulWord1 c p d s1) 69 s2

def agu0NopWord (c : BitVec 7) (p : BitVec 2) : Bundle := setField (setField nopWord 89 c) 0 p
def agu0Word1 (c : BitVec 7) (p : BitVec 2) (x : BitVec 4) : Bundle := setField (agu0NopWord c p) 85 x
def agu0Word (c : BitVec 7) (p : BitVec 2) (x : BitVec 4) (rfa7 : BitVec 9) : Bundle :=
  setField (agu0Word1 c p x) 104 rfa7

def agu1NopWord (c : BitVec 7) (p : BitVec 2) : Bundle := setField (setField nopWord 41 c) 48 p
def agu1Word (c : BitVec 7) (p : BitVec 2) (x : BitVec 4) : Bundle := setField (agu1NopWord c p) 37 x
def agu1ReadWord (c : BitVec 7) (p : BitVec 2) (x : BitVec 4) (rfa5 : BitVec 8) : Bundle :=
  setField (agu1Word c p x) 96 rfa5

/-- A FLOW code over the no-operation word. -/
def flowWord (c : BitVec 6) : Bundle := setField nopWord 113 c
def bareWord (c : BitVec 6) (p : BitVec 2) : Bundle := setField (flowWord c) 2 p
def imm0Word (c : BitVec 6) (p : BitVec 2) (rfa7 : BitVec 9) : Bundle := setField (bareWord c p) 104 rfa7
def immcWord (c : BitVec 6) (p : BitVec 2) (rfa7 : BitVec 9) (sel : BitVec 2) : Bundle :=
  setField (imm0Word c p rfa7) 50 sel
def imm40Word (c : BitVec 6) (p : BitVec 2) (rfa7 : BitVec 9) (imm : BitVec 40) : Bundle :=
  setField (imm0Word c p rfa7) 53 imm
def immvWord (c : BitVec 6) (p : BitVec 2) (rfa7 : BitVec 9) (immh imml : BitVec 40) : Bundle :=
  setField (imm40Word c p rfa7 immh) 4 imml
def movWord (c : BitVec 6) (p : BitVec 2) (rfa7 : BitVec 9) (src : BitVec 8) : Bundle :=
  setField (imm0Word c p rfa7) 96 src
def movfWord (c : BitVec 6) (p : BitVec 2) (rfa7 : BitVec 9) (src : BitVec 8) : Bundle :=
  setField (imm0Word c p rfa7) 69 src
def setpWord (c : BitVec 6) (r : BitVec 2) : Bundle := setField (flowWord c) 50 r
def psetWord (c : BitVec 6) (p r : BitVec 2) : Bundle := setField (bareWord c p) 50 r
def setpvWord (c : BitVec 6) (r imm : BitVec 2) : Bundle := setField (setpWord c r) 2 imm
def jregWord (c : BitVec 6) (p : BitVec 2) (jt : BitVec 8) : Bundle := setField (bareWord c p) 77 jt
def offWord (c : BitVec 6) (p : BitVec 2) (off : BitVec 16) : Bundle := setField (bareWord c p) 61 off
def jrelWord (c : BitVec 6) (p : BitVec 2) (jt : BitVec 8) (off : BitVec 16) : Bundle :=
  setField (jregWord c p jt) 61 off
def swpipeWord (c : BitVec 6) (on : BitVec 1) (k : BitVec 3) : Bundle :=
  setField (setField (setField (flowWord c) 51 on) 50 (k.extractLsb' 2 1)) 2 (k.extractLsb' 0 2)

/-- The issue of an instruction. -/
def issueOf : Instr → Issue
  | .cfaddPP _ _ _ _ => .add
  | .cfaddPN _ _ _ _ => .add
  | .cfaddNN _ _ _ _ => .add
  | .cfaddNP _ _ _ _ => .add
  | .cfjaddPP _ _ _ _ => .add
  | .cfjaddPN _ _ _ _ => .add
  | .cfjaddNN _ _ _ _ => .add
  | .cfjaddNP _ _ _ _ => .add
  | .cjjaddPP _ _ _ _ => .add
  | .cjjaddPN _ _ _ _ => .add
  | .cjjaddNN _ _ _ _ => .add
  | .cjjaddNP _ _ _ _ => .add
  | .cfraddPP _ _ _ _ => .add
  | .cfraddPN _ _ _ _ => .add
  | .cfraddNN _ _ _ _ => .add
  | .cfraddNP _ _ _ _ => .add
  | .ciaddPP _ _ _ _ => .add
  | .ciaddPN _ _ _ _ => .add
  | .ciaddNN _ _ _ _ => .add
  | .ciaddNP _ _ _ _ => .add
  | .cijaddPP _ _ _ _ => .add
  | .cijaddPN _ _ _ _ => .add
  | .cijaddNN _ _ _ _ => .add
  | .cijaddNP _ _ _ _ => .add
  | .cijjaddPP _ _ _ _ => .add
  | .cijjaddPN _ _ _ _ => .add
  | .cijjaddNN _ _ _ _ => .add
  | .cijjaddNP _ _ _ _ => .add
  | .ciraddPP _ _ _ _ => .add
  | .ciraddPN _ _ _ _ => .add
  | .ciraddNN _ _ _ _ => .add
  | .ciraddNP _ _ _ _ => .add
  | .vfabsaddPP _ _ _ _ => .add
  | .vfabsaddPN _ _ _ _ => .add
  | .vfabsaddNN _ _ _ _ => .add
  | .vfabsaddNP _ _ _ _ => .add
  | .viabsaddPP _ _ _ _ => .add
  | .viabsaddPN _ _ _ _ => .add
  | .viabsaddNN _ _ _ _ => .add
  | .viabsaddNP _ _ _ _ => .add
  | .vfaddsub _ _ _ _ _ => .add
  | .faddPP _ _ _ _ => .add
  | .faddPN _ _ _ _ => .add
  | .faddNN _ _ _ _ => .add
  | .faddNP _ _ _ _ => .add
  | .faddsub _ _ _ _ _ => .add
  | .iaddPP _ _ _ _ => .add
  | .iaddPN _ _ _ _ => .add
  | .iaddNN _ _ _ _ => .add
  | .iaddNP _ _ _ _ => .add
  | .iaddsub _ _ _ _ _ => .add
  | .fabsaddPP _ _ _ _ => .add
  | .fabsaddPN _ _ _ _ => .add
  | .fabsaddNN _ _ _ _ => .add
  | .fabsaddNP _ _ _ _ => .add
  | .iabsaddPP _ _ _ _ => .add
  | .iabsaddPN _ _ _ _ => .add
  | .iabsaddNN _ _ _ _ => .add
  | .iabsaddNP _ _ _ _ => .add
  | .vfmin _ _ _ _ => .add
  | .vimin _ _ _ _ => .add
  | .vfmax _ _ _ _ => .add
  | .vimax _ _ _ _ => .add
  | .vfminmax _ _ _ _ _ => .add
  | .viminmax _ _ _ _ _ => .add
  | .vswap _ _ _ _ _ => .add
  | .fmin _ _ _ _ => .add
  | .imin _ _ _ _ => .add
  | .fmax _ _ _ _ => .add
  | .imax _ _ _ _ => .add
  | .fminmax _ _ _ _ _ => .add
  | .iminmax _ _ _ _ _ => .add
  | .fsel _ _ _ _ => .add
  | .isel _ _ _ _ => .add
  | .swap _ _ _ _ _ => .add
  | .viaddsub _ _ _ _ _ => .add
  | .addNop _ => .add
  | .cfeq _ _ _ => .add
  | .cfne _ _ _ => .add
  | .vfeq _ _ _ => .add
  | .vflt _ _ _ => .add
  | .vfgt _ _ _ => .add
  | .vfle _ _ _ => .add
  | .vfge _ _ _ => .add
  | .vfne _ _ _ => .add
  | .vieq _ _ _ => .add
  | .vilt _ _ _ => .add
  | .vigt _ _ _ => .add
  | .vile _ _ _ => .add
  | .vige _ _ _ => .add
  | .vine _ _ _ => .add
  | .feq _ _ _ => .add
  | .flt _ _ _ => .add
  | .fgt _ _ _ => .add
  | .fle _ _ _ => .add
  | .fge _ _ _ => .add
  | .fne _ _ _ => .add
  | .ieq _ _ _ => .add
  | .ilt _ _ _ => .add
  | .igt _ _ _ => .add
  | .ile _ _ _ => .add
  | .ige _ _ _ => .add
  | .ine _ _ _ => .add
  | .cieq _ _ _ => .add
  | .cine _ _ _ => .add
  | .cfmulP _ _ _ _ => .mul
  | .cfmulN _ _ _ _ => .mul
  | .cfjmulP _ _ _ _ => .mul
  | .cfjmulN _ _ _ _ => .mul
  | .cfjmmulP _ _ _ _ => .mul
  | .cfjmmulN _ _ _ _ => .mul
  | .cfrmulP _ _ _ _ => .mul
  | .cfrmulN _ _ _ _ => .mul
  | .cimulP _ _ _ _ => .mul
  | .cimulN _ _ _ _ => .mul
  | .cijmulP _ _ _ _ => .mul
  | .cijmulN _ _ _ _ => .mul
  | .cijmmulP _ _ _ _ => .mul
  | .cijmmulN _ _ _ _ => .mul
  | .cirmulP _ _ _ _ => .mul
  | .cirmulN _ _ _ _ => .mul
  | .vfmulP _ _ _ _ => .mul
  | .vfmulN _ _ _ _ => .mul
  | .vimulP _ _ _ _ => .mul
  | .vimulN _ _ _ _ => .mul
  | .fmulP _ _ _ _ => .mul
  | .fmulN _ _ _ _ => .mul
  | .imulP _ _ _ _ => .mul
  | .imulN _ _ _ _ => .mul
  | .vsh _ _ _ _ => .mul
  | .vshand _ _ _ _ => .mul
  | .vshor _ _ _ _ => .mul
  | .vshxor _ _ _ _ => .mul
  | .vbitset _ _ _ _ => .mul
  | .vbitclr _ _ _ _ => .mul
  | .vbittgl _ _ _ _ => .mul
  | .vbittst _ _ _ _ => .mul
  | .sh _ _ _ _ => .mul
  | .shand _ _ _ _ => .mul
  | .shor _ _ _ _ => .mul
  | .shxor _ _ _ _ => .mul
  | .bitset _ _ _ _ => .mul
  | .bitclr _ _ _ _ => .mul
  | .bittgl _ _ _ _ => .mul
  | .bittst _ _ _ _ => .mul
  | .vftoi _ _ _ => .mul
  | .vitof _ _ _ => .mul
  | .ftoi _ _ _ => .mul
  | .itof _ _ _ => .mul
  | .vrf2rf _ _ _ => .mul
  | .rf2rf _ _ _ => .mul
  | .invseed _ _ _ => .mul
  | .invsqrtseed _ _ _ => .mul
  | .vinvseed _ _ _ => .mul
  | .vinvsqrtseed _ _ _ => .mul
  | .mulNop _ => .mul
  | .agu0DirRs _ _ _ => .agu0
  | .agu0DirRv _ _ _ => .agu0
  | .agu0DirWs _ _ _ => .agu0
  | .agu0DirWv _ _ _ => .agu0
  | .agu1DirRs _ _ _ => .agu1
  | .agu1DirRv _ _ _ => .agu1
  | .agu1DirWs _ _ => .agu1
  | .agu1DirWv _ _ => .agu1
  | .agu0PostincRs _ _ _ => .agu0
  | .agu0PostincRv _ _ _ => .agu0
  | .agu0PostincWs _ _ _ => .agu0
  | .agu0PostincWv _ _ _ => .agu0
  | .agu1PostincRs _ _ _ => .agu1
  | .agu1PostincRv _ _ _ => .agu1
  | .agu1PostincWs _ _ => .agu1
  | .agu1PostincWv _ _ => .agu1
  | .agu0PostdecRs _ _ _ => .agu0
  | .agu0PostdecRv _ _ _ => .agu0
  | .agu0PostdecWs _ _ _ => .agu0
  | .agu0PostdecWv _ _ _ => .agu0
  | .agu1PostdecRs _ _ _ => .agu1
  | .agu1PostdecRv _ _ _ => .agu1
  | .agu1PostdecWs _ _ => .agu1
  | .agu1PostdecWv _ _ => .agu1
  | .agu0PreincRs _ _ _ => .agu0
  | .agu0PreincRv _ _ _ => .agu0
  | .agu0PreincWs _ _ _ => .agu0
  | .agu0PreincWv _ _ _ => .agu0
  | .agu1PreincRs _ _ _ => .agu1
  | .agu1PreincRv _ _ _ => .agu1
  | .agu1PreincWs _ _ => .agu1
  | .agu1PreincWv _ _ => .agu1
  | .agu0PredecRs _ _ _ => .agu0
  | .agu0PredecRv _ _ _ => .agu0
  | .agu0PredecWs _ _ _ => .agu0
  | .agu0PredecWv _ _ _ => .agu0
  | .agu1PredecRs _ _ _ => .agu1
  | .agu1PredecRv _ _ _ => .agu1
  | .agu1PredecWs _ _ => .agu1
  | .agu1PredecWv _ _ => .agu1
  | .agu0Postinc2Rs _ _ _ => .agu0
  | .agu0Postinc2Rv _ _ _ => .agu0
  | .agu0Postinc2Ws _ _ _ => .agu0
  | .agu0Postinc2Wv _ _ _ => .agu0
  | .agu1Postinc2Rs _ _ _ => .agu1
  | .agu1Postinc2Rv _ _ _ => .agu1
  | .agu1Postinc2Ws _ _ => .agu1
  | .agu1Postinc2Wv _ _ => .agu1
  | .agu0Postdec2Rs _ _ _ => .agu0
  | .agu0Postdec2Rv _ _ _ => .agu0
  | .agu0Postdec2Ws _ _ _ => .agu0
  | .agu0Postdec2Wv _ _ _ => .agu0
  | .agu1Postdec2Rs _ _ _ => .agu1
  | .agu1Postdec2Rv _ _ _ => .agu1
  | .agu1Postdec2Ws _ _ => .agu1
  | .agu1Postdec2Wv _ _ => .agu1
  | .agu0Preinc2Rs _ _ _ => .agu0
  | .agu0Preinc2Rv _ _ _ => .agu0
  | .agu0Preinc2Ws _ _ _ => .agu0
  | .agu0Preinc2Wv _ _ _ => .agu0
  | .agu1Preinc2Rs _ _ _ => .agu1
  | .agu1Preinc2Rv _ _ _ => .agu1
  | .agu1Preinc2Ws _ _ => .agu1
  | .agu1Preinc2Wv _ _ => .agu1
  | .agu0IndexRs _ _ _ => .agu0
  | .agu0IndexRv _ _ _ => .agu0
  | .agu0IndexWs _ _ _ => .agu0
  | .agu0IndexWv _ _ _ => .agu0
  | .agu1IndexRs _ _ _ => .agu1
  | .agu1IndexRv _ _ _ => .agu1
  | .agu1IndexWs _ _ => .agu1
  | .agu1IndexWv _ _ => .agu1
  | .agu0Base2immuRs _ _ _ => .agu0
  | .agu0Base2immuRv _ _ _ => .agu0
  | .agu0Base2immuWs _ _ _ => .agu0
  | .agu0Base2immuWv _ _ _ => .agu0
  | .agu1Base2immuRs _ _ _ => .agu1
  | .agu1Base2immuRv _ _ _ => .agu1
  | .agu1Base2immuWs _ _ => .agu1
  | .agu1Base2immuWv _ _ => .agu1
  | .agu0BaseimmuRs _ _ _ => .agu0
  | .agu0BaseimmuRv _ _ _ => .agu0
  | .agu0BaseimmuWs _ _ _ => .agu0
  | .agu0BaseimmuWv _ _ _ => .agu0
  | .agu1BaseimmuRs _ _ _ => .agu1
  | .agu1BaseimmuRv _ _ _ => .agu1
  | .agu1BaseimmuWs _ _ => .agu1
  | .agu1BaseimmuWv _ _ => .agu1
  | .agu0BaseimmRs _ _ _ => .agu0
  | .agu0BaseimmRv _ _ _ => .agu0
  | .agu0BaseimmWs _ _ _ => .agu0
  | .agu0BaseimmWv _ _ _ => .agu0
  | .agu1BaseimmRs _ _ _ => .agu1
  | .agu1BaseimmRv _ _ _ => .agu1
  | .agu1BaseimmWs _ _ => .agu1
  | .agu1BaseimmWv _ _ => .agu1
  | .agu0AbsRs _ _ _ => .agu0
  | .agu0AbsRv _ _ _ => .agu0
  | .agu0AbsWs _ _ _ => .agu0
  | .agu0AbsWv _ _ _ => .agu0
  | .agu1AbsRs _ _ _ => .agu1
  | .agu1AbsRv _ _ _ => .agu1
  | .agu1AbsWs _ _ => .agu1
  | .agu1AbsWv _ _ => .agu1
  | .agu0AbsldRs _ _ _ => .agu0
  | .agu0AbsldRv _ _ _ => .agu0
  | .agu0AbsldWs _ _ _ => .agu0
  | .agu0AbsldWv _ _ _ => .agu0
  | .agu1AbsldRs _ _ _ => .agu1
  | .agu1AbsldRv _ _ _ => .agu1
  | .agu1AbsldWs _ _ => .agu1
  | .agu1AbsldWv _ _ => .agu1
  | .agu0TmpRs _ _ _ => .agu0
  | .agu0TmpRv _ _ _ => .agu0
  | .agu0TmpWs _ _ _ => .agu0
  | .agu0TmpWv _ _ _ => .agu0
  | .agu1TmpRs _ _ _ => .agu1
  | .agu1TmpRv _ _ _ => .agu1
  | .agu1TmpWs _ _ => .agu1
  | .agu1TmpWv _ _ => .agu1
  | .agu0BasetmpRs _ _ _ => .agu0
  | .agu0BasetmpRv _ _ _ => .agu0
  | .agu0BasetmpWs _ _ _ => .agu0
  | .agu0BasetmpWv _ _ _ => .agu0
  | .agu1BasetmpRs _ _ _ => .agu1
  | .agu1BasetmpRv _ _ _ => .agu1
  | .agu1BasetmpWs _ _ => .agu1
  | .agu1BasetmpWv _ _ => .agu1
  | .agu0Nop _ => .agu0
  | .agu1Nop _ => .agu1
  | .agu0MovAAy _ _ => .agu0
  | .agu1MovAAy _ _ => .agu1
  | .agu0SubAAT _ _ => .agu0
  | .agu1SubAAT _ _ => .agu1
  | .agu0AddAAT _ _ => .agu0
  | .agu1AddAAT _ _ => .agu1
  | .agu0SubAAyT _ _ => .agu0
  | .agu1SubAAyT _ _ => .agu1
  | .agu0AddAAyT _ _ => .agu0
  | .agu1AddAAyT _ _ => .agu1
  | .agu0SubTAT _ _ => .agu0
  | .agu1SubTAT _ _ => .agu1
  | .agu0AddTAT _ _ => .agu0
  | .agu1AddTAT _ _ => .agu1
  | .agu0AddAASimm _ _ => .agu0
  | .agu1AddAASimm _ _ => .agu1
  | .agu0AddAAySimm _ _ => .agu0
  | .agu1AddAAySimm _ _ => .agu1
  | .agu0AddTASimm _ _ => .agu0
  | .agu1AddTASimm _ _ => .agu1
  | .agu0AddTTSimm _ _ => .agu0
  | .agu1AddTTSimm _ _ => .agu1
  | .agu0MulTASimm _ _ => .agu0
  | .agu1MulTASimm _ _ => .agu1
  | .agu0MulTTSimm _ _ => .agu0
  | .agu1MulTTSimm _ _ => .agu1
  | .agu0MulTAMy _ _ => .agu0
  | .agu1MulTAMy _ _ => .agu1
  | .agu0Eq _ _ => .agu0
  | .agu1Eq _ _ => .agu1
  | .agu0Neq _ _ => .agu0
  | .agu1Neq _ _ => .agu1
  | .agu0GeS _ _ => .agu0
  | .agu1GeS _ _ => .agu1
  | .agu0GtS _ _ => .agu0
  | .agu1GtS _ _ => .agu1
  | .agu0LeS _ _ => .agu0
  | .agu1LeS _ _ => .agu1
  | .agu0LtS _ _ => .agu0
  | .agu1LtS _ _ => .agu1
  | .agu0MovAT _ _ => .agu0
  | .agu1MovAT _ _ => .agu1
  | .agu0MovTA _ _ => .agu0
  | .agu1MovTA _ _ => .agu1
  | .agu0MovTM _ _ => .agu0
  | .agu1MovTM _ _ => .agu1
  | .agu0MovTS _ _ => .agu0
  | .agu1MovTS _ _ => .agu1
  | .agu0MovTL _ _ => .agu0
  | .agu1MovTL _ _ => .agu1
  | .agu0AddltAML _ _ => .agu0
  | .agu1AddltAML _ _ => .agu1
  | .agu0SubgtAM _ _ => .agu0
  | .agu1SubgtAM _ _ => .agu1
  | .agu0SubgtAT _ _ => .agu0
  | .agu1SubgtAT _ _ => .agu1
  | .agu0AddltATL _ _ => .agu0
  | .agu1AddltATL _ _ => .agu1
  | .agu0SubgtASimm _ _ => .agu0
  | .agu1SubgtASimm _ _ => .agu1
  | .agu0MovASimm _ _ => .agu0
  | .agu1MovASimm _ _ => .agu1
  | .agu0ClrT _ _ => .agu0
  | .agu1ClrT _ _ => .agu1
  | .agu0AbsA _ _ => .agu0
  | .agu1AbsA _ _ => .agu1
  | .agu0AbsTA _ _ => .agu0
  | .agu1AbsTA _ _ => .agu1
  | .agu0NegTM _ _ => .agu0
  | .agu1NegTM _ _ => .agu1
  | .agu0MovTUimm4 _ _ => .agu0
  | .agu1MovTUimm4 _ _ => .agu1
  | .agu0Bittest _ _ => .agu0
  | .agu1Bittest _ _ => .agu1
  | .agu0ShlAT _ _ => .agu0
  | .agu1ShlAT _ _ => .agu1
  | .agu0ShrAT _ _ => .agu0
  | .agu1ShrAT _ _ => .agu1
  | .agu0SarAT _ _ => .agu0
  | .agu1SarAT _ _ => .agu1
  | .agu0AndAT _ _ => .agu0
  | .agu1AndAT _ _ => .agu1
  | .agu0OrAT _ _ => .agu0
  | .agu1OrAT _ _ => .agu1
  | .agu0XorAT _ _ => .agu0
  | .agu1XorAT _ _ => .agu1
  | .agu0SubuAAT _ _ => .agu0
  | .agu1SubuAAT _ _ => .agu1
  | .agu0AdduAAT _ _ => .agu0
  | .agu1AdduAAT _ _ => .agu1
  | .agu0SubuAAyT _ _ => .agu0
  | .agu1SubuAAyT _ _ => .agu1
  | .agu0AdduAAyT _ _ => .agu0
  | .agu1AdduAAyT _ _ => .agu1
  | .agu0SubuTAT _ _ => .agu0
  | .agu1SubuTAT _ _ => .agu1
  | .agu0AdduTAT _ _ => .agu0
  | .agu1AdduTAT _ _ => .agu1
  | .agu0AdduAAImm _ _ => .agu0
  | .agu1AdduAAImm _ _ => .agu1
  | .agu0AdduAAyImm _ _ => .agu0
  | .agu1AdduAAyImm _ _ => .agu1
  | .agu0AdduTAImm _ _ => .agu0
  | .agu1AdduTAImm _ _ => .agu1
  | .agu0AdduTTImm _ _ => .agu0
  | .agu1AdduTTImm _ _ => .agu1
  | .agu0MuluTAImm _ _ => .agu0
  | .agu1MuluTAImm _ _ => .agu1
  | .agu0MuluTTImm _ _ => .agu0
  | .agu1MuluTTImm _ _ => .agu1
  | .agu0MuluTAMy _ _ => .agu0
  | .agu1MuluTAMy _ _ => .agu1
  | .agu0GeU _ _ => .agu0
  | .agu1GeU _ _ => .agu1
  | .agu0GtU _ _ => .agu0
  | .agu1GtU _ _ => .agu1
  | .agu0LeU _ _ => .agu0
  | .agu1LeU _ _ => .agu1
  | .agu0LtU _ _ => .agu0
  | .agu1LtU _ _ => .agu1
  | .agu0AddltuAML _ _ => .agu0
  | .agu1AddltuAML _ _ => .agu1
  | .agu0SubgtuAM _ _ => .agu0
  | .agu1SubgtuAM _ _ => .agu1
  | .immv _ _ _ _ => .flow
  | .immvc _ _ _ => .flow
  | .immsi _ _ _ => .flow
  | .immsf _ _ _ => .flow
  | .immsic _ _ _ => .flow
  | .immsfc _ _ _ => .flow
  | .imm0v _ _ => .flow
  | .imm0s _ _ => .flow
  | .movv _ _ _ => .flow
  | .movs _ _ _ => .flow
  | .movvf _ _ _ => .flow
  | .movsf _ _ _ => .flow
  | .movss _ _ _ => .flow
  | .pushOp _ => .flow
  | .pushAgu0 _ => .flow
  | .pushAgu1 _ => .flow
  | .pop _ => .flow
  | .flowTrue _ => .flow
  | .flowFalse _ => .flow
  | .fsnot _ => .flow
  | .fsand _ => .flow
  | .fsor _ => .flow
  | .fsxor _ => .flow
  | .repush _ => .flow
  | .fsswap _ => .flow
  | .fsand2 _ => .flow
  | .fsi2q _ => .flow
  | .fsq2i _ => .flow
  | .clrp _ _ => .flow
  | .setp _ => .flow
  | .setpv _ _ => .flow
  | .settop _ _ => .flow
  | .setop _ _ => .flow
  | .setagu0 _ _ => .flow
  | .setagu1 _ _ => .flow
  | .setnotp _ _ => .flow
  | .setnot _ _ => .flow
  | .br _ _ _ => .flow
  | .brReg _ _ => .flow
  | .call _ _ _ => .flow
  | .callReg _ _ => .flow
  | .ret _ => .flow
  | .reti _ => .flow
  | .repb _ _ => .flow
  | .swpipe _ _ => .flow
  | .watchint _ => .flow
  | .sleepon _ => .flow
  | .sirq _ _ => .flow
  | .halt _ => .flow
  | .writedma _ => .flow
  | .readdma _ => .flow
  | .prefetchReg _ => .flow
  | .prefetchOff _ _ => .flow
  | .pmucmd _ _ => .flow

/-- The word of an instruction: its issue holds it, the others hold no-operations (log 8). -/
def encode : Instr → Bundle
  | .cfaddPP p d s1 s2 => addWord 0x00 p d s1 s2
  | .cfaddPN p d s1 s2 => addWord 0x01 p d s1 s2
  | .cfaddNN p d s1 s2 => addWord 0x02 p d s1 s2
  | .cfaddNP p d s1 s2 => addWord 0x03 p d s1 s2
  | .cfjaddPP p d s1 s2 => addWord 0x04 p d s1 s2
  | .cfjaddPN p d s1 s2 => addWord 0x05 p d s1 s2
  | .cfjaddNN p d s1 s2 => addWord 0x06 p d s1 s2
  | .cfjaddNP p d s1 s2 => addWord 0x07 p d s1 s2
  | .cjjaddPP p d s1 s2 => addWord 0x08 p d s1 s2
  | .cjjaddPN p d s1 s2 => addWord 0x09 p d s1 s2
  | .cjjaddNN p d s1 s2 => addWord 0x0A p d s1 s2
  | .cjjaddNP p d s1 s2 => addWord 0x0B p d s1 s2
  | .cfraddPP p d s1 s2 => addWord 0x0C p d s1 s2
  | .cfraddPN p d s1 s2 => addWord 0x0D p d s1 s2
  | .cfraddNN p d s1 s2 => addWord 0x0E p d s1 s2
  | .cfraddNP p d s1 s2 => addWord 0x0F p d s1 s2
  | .ciaddPP p d s1 s2 => addWord 0x10 p d s1 s2
  | .ciaddPN p d s1 s2 => addWord 0x11 p d s1 s2
  | .ciaddNN p d s1 s2 => addWord 0x12 p d s1 s2
  | .ciaddNP p d s1 s2 => addWord 0x13 p d s1 s2
  | .cijaddPP p d s1 s2 => addWord 0x14 p d s1 s2
  | .cijaddPN p d s1 s2 => addWord 0x15 p d s1 s2
  | .cijaddNN p d s1 s2 => addWord 0x16 p d s1 s2
  | .cijaddNP p d s1 s2 => addWord 0x17 p d s1 s2
  | .cijjaddPP p d s1 s2 => addWord 0x18 p d s1 s2
  | .cijjaddPN p d s1 s2 => addWord 0x19 p d s1 s2
  | .cijjaddNN p d s1 s2 => addWord 0x1A p d s1 s2
  | .cijjaddNP p d s1 s2 => addWord 0x1B p d s1 s2
  | .ciraddPP p d s1 s2 => addWord 0x1C p d s1 s2
  | .ciraddPN p d s1 s2 => addWord 0x1D p d s1 s2
  | .ciraddNN p d s1 s2 => addWord 0x1E p d s1 s2
  | .ciraddNP p d s1 s2 => addWord 0x1F p d s1 s2
  | .vfabsaddPP p d s1 s2 => addWord 0x20 p d s1 s2
  | .vfabsaddPN p d s1 s2 => addWord 0x21 p d s1 s2
  | .vfabsaddNN p d s1 s2 => addWord 0x22 p d s1 s2
  | .vfabsaddNP p d s1 s2 => addWord 0x23 p d s1 s2
  | .viabsaddPP p d s1 s2 => addWord 0x24 p d s1 s2
  | .viabsaddPN p d s1 s2 => addWord 0x25 p d s1 s2
  | .viabsaddNN p d s1 s2 => addWord 0x26 p d s1 s2
  | .viabsaddNP p d s1 s2 => addWord 0x27 p d s1 s2
  | .vfaddsub p d1 d2 s1 s2 => addWord2 0x28 p d1 d2 s1 s2
  | .faddPP p d s1 s2 => addWord 0x29 p d s1 s2
  | .faddPN p d s1 s2 => addWord 0x2A p d s1 s2
  | .faddNN p d s1 s2 => addWord 0x2B p d s1 s2
  | .faddNP p d s1 s2 => addWord 0x2C p d s1 s2
  | .faddsub p d1 d2 s1 s2 => addWord2 0x2D p d1 d2 s1 s2
  | .iaddPP p d s1 s2 => addWord 0x2E p d s1 s2
  | .iaddPN p d s1 s2 => addWord 0x2F p d s1 s2
  | .iaddNN p d s1 s2 => addWord 0x30 p d s1 s2
  | .iaddNP p d s1 s2 => addWord 0x31 p d s1 s2
  | .iaddsub p d1 d2 s1 s2 => addWord2 0x32 p d1 d2 s1 s2
  | .fabsaddPP p d s1 s2 => addWord 0x33 p d s1 s2
  | .fabsaddPN p d s1 s2 => addWord 0x34 p d s1 s2
  | .fabsaddNN p d s1 s2 => addWord 0x35 p d s1 s2
  | .fabsaddNP p d s1 s2 => addWord 0x36 p d s1 s2
  | .iabsaddPP p d s1 s2 => addWord 0x37 p d s1 s2
  | .iabsaddPN p d s1 s2 => addWord 0x38 p d s1 s2
  | .iabsaddNN p d s1 s2 => addWord 0x39 p d s1 s2
  | .iabsaddNP p d s1 s2 => addWord 0x3A p d s1 s2
  | .vfmin p d s1 s2 => addWord 0x3B p d s1 s2
  | .vimin p d s1 s2 => addWord 0x3C p d s1 s2
  | .vfmax p d s1 s2 => addWord 0x3D p d s1 s2
  | .vimax p d s1 s2 => addWord 0x3E p d s1 s2
  | .vfminmax p d1 d2 s1 s2 => addWord2 0x3F p d1 d2 s1 s2
  | .viminmax p d1 d2 s1 s2 => addWord2 0x40 p d1 d2 s1 s2
  | .vswap p d1 d2 s1 s2 => addWord2 0x41 p d1 d2 s1 s2
  | .fmin p d s1 s2 => addWord 0x42 p d s1 s2
  | .imin p d s1 s2 => addWord 0x43 p d s1 s2
  | .fmax p d s1 s2 => addWord 0x44 p d s1 s2
  | .imax p d s1 s2 => addWord 0x45 p d s1 s2
  | .fminmax p d1 d2 s1 s2 => addWord2 0x46 p d1 d2 s1 s2
  | .iminmax p d1 d2 s1 s2 => addWord2 0x47 p d1 d2 s1 s2
  | .fsel p d s1 s2 => addWord 0x48 p d s1 s2
  | .isel p d s1 s2 => addWord 0x49 p d s1 s2
  | .swap p d1 d2 s1 s2 => addWord2 0x5A p d1 d2 s1 s2
  | .viaddsub p d1 d2 s1 s2 => addWord2 0x7D p d1 d2 s1 s2
  | .addNop p => addNopWord 0x7F p
  | .cfeq p s1 s2 => addCmpWord 0x61 p s1 s2
  | .cfne p s1 s2 => addCmpWord 0x62 p s1 s2
  | .vfeq p s1 s2 => addCmpWord 0x63 p s1 s2
  | .vflt p s1 s2 => addCmpWord 0x64 p s1 s2
  | .vfgt p s1 s2 => addCmpWord 0x65 p s1 s2
  | .vfle p s1 s2 => addCmpWord 0x66 p s1 s2
  | .vfge p s1 s2 => addCmpWord 0x67 p s1 s2
  | .vfne p s1 s2 => addCmpWord 0x68 p s1 s2
  | .vieq p s1 s2 => addCmpWord 0x69 p s1 s2
  | .vilt p s1 s2 => addCmpWord 0x6A p s1 s2
  | .vigt p s1 s2 => addCmpWord 0x6B p s1 s2
  | .vile p s1 s2 => addCmpWord 0x6C p s1 s2
  | .vige p s1 s2 => addCmpWord 0x6D p s1 s2
  | .vine p s1 s2 => addCmpWord 0x6E p s1 s2
  | .feq p s1 s2 => addCmpWord 0x6F p s1 s2
  | .flt p s1 s2 => addCmpWord 0x70 p s1 s2
  | .fgt p s1 s2 => addCmpWord 0x71 p s1 s2
  | .fle p s1 s2 => addCmpWord 0x72 p s1 s2
  | .fge p s1 s2 => addCmpWord 0x73 p s1 s2
  | .fne p s1 s2 => addCmpWord 0x74 p s1 s2
  | .ieq p s1 s2 => addCmpWord 0x75 p s1 s2
  | .ilt p s1 s2 => addCmpWord 0x76 p s1 s2
  | .igt p s1 s2 => addCmpWord 0x77 p s1 s2
  | .ile p s1 s2 => addCmpWord 0x78 p s1 s2
  | .ige p s1 s2 => addCmpWord 0x79 p s1 s2
  | .ine p s1 s2 => addCmpWord 0x7A p s1 s2
  | .cieq p s1 s2 => addCmpWord 0x7B p s1 s2
  | .cine p s1 s2 => addCmpWord 0x7C p s1 s2
  | .cfmulP p d s1 s2 => mulWord 0x00 p d s1 s2
  | .cfmulN p d s1 s2 => mulWord 0x01 p d s1 s2
  | .cfjmulP p d s1 s2 => mulWord 0x02 p d s1 s2
  | .cfjmulN p d s1 s2 => mulWord 0x03 p d s1 s2
  | .cfjmmulP p d s1 s2 => mulWord 0x04 p d s1 s2
  | .cfjmmulN p d s1 s2 => mulWord 0x05 p d s1 s2
  | .cfrmulP p d s1 s2 => mulWord 0x06 p d s1 s2
  | .cfrmulN p d s1 s2 => mulWord 0x07 p d s1 s2
  | .cimulP p d s1 s2 => mulWord 0x08 p d s1 s2
  | .cimulN p d s1 s2 => mulWord 0x09 p d s1 s2
  | .cijmulP p d s1 s2 => mulWord 0x0A p d s1 s2
  | .cijmulN p d s1 s2 => mulWord 0x0B p d s1 s2
  | .cijmmulP p d s1 s2 => mulWord 0x0C p d s1 s2
  | .cijmmulN p d s1 s2 => mulWord 0x0D p d s1 s2
  | .cirmulP p d s1 s2 => mulWord 0x0E p d s1 s2
  | .cirmulN p d s1 s2 => mulWord 0x0F p d s1 s2
  | .vfmulP p d s1 s2 => mulWord 0x20 p d s1 s2
  | .vfmulN p d s1 s2 => mulWord 0x21 p d s1 s2
  | .vimulP p d s1 s2 => mulWord 0x22 p d s1 s2
  | .vimulN p d s1 s2 => mulWord 0x23 p d s1 s2
  | .fmulP p d s1 s2 => mulWord 0x28 p d s1 s2
  | .fmulN p d s1 s2 => mulWord 0x29 p d s1 s2
  | .imulP p d s1 s2 => mulWord 0x2A p d s1 s2
  | .imulN p d s1 s2 => mulWord 0x2B p d s1 s2
  | .vsh p d s1 s2 => mulWord 0x30 p d s1 s2
  | .vshand p d s1 s2 => mulWord 0x31 p d s1 s2
  | .vshor p d s1 s2 => mulWord 0x32 p d s1 s2
  | .vshxor p d s1 s2 => mulWord 0x33 p d s1 s2
  | .vbitset p d s1 s2 => mulWord 0x34 p d s1 s2
  | .vbitclr p d s1 s2 => mulWord 0x35 p d s1 s2
  | .vbittgl p d s1 s2 => mulWord 0x36 p d s1 s2
  | .vbittst p d s1 s2 => mulWord 0x37 p d s1 s2
  | .sh p d s1 s2 => mulWord 0x38 p d s1 s2
  | .shand p d s1 s2 => mulWord 0x39 p d s1 s2
  | .shor p d s1 s2 => mulWord 0x3A p d s1 s2
  | .shxor p d s1 s2 => mulWord 0x3B p d s1 s2
  | .bitset p d s1 s2 => mulWord 0x3C p d s1 s2
  | .bitclr p d s1 s2 => mulWord 0x3D p d s1 s2
  | .bittgl p d s1 s2 => mulWord 0x3E p d s1 s2
  | .bittst p d s1 s2 => mulWord 0x3F p d s1 s2
  | .vftoi p d s1 => mulWord1 0x40 p d s1
  | .vitof p d s1 => mulWord1 0x41 p d s1
  | .ftoi p d s1 => mulWord1 0x42 p d s1
  | .itof p d s1 => mulWord1 0x43 p d s1
  | .vrf2rf p d s1 => mulWord1 0x44 p d s1
  | .rf2rf p d s1 => mulWord1 0x45 p d s1
  | .invseed p d s1 => mulWord1 0x46 p d s1
  | .invsqrtseed p d s1 => mulWord1 0x47 p d s1
  | .vinvseed p d s1 => mulWord1 0x48 p d s1
  | .vinvsqrtseed p d s1 => mulWord1 0x49 p d s1
  | .mulNop p => mulNopWord 0x7F p
  | .agu0DirRs p x rfa7 => agu0Word 0x00 p x rfa7
  | .agu0DirRv p x rfa7 => agu0Word 0x10 p x rfa7
  | .agu0DirWs p x rfa7 => agu0Word 0x20 p x rfa7
  | .agu0DirWv p x rfa7 => agu0Word 0x30 p x rfa7
  | .agu1DirRs p x rfa5 => agu1ReadWord 0x00 p x rfa5
  | .agu1DirRv p x rfa5 => agu1ReadWord 0x10 p x rfa5
  | .agu1DirWs p x => agu1Word 0x20 p x
  | .agu1DirWv p x => agu1Word 0x30 p x
  | .agu0PostincRs p x rfa7 => agu0Word 0x01 p x rfa7
  | .agu0PostincRv p x rfa7 => agu0Word 0x11 p x rfa7
  | .agu0PostincWs p x rfa7 => agu0Word 0x21 p x rfa7
  | .agu0PostincWv p x rfa7 => agu0Word 0x31 p x rfa7
  | .agu1PostincRs p x rfa5 => agu1ReadWord 0x01 p x rfa5
  | .agu1PostincRv p x rfa5 => agu1ReadWord 0x11 p x rfa5
  | .agu1PostincWs p x => agu1Word 0x21 p x
  | .agu1PostincWv p x => agu1Word 0x31 p x
  | .agu0PostdecRs p x rfa7 => agu0Word 0x02 p x rfa7
  | .agu0PostdecRv p x rfa7 => agu0Word 0x12 p x rfa7
  | .agu0PostdecWs p x rfa7 => agu0Word 0x22 p x rfa7
  | .agu0PostdecWv p x rfa7 => agu0Word 0x32 p x rfa7
  | .agu1PostdecRs p x rfa5 => agu1ReadWord 0x02 p x rfa5
  | .agu1PostdecRv p x rfa5 => agu1ReadWord 0x12 p x rfa5
  | .agu1PostdecWs p x => agu1Word 0x22 p x
  | .agu1PostdecWv p x => agu1Word 0x32 p x
  | .agu0PreincRs p x rfa7 => agu0Word 0x03 p x rfa7
  | .agu0PreincRv p x rfa7 => agu0Word 0x13 p x rfa7
  | .agu0PreincWs p x rfa7 => agu0Word 0x23 p x rfa7
  | .agu0PreincWv p x rfa7 => agu0Word 0x33 p x rfa7
  | .agu1PreincRs p x rfa5 => agu1ReadWord 0x03 p x rfa5
  | .agu1PreincRv p x rfa5 => agu1ReadWord 0x13 p x rfa5
  | .agu1PreincWs p x => agu1Word 0x23 p x
  | .agu1PreincWv p x => agu1Word 0x33 p x
  | .agu0PredecRs p x rfa7 => agu0Word 0x04 p x rfa7
  | .agu0PredecRv p x rfa7 => agu0Word 0x14 p x rfa7
  | .agu0PredecWs p x rfa7 => agu0Word 0x24 p x rfa7
  | .agu0PredecWv p x rfa7 => agu0Word 0x34 p x rfa7
  | .agu1PredecRs p x rfa5 => agu1ReadWord 0x04 p x rfa5
  | .agu1PredecRv p x rfa5 => agu1ReadWord 0x14 p x rfa5
  | .agu1PredecWs p x => agu1Word 0x24 p x
  | .agu1PredecWv p x => agu1Word 0x34 p x
  | .agu0Postinc2Rs p x rfa7 => agu0Word 0x05 p x rfa7
  | .agu0Postinc2Rv p x rfa7 => agu0Word 0x15 p x rfa7
  | .agu0Postinc2Ws p x rfa7 => agu0Word 0x25 p x rfa7
  | .agu0Postinc2Wv p x rfa7 => agu0Word 0x35 p x rfa7
  | .agu1Postinc2Rs p x rfa5 => agu1ReadWord 0x05 p x rfa5
  | .agu1Postinc2Rv p x rfa5 => agu1ReadWord 0x15 p x rfa5
  | .agu1Postinc2Ws p x => agu1Word 0x25 p x
  | .agu1Postinc2Wv p x => agu1Word 0x35 p x
  | .agu0Postdec2Rs p x rfa7 => agu0Word 0x06 p x rfa7
  | .agu0Postdec2Rv p x rfa7 => agu0Word 0x16 p x rfa7
  | .agu0Postdec2Ws p x rfa7 => agu0Word 0x26 p x rfa7
  | .agu0Postdec2Wv p x rfa7 => agu0Word 0x36 p x rfa7
  | .agu1Postdec2Rs p x rfa5 => agu1ReadWord 0x06 p x rfa5
  | .agu1Postdec2Rv p x rfa5 => agu1ReadWord 0x16 p x rfa5
  | .agu1Postdec2Ws p x => agu1Word 0x26 p x
  | .agu1Postdec2Wv p x => agu1Word 0x36 p x
  | .agu0Preinc2Rs p x rfa7 => agu0Word 0x07 p x rfa7
  | .agu0Preinc2Rv p x rfa7 => agu0Word 0x17 p x rfa7
  | .agu0Preinc2Ws p x rfa7 => agu0Word 0x27 p x rfa7
  | .agu0Preinc2Wv p x rfa7 => agu0Word 0x37 p x rfa7
  | .agu1Preinc2Rs p x rfa5 => agu1ReadWord 0x07 p x rfa5
  | .agu1Preinc2Rv p x rfa5 => agu1ReadWord 0x17 p x rfa5
  | .agu1Preinc2Ws p x => agu1Word 0x27 p x
  | .agu1Preinc2Wv p x => agu1Word 0x37 p x
  | .agu0IndexRs p x rfa7 => agu0Word 0x08 p x rfa7
  | .agu0IndexRv p x rfa7 => agu0Word 0x18 p x rfa7
  | .agu0IndexWs p x rfa7 => agu0Word 0x28 p x rfa7
  | .agu0IndexWv p x rfa7 => agu0Word 0x38 p x rfa7
  | .agu1IndexRs p x rfa5 => agu1ReadWord 0x08 p x rfa5
  | .agu1IndexRv p x rfa5 => agu1ReadWord 0x18 p x rfa5
  | .agu1IndexWs p x => agu1Word 0x28 p x
  | .agu1IndexWv p x => agu1Word 0x38 p x
  | .agu0Base2immuRs p x rfa7 => agu0Word 0x09 p x rfa7
  | .agu0Base2immuRv p x rfa7 => agu0Word 0x19 p x rfa7
  | .agu0Base2immuWs p x rfa7 => agu0Word 0x29 p x rfa7
  | .agu0Base2immuWv p x rfa7 => agu0Word 0x39 p x rfa7
  | .agu1Base2immuRs p x rfa5 => agu1ReadWord 0x09 p x rfa5
  | .agu1Base2immuRv p x rfa5 => agu1ReadWord 0x19 p x rfa5
  | .agu1Base2immuWs p x => agu1Word 0x29 p x
  | .agu1Base2immuWv p x => agu1Word 0x39 p x
  | .agu0BaseimmuRs p x rfa7 => agu0Word 0x0A p x rfa7
  | .agu0BaseimmuRv p x rfa7 => agu0Word 0x1A p x rfa7
  | .agu0BaseimmuWs p x rfa7 => agu0Word 0x2A p x rfa7
  | .agu0BaseimmuWv p x rfa7 => agu0Word 0x3A p x rfa7
  | .agu1BaseimmuRs p x rfa5 => agu1ReadWord 0x0A p x rfa5
  | .agu1BaseimmuRv p x rfa5 => agu1ReadWord 0x1A p x rfa5
  | .agu1BaseimmuWs p x => agu1Word 0x2A p x
  | .agu1BaseimmuWv p x => agu1Word 0x3A p x
  | .agu0BaseimmRs p x rfa7 => agu0Word 0x0B p x rfa7
  | .agu0BaseimmRv p x rfa7 => agu0Word 0x1B p x rfa7
  | .agu0BaseimmWs p x rfa7 => agu0Word 0x2B p x rfa7
  | .agu0BaseimmWv p x rfa7 => agu0Word 0x3B p x rfa7
  | .agu1BaseimmRs p x rfa5 => agu1ReadWord 0x0B p x rfa5
  | .agu1BaseimmRv p x rfa5 => agu1ReadWord 0x1B p x rfa5
  | .agu1BaseimmWs p x => agu1Word 0x2B p x
  | .agu1BaseimmWv p x => agu1Word 0x3B p x
  | .agu0AbsRs p x rfa7 => agu0Word 0x0C p x rfa7
  | .agu0AbsRv p x rfa7 => agu0Word 0x1C p x rfa7
  | .agu0AbsWs p x rfa7 => agu0Word 0x2C p x rfa7
  | .agu0AbsWv p x rfa7 => agu0Word 0x3C p x rfa7
  | .agu1AbsRs p x rfa5 => agu1ReadWord 0x0C p x rfa5
  | .agu1AbsRv p x rfa5 => agu1ReadWord 0x1C p x rfa5
  | .agu1AbsWs p x => agu1Word 0x2C p x
  | .agu1AbsWv p x => agu1Word 0x3C p x
  | .agu0AbsldRs p x rfa7 => agu0Word 0x0D p x rfa7
  | .agu0AbsldRv p x rfa7 => agu0Word 0x1D p x rfa7
  | .agu0AbsldWs p x rfa7 => agu0Word 0x2D p x rfa7
  | .agu0AbsldWv p x rfa7 => agu0Word 0x3D p x rfa7
  | .agu1AbsldRs p x rfa5 => agu1ReadWord 0x0D p x rfa5
  | .agu1AbsldRv p x rfa5 => agu1ReadWord 0x1D p x rfa5
  | .agu1AbsldWs p x => agu1Word 0x2D p x
  | .agu1AbsldWv p x => agu1Word 0x3D p x
  | .agu0TmpRs p x rfa7 => agu0Word 0x0E p x rfa7
  | .agu0TmpRv p x rfa7 => agu0Word 0x1E p x rfa7
  | .agu0TmpWs p x rfa7 => agu0Word 0x2E p x rfa7
  | .agu0TmpWv p x rfa7 => agu0Word 0x3E p x rfa7
  | .agu1TmpRs p x rfa5 => agu1ReadWord 0x0E p x rfa5
  | .agu1TmpRv p x rfa5 => agu1ReadWord 0x1E p x rfa5
  | .agu1TmpWs p x => agu1Word 0x2E p x
  | .agu1TmpWv p x => agu1Word 0x3E p x
  | .agu0BasetmpRs p x rfa7 => agu0Word 0x0F p x rfa7
  | .agu0BasetmpRv p x rfa7 => agu0Word 0x1F p x rfa7
  | .agu0BasetmpWs p x rfa7 => agu0Word 0x2F p x rfa7
  | .agu0BasetmpWv p x rfa7 => agu0Word 0x3F p x rfa7
  | .agu1BasetmpRs p x rfa5 => agu1ReadWord 0x0F p x rfa5
  | .agu1BasetmpRv p x rfa5 => agu1ReadWord 0x1F p x rfa5
  | .agu1BasetmpWs p x => agu1Word 0x2F p x
  | .agu1BasetmpWv p x => agu1Word 0x3F p x
  | .agu0Nop p => agu0NopWord 0x40 p
  | .agu1Nop p => agu1NopWord 0x40 p
  | .agu0MovAAy p x => agu0Word1 0x41 p x
  | .agu1MovAAy p x => agu1Word 0x41 p x
  | .agu0SubAAT p x => agu0Word1 0x42 p x
  | .agu1SubAAT p x => agu1Word 0x42 p x
  | .agu0AddAAT p x => agu0Word1 0x43 p x
  | .agu1AddAAT p x => agu1Word 0x43 p x
  | .agu0SubAAyT p x => agu0Word1 0x44 p x
  | .agu1SubAAyT p x => agu1Word 0x44 p x
  | .agu0AddAAyT p x => agu0Word1 0x45 p x
  | .agu1AddAAyT p x => agu1Word 0x45 p x
  | .agu0SubTAT p x => agu0Word1 0x46 p x
  | .agu1SubTAT p x => agu1Word 0x46 p x
  | .agu0AddTAT p x => agu0Word1 0x47 p x
  | .agu1AddTAT p x => agu1Word 0x47 p x
  | .agu0AddAASimm p x => agu0Word1 0x48 p x
  | .agu1AddAASimm p x => agu1Word 0x48 p x
  | .agu0AddAAySimm p x => agu0Word1 0x49 p x
  | .agu1AddAAySimm p x => agu1Word 0x49 p x
  | .agu0AddTASimm p x => agu0Word1 0x4A p x
  | .agu1AddTASimm p x => agu1Word 0x4A p x
  | .agu0AddTTSimm p x => agu0Word1 0x4B p x
  | .agu1AddTTSimm p x => agu1Word 0x4B p x
  | .agu0MulTASimm p x => agu0Word1 0x4C p x
  | .agu1MulTASimm p x => agu1Word 0x4C p x
  | .agu0MulTTSimm p x => agu0Word1 0x4D p x
  | .agu1MulTTSimm p x => agu1Word 0x4D p x
  | .agu0MulTAMy p x => agu0Word1 0x4E p x
  | .agu1MulTAMy p x => agu1Word 0x4E p x
  | .agu0Eq p x => agu0Word1 0x4F p x
  | .agu1Eq p x => agu1Word 0x4F p x
  | .agu0Neq p x => agu0Word1 0x50 p x
  | .agu1Neq p x => agu1Word 0x50 p x
  | .agu0GeS p x => agu0Word1 0x51 p x
  | .agu1GeS p x => agu1Word 0x51 p x
  | .agu0GtS p x => agu0Word1 0x52 p x
  | .agu1GtS p x => agu1Word 0x52 p x
  | .agu0LeS p x => agu0Word1 0x53 p x
  | .agu1LeS p x => agu1Word 0x53 p x
  | .agu0LtS p x => agu0Word1 0x54 p x
  | .agu1LtS p x => agu1Word 0x54 p x
  | .agu0MovAT p x => agu0Word1 0x55 p x
  | .agu1MovAT p x => agu1Word 0x55 p x
  | .agu0MovTA p x => agu0Word1 0x56 p x
  | .agu1MovTA p x => agu1Word 0x56 p x
  | .agu0MovTM p x => agu0Word1 0x57 p x
  | .agu1MovTM p x => agu1Word 0x57 p x
  | .agu0MovTS p x => agu0Word1 0x58 p x
  | .agu1MovTS p x => agu1Word 0x58 p x
  | .agu0MovTL p x => agu0Word1 0x59 p x
  | .agu1MovTL p x => agu1Word 0x59 p x
  | .agu0AddltAML p x => agu0Word1 0x5A p x
  | .agu1AddltAML p x => agu1Word 0x5A p x
  | .agu0SubgtAM p x => agu0Word1 0x5B p x
  | .agu1SubgtAM p x => agu1Word 0x5B p x
  | .agu0SubgtAT p x => agu0Word1 0x5C p x
  | .agu1SubgtAT p x => agu1Word 0x5C p x
  | .agu0AddltATL p x => agu0Word1 0x5D p x
  | .agu1AddltATL p x => agu1Word 0x5D p x
  | .agu0SubgtASimm p x => agu0Word1 0x5E p x
  | .agu1SubgtASimm p x => agu1Word 0x5E p x
  | .agu0MovASimm p x => agu0Word1 0x5F p x
  | .agu1MovASimm p x => agu1Word 0x5F p x
  | .agu0ClrT p x => agu0Word1 0x60 p x
  | .agu1ClrT p x => agu1Word 0x60 p x
  | .agu0AbsA p x => agu0Word1 0x61 p x
  | .agu1AbsA p x => agu1Word 0x61 p x
  | .agu0AbsTA p x => agu0Word1 0x62 p x
  | .agu1AbsTA p x => agu1Word 0x62 p x
  | .agu0NegTM p x => agu0Word1 0x63 p x
  | .agu1NegTM p x => agu1Word 0x63 p x
  | .agu0MovTUimm4 p uimm4 => agu0Word1 0x64 p uimm4
  | .agu1MovTUimm4 p uimm4 => agu1Word 0x64 p uimm4
  | .agu0Bittest p x => agu0Word1 0x65 p x
  | .agu1Bittest p x => agu1Word 0x65 p x
  | .agu0ShlAT p x => agu0Word1 0x66 p x
  | .agu1ShlAT p x => agu1Word 0x66 p x
  | .agu0ShrAT p x => agu0Word1 0x67 p x
  | .agu1ShrAT p x => agu1Word 0x67 p x
  | .agu0SarAT p x => agu0Word1 0x68 p x
  | .agu1SarAT p x => agu1Word 0x68 p x
  | .agu0AndAT p x => agu0Word1 0x69 p x
  | .agu1AndAT p x => agu1Word 0x69 p x
  | .agu0OrAT p x => agu0Word1 0x6A p x
  | .agu1OrAT p x => agu1Word 0x6A p x
  | .agu0XorAT p x => agu0Word1 0x6B p x
  | .agu1XorAT p x => agu1Word 0x6B p x
  | .agu0SubuAAT p x => agu0Word1 0x6C p x
  | .agu1SubuAAT p x => agu1Word 0x6C p x
  | .agu0AdduAAT p x => agu0Word1 0x6D p x
  | .agu1AdduAAT p x => agu1Word 0x6D p x
  | .agu0SubuAAyT p x => agu0Word1 0x6E p x
  | .agu1SubuAAyT p x => agu1Word 0x6E p x
  | .agu0AdduAAyT p x => agu0Word1 0x6F p x
  | .agu1AdduAAyT p x => agu1Word 0x6F p x
  | .agu0SubuTAT p x => agu0Word1 0x70 p x
  | .agu1SubuTAT p x => agu1Word 0x70 p x
  | .agu0AdduTAT p x => agu0Word1 0x71 p x
  | .agu1AdduTAT p x => agu1Word 0x71 p x
  | .agu0AdduAAImm p x => agu0Word1 0x72 p x
  | .agu1AdduAAImm p x => agu1Word 0x72 p x
  | .agu0AdduAAyImm p x => agu0Word1 0x73 p x
  | .agu1AdduAAyImm p x => agu1Word 0x73 p x
  | .agu0AdduTAImm p x => agu0Word1 0x74 p x
  | .agu1AdduTAImm p x => agu1Word 0x74 p x
  | .agu0AdduTTImm p x => agu0Word1 0x75 p x
  | .agu1AdduTTImm p x => agu1Word 0x75 p x
  | .agu0MuluTAImm p x => agu0Word1 0x76 p x
  | .agu1MuluTAImm p x => agu1Word 0x76 p x
  | .agu0MuluTTImm p x => agu0Word1 0x77 p x
  | .agu1MuluTTImm p x => agu1Word 0x77 p x
  | .agu0MuluTAMy p x => agu0Word1 0x78 p x
  | .agu1MuluTAMy p x => agu1Word 0x78 p x
  | .agu0GeU p x => agu0Word1 0x79 p x
  | .agu1GeU p x => agu1Word 0x79 p x
  | .agu0GtU p x => agu0Word1 0x7A p x
  | .agu1GtU p x => agu1Word 0x7A p x
  | .agu0LeU p x => agu0Word1 0x7B p x
  | .agu1LeU p x => agu1Word 0x7B p x
  | .agu0LtU p x => agu0Word1 0x7C p x
  | .agu1LtU p x => agu1Word 0x7C p x
  | .agu0AddltuAML p x => agu0Word1 0x7D p x
  | .agu1AddltuAML p x => agu1Word 0x7D p x
  | .agu0SubgtuAM p x => agu0Word1 0x7E p x
  | .agu1SubgtuAM p x => agu1Word 0x7E p x
  | .immv p rfa7 immh imml => immvWord 0x01 p rfa7 immh imml
  | .immvc p rfa7 imm => imm40Word 0x02 p rfa7 imm
  | .immsi p rfa7 imm => imm40Word 0x03 p rfa7 imm
  | .immsf p rfa7 imm => imm40Word 0x04 p rfa7 imm
  | .immsic p rfa7 sel => immcWord 0x05 p rfa7 sel
  | .immsfc p rfa7 sel => immcWord 0x06 p rfa7 sel
  | .imm0v p rfa7 => imm0Word 0x07 p rfa7
  | .imm0s p rfa7 => imm0Word 0x08 p rfa7
  | .movv p rfa7 src => movWord 0x09 p rfa7 src
  | .movs p rfa7 src => movWord 0x0A p rfa7 src
  | .movvf p rfa7 src => movfWord 0x0B p rfa7 src
  | .movsf p rfa7 src => movfWord 0x0C p rfa7 src
  | .movss p rfa7 src => movWord 0x0D p rfa7 src
  | .pushOp p => bareWord 0x0E p
  | .pushAgu0 p => bareWord 0x0F p
  | .pushAgu1 p => bareWord 0x10 p
  | .pop p => bareWord 0x11 p
  | .flowTrue p => bareWord 0x12 p
  | .flowFalse p => bareWord 0x13 p
  | .fsnot p => bareWord 0x14 p
  | .fsand p => bareWord 0x15 p
  | .fsor p => bareWord 0x16 p
  | .fsxor p => bareWord 0x17 p
  | .repush p => bareWord 0x18 p
  | .fsswap p => bareWord 0x19 p
  | .fsand2 p => bareWord 0x1A p
  | .fsi2q p => bareWord 0x1B p
  | .fsq2i p => bareWord 0x1C p
  | .clrp p r => psetWord 0x2E p r
  | .setp r => setpWord 0x2F r
  | .setpv r imm => setpvWord 0x30 r imm
  | .settop p r => psetWord 0x31 p r
  | .setop p r => psetWord 0x32 p r
  | .setagu0 p r => psetWord 0x33 p r
  | .setagu1 p r => psetWord 0x34 p r
  | .setnotp p r => psetWord 0x35 p r
  | .setnot p r => psetWord 0x36 p r
  | .br p jt off => jrelWord 0x26 p jt off
  | .brReg p jt => jregWord 0x27 p jt
  | .call p jt off => jrelWord 0x28 p jt off
  | .callReg p jt => jregWord 0x29 p jt
  | .ret p => bareWord 0x2C p
  | .reti p => bareWord 0x2D p
  | .repb p len => offWord 0x37 p len
  | .swpipe on k => swpipeWord 0x3B on k
  | .watchint p => bareWord 0x1D p
  | .sleepon p => bareWord 0x1E p
  | .sirq p n => psetWord 0x1F p n
  | .halt p => bareWord 0x23 p
  | .writedma p => bareWord 0x24 p
  | .readdma p => bareWord 0x38 p
  | .prefetchReg p => bareWord 0x2B p
  | .prefetchOff p off => offWord 0x3A p off
  | .pmucmd p cmd => psetWord 0x3D p cmd

/-! ## The table's rows -/

/-- The issue of a table row from its word alone: the topmost code that is not 0; with every code 0 the width tells. -/
def rowIssue (nbits : Nat) (w : Bundle) : Issue :=
  if flowCode w ≠ 0 then .flow
  else if agu0Code w ≠ 0 then .agu0
  else if mulCode w ≠ 0 then .mul
  else if agu1Code w ≠ 0 then .agu1
  else if addCode w ≠ 0 then .add
  else if nbits ≤ 40 then .add
  else if nbits ≤ 48 then .agu1
  else if nbits ≤ 88 then .mul
  else if nbits ≤ 96 then .agu0
  else if nbits ≤ 104 then .agu1
  else if nbits ≤ 120 then .agu0
  else .add

/-- The word of a table row, its bits above nbits zero. -/
def rowWord (nbits w : Nat) : Bundle := BitVec.ofNat 128 (w % 2 ^ nbits)

/-- The instruction the decoder reads from the bytes of a table row's word. -/
def decodeTableWord (nbits w : Nat) : Option Instr :=
  match decodeBytes (rowIssue nbits (rowWord nbits w)) (bytesOf (rowWord nbits w)) with
  | .ok i => some i
  | .error _ => none

/-- Put a code where nothing else of the word needs the field. -/
def fillCode {n : Nat} (b : Bool) (w : Bundle) (lo : Nat) (c : BitVec n) : Bundle :=
  if b then setField w lo c else w

/-- The MUL operation that gives an AGU0 store its data, else the no-operation (R686). -/
def mulFiller (i : Issue) (w : Bundle) : BitVec 7 :=
  let c := agu0Code w
  if i = .agu0 && !c.getLsbD 6 && c.getLsbD 5 then (if c.getLsbD 4 then 0x44 else 0x45) else 0x7F

/-- The ADD operation that gives an AGU1 store its data, else the no-operation (R686). -/
def addFiller (i : Issue) (w : Bundle) : BitVec 7 :=
  let c := agu1Code w
  if i = .agu1 && !c.getLsbD 6 && c.getLsbD 5 then (if c.getLsbD 4 then 0x10 else 0x2E) else 0x7F

/-- A whole program word that runs a table row: the row's issue from its word, the other issues at no-operations, but for
the producer a store needs (log 8). -/
def rowBundle (nbits : Nat) (v : Bundle) : Bundle :=
  let i := rowIssue nbits v
  let n := if i = .flow then flowInhibits (flowCode v) else 0
  let w1 := fillCode (i ≠ .flow) v 113 (0x1D : BitVec 6)
  let w2 := fillCode (i ≠ .agu0 && !n.getLsbD 3) w1 89 (0x40 : BitVec 7)
  let w3 := fillCode (i ≠ .mul && !n.getLsbD 2) w2 54 (mulFiller i v)
  let w4 := fillCode (i ≠ .agu1 && !n.getLsbD 1) w3 41 (0x40 : BitVec 7)
  fillCode (i ≠ .add && !n.getLsbD 0) w4 6 (addFiller i v)

end

end Sys2Proof
end

