-- ==== Sys2Proof/Machine/Numeric.lean ====
section
/-! DEFINITION. The arithmetic primitives of spec 43: the 40-bit floating point format, the 32-bit signed
integers, and the status events each signals. -/

namespace Sys2Proof.Machine

/-- The status events of one primitive (R621, R635); `dz` is divide by zero. -/
structure Ev where
  inex : Bool := false
  udf : Bool := false
  carry : Bool := false
  ovf : Bool := false
  inop : Bool := false
  dz : Bool := false
  deriving DecidableEq, Repr

/-- A result word with its events. -/
abbrev Val := Word40 × Ev

def Ev.none : Ev := {}
def Ev.invalid : Ev := { inop := true }

/-! ## The format (R610, R611) -/

/-- What a word denotes: a NaN, an infinity, or `(-1)^s * m * 2^e`. -/
inductive Fp where
  | nan
  | inf (s : Bool)
  | num (s : Bool) (m : Nat) (e : Int)
  deriving DecidableEq, Repr

def fpSign (v : Word40) : Bool := v.getLsbD 39
def fpExp (v : Word40) : Nat := (v.extractLsb' 31 8).toNat
def fpMant (v : Word40) : Nat := (v.setWidth 31).toNat

/-- F(v) (R611); a denormal pattern denotes a free magnitude. -/
def fpDecode (v : Word40) : Fp :=
  let e := fpExp v
  let m := fpMant v
  if e = 255 then (if m = 0 then .inf (fpSign v) else .nan)
  else if e = 0 then
    if m = 0 then .num (fpSign v) 0 0
    else .num (fpSign v) (Config.fpDenormInput v).1 (Config.fpDenormInput v).2
  else .num (fpSign v) (2 ^ 31 + m) ((e : Int) - 158)

/-- The word of sign s, biased exponent e and mantissa m. -/
def fpWord (s : Bool) (e m : Nat) : Word40 := BitVec.ofNat 40 (s.toNat * 2 ^ 39 + e * 2 ^ 31 + m)

def infWord (s : Bool) : Word40 := fpWord s 255 0
def zeroWord (s : Bool) : Word40 := fpWord s 0 0

/-- A delivered NaN (R622): sign and mantissa are free, but it is a NaN. -/
def nanWord : Word40 :=
  fpWord Config.nanSign 255 (if Config.nanMantissa = 0 then 0x40000000 else Config.nanMantissa.toNat)

/-- A tie rounds the magnitude `q` up (ROUND_TIES). -/
def tieUp (q : Nat) : Bool :=
  match Config.roundTies with
  | .even => q % 2 = 1
  | .away => true
  | .zero => false

/-- `m >> k` rounded to nearest (R612). -/
def roundShift (m k : Nat) : Nat :=
  let q := m / 2 ^ k
  let r := m % 2 ^ k
  if 2 * r > 2 ^ k || (2 * r = 2 ^ k && tieUp q) then q + 1 else q

/-- fround(s, x) for x = m * 2^e with m > 0 (R612). -/
def fround (s : Bool) (m : Nat) (e : Int) : Val :=
  let l := m.log2
  let q := if l ≤ 31 then m * 2 ^ (31 - l) else roundShift m (l - 31)
  let inex := decide (31 < l) && m % 2 ^ (l - 31) != 0
  let exp : Int := e + l + (if q = 2 ^ 32 then 1 else 0)
  let mant := if q = 2 ^ 32 then 0 else q - 2 ^ 31
  if exp > 127 then (Config.fpOverflowResult s, { ovf := true, inex := true })
  else if exp < -126 then (Config.fpUnderflowResult s, { udf := true, inex := true })
  else (fpWord s (exp + 127).toNat mant, { inex := inex })

/-- Sign flip and sign clear (R613). -/
def fneg (v : Word40) : Word40 := v ^^^ 0x8000000000
def fabs (v : Word40) : Word40 := v &&& 0x7FFFFFFFFF

/-- A signed magnitude at exponent e0 ≤ e. -/
def scaled (s : Bool) (m : Nat) (e e0 : Int) : Int :=
  let v : Int := (m * 2 ^ (e - e0).toNat : Nat)
  if s then -v else v

/-- fadd(a, b) (R614). -/
def fadd (a b : Word40) : Val :=
  match fpDecode a, fpDecode b with
  | .nan, _ => (nanWord, .invalid)
  | _, .nan => (nanWord, .invalid)
  | .inf s, .inf t => if s = t then (infWord s, .none) else (nanWord, .invalid)
  | .inf s, .num _ _ _ => (infWord s, .none)
  | .num _ _ _, .inf t => (infWord t, .none)
  | .num s m e, .num t n f =>
    if m = 0 && n = 0 then (zeroWord (s && t), .none)
    else
      let e0 := min e f
      let x := scaled s m e e0 + scaled t n f e0
      if x = 0 then (zeroWord false, .none) else fround (x < 0) x.natAbs e0

/-- fsub(a, b) (R614). -/
def fsub (a b : Word40) : Val := fadd a (fneg b)

/-- fmul(a, b) (R616). -/
def fmul (a b : Word40) : Val :=
  let s := fpSign a ^^ fpSign b
  match fpDecode a, fpDecode b with
  | .nan, _ => (nanWord, .invalid)
  | _, .nan => (nanWord, .invalid)
  | .inf _, .inf _ => (infWord s, .none)
  | .inf _, .num _ n _ => if n = 0 then (nanWord, .invalid) else (infWord s, .none)
  | .num _ m _, .inf _ => if m = 0 then (nanWord, .invalid) else (infWord s, .none)
  | .num _ m e, .num _ n f => if m = 0 || n = 0 then (zeroWord s, .none) else fround s (m * n) (e + f)

/-- The outcome of a comparison (R617). -/
inductive Cmp where
  | less | equal | greater | unordered
  deriving DecidableEq, Repr

def cmpInt (x y : Int) : Cmp := if x < y then .less else if x = y then .equal else .greater

/-- fcmp(a, b) (R617). -/
def fcmp (a b : Word40) : Cmp :=
  match fpDecode a, fpDecode b with
  | .nan, _ => .unordered
  | _, .nan => .unordered
  | .inf s, .inf t => if s = t then .equal else if s then .less else .greater
  | .inf s, .num _ _ _ => if s then .less else .greater
  | .num _ _ _, .inf t => if t then .greater else .less
  | .num s m e, .num t n f => cmpInt (scaled s m e (min e f)) (scaled t n f (min e f))

/-- The six predicates (R617); only NE holds on unordered. -/
inductive Rel where
  | eq | lt | gt | le | ge | ne
  deriving DecidableEq, Repr

def Rel.holds : Rel → Cmp → Bool
  | .eq, c => c == .equal
  | .ne, c => c != .equal
  | .lt, c => c == .less
  | .gt, c => c == .greater
  | .le, c => c == .less || c == .equal
  | .ge, c => c == .greater || c == .equal

/-- fmin and fmax (R618). -/
def fmin (a b : Word40) : Val :=
  match fcmp a b with
  | .unordered => (nanWord, .invalid)
  | .greater => (b, .none)
  | _ => (a, .none)

def fmax (a b : Word40) : Val :=
  match fcmp a b with
  | .unordered => (nanWord, .invalid)
  | .less => (b, .none)
  | _ => (a, .none)

/-! ## 32-bit signed integers (R630 to R635) -/

/-- xi(r): the low 32 bits as a signed number. -/
def xi (v : Word40) : Int := (v.setWidth 32).toInt

/-- The 32 bits an integer n becomes (R631, INT_OVERFLOW_RESULT). -/
def intResult (n : Int) : BitVec 32 :=
  match Config.intOverflowResult with
  | .wrap => BitVec.ofInt 32 n
  | .saturate => BitVec.ofInt 32 (max (-2147483648) (min 2147483647 n))

/-- The word of an integer result (R630): zero above the 32 bits. -/
def iword (n : Int) : Word40 := (0 : BitVec 8) ++ intResult n

/-- An integer result as it is written (R384, R630): INT_RESULT_MSB says whether bits 39:32 are zero or those of the operand `a` or
of what the destination holds, `old`. -/
def withMsb (old a : Word40) (v : Val) : Val :=
  let keep := fun (x : Word40) => ((x.extractLsb' 32 8 ++ (v.1.setWidth 32 : BitVec 32) : Word40), v.2)
  match Config.intResultMsb with
  | .zero => v
  | .operand => keep a
  | .destination => keep old

def iOverflow (n : Int) : Bool := n < -2147483648 || n > 2147483647

/-- A value with the sign a mnemonic puts on it. -/
def signed (neg : Bool) (x : Int) : Int := if neg then -x else x

/-- The unsigned carry-out of the addition of the two 32-bit patterns (R635). -/
def iCarry (x y : Int) : Bool := 4294967296 ≤ (BitVec.ofInt 32 x).toNat + (BitVec.ofInt 32 y).toNat

/-- iadd32(sa, a, sb, b) (R631); overflow is the raw event, the intovfen gate is `Flags`'. -/
def iadd32 (na : Bool) (a : Word40) (nb : Bool) (b : Word40) : Val :=
  let x := signed na (xi a)
  let y := signed nb (xi b)
  (iword (x + y), { ovf := iOverflow (x + y), carry := iCarry x y })

/-- iabs32 of the unbounded signed sum (R633), with the carry of the addition (R635). -/
def iabsadd32 (na : Bool) (a : Word40) (nb : Bool) (b : Word40) : Val :=
  let x := signed na (xi a)
  let y := signed nb (xi b)
  let n := ((x + y).natAbs : Int)
  (iword n, { ovf := decide (n > 2147483647), carry := iCarry x y })

/-- imul32(a, sb, b) (R632). -/
def imul32 (a : Word40) (nb : Bool) (b : Word40) : Val :=
  let n := xi a * signed nb (xi b)
  (iword n, { ovf := iOverflow n })

def icmp (a b : Word40) : Cmp := cmpInt (xi a) (xi b)

/-! ## Conversions (R619, R620) -/

/-- ftoi(a). -/
def ftoi (a : Word40) : Val :=
  match fpDecode a with
  | .nan => (Config.ftoiNan.setWidth 40, .invalid)
  | .inf s => ((Config.ftoiOverflow s).setWidth 40, { ovf := true })
  | .num s m e =>
    let k := (-e).toNat
    let t := if 0 ≤ e then m * 2 ^ e.toNat else m / 2 ^ k
    let n : Int := if s then -(t : Int) else t
    if iOverflow n then ((Config.ftoiOverflow s).setWidth 40, { ovf := true })
    else (iword n, { inex := decide (e < 0) && m % 2 ^ k != 0 })

/-- itof(a): exact, no event. -/
def itof (a : Word40) : Word40 :=
  let n := xi a
  if n = 0 then zeroWord false else (fround (n < 0) n.natAbs 0).1

end Sys2Proof.Machine
end

