-- ==== Sys2Proof/Machine/Memory.lean ====
section
/-! DEFINITION. Program memory and data memory as one list of cells in canonical form, keyed by AHB slave byte
address (spec 20 R151, R153, R172, R175), and the word views over it (R173 to R175, R1004). -/

namespace Sys2Proof.Machine

/-- What an unlisted byte reads as. DESIGN CHOICE (log 2): the spec gives memories no reset contents (R131). -/
def Mem.unlisted : BitVec 8 := 0

/-- The canonical form: addresses strictly rise and no listed byte equals what an unlisted one reads as. -/
abbrev Mem.wf (m : Mem) : Prop :=
  m.Pairwise (fun c d => c.1 < d.1) ∧ ∀ c ∈ m, c.2 ≠ Mem.unlisted

/-- One byte. -/
def Mem.read : Mem → Nat → BitVec 8
  | [], _ => Mem.unlisted
  | c :: t, a => if c.1 = a then c.2 else Mem.read t a

/-- Write one byte, keeping the canonical form. -/
def Mem.write : Mem → Nat → BitVec 8 → Mem
  | [], a, v => if v = Mem.unlisted then [] else [(a, v)]
  | c :: t, a, v =>
    if c.1 < a then c :: Mem.write t a v
    else if c.1 = a then (if v = Mem.unlisted then t else (a, v) :: t)
    else (if v = Mem.unlisted then c :: t else (a, v) :: c :: t)

/-- `n` bytes from `a`, the lowest address least significant. -/
def Mem.readBytes (m : Mem) (a : Nat) : Nat → Nat
  | 0 => 0
  | n + 1 => (m.read a).toNat + 256 * Mem.readBytes m (a + 1) n

/-- Write the `n` low bytes of `v` from `a`, the lowest address least significant. -/
def Mem.writeBytes (m : Mem) (a : Nat) (v : Nat) : Nat → Mem
  | 0 => m
  | n + 1 => Mem.writeBytes (m.write a (BitVec.ofNat 8 v)) (a + 1) (v / 256) n

/-- Byte address of data word `a` in the DM_D view (R175). -/
def dmByte (a : Nat) : Nat := 0x660000 + 8 * a

/-- Byte address of program word `p` in the PM view (R172). -/
def pmByte (p : Nat) : Nat := 0x600000 + 16 * p

/-- Data memory word `a` (R151). -/
def Mem.dm (m : Mem) (a : Nat) : Word40 := BitVec.ofNat 40 (m.readBytes (dmByte a) 5)

def Mem.setDm (m : Mem) (a : Nat) (v : Word40) : Mem := m.writeBytes (dmByte a) v.toNat 5

/-- Program memory word `p` (R153). -/
def Mem.pm (m : Mem) (p : Nat) : Bundle := BitVec.ofNat 128 (m.readBytes (pmByte p) 16)

def Mem.setPm (m : Mem) (p : Nat) (v : Bundle) : Mem := m.writeBytes (pmByte p) v.toNat 16

/-- The 32-bit part `k` of program word `p` (R172). -/
def Mem.pmPart (m : Mem) (p k : Nat) : BitVec 32 := BitVec.ofNat 32 (m.readBytes (pmByte p + 4 * k) 4)

def Mem.setPmPart (m : Mem) (p k : Nat) (v : BitVec 32) : Mem := m.writeBytes (pmByte p + 4 * k) v.toNat 4

/-- The three data memory views of the slave port and the DMA engine (R173 to R175, R1004). -/
inductive DmView where
  | int | float | full
  deriving DecidableEq, Repr

/-- What a 32-bit read through a view shows of a data word; `part` selects the half of the full view. -/
def viewOf (w : DmView) (part : Nat) (x : Word40) : BitVec 32 :=
  match w with
  | .int => x.setWidth 32
  | .float => x.extractLsb' 8 32
  | .full => if part = 0 then x.setWidth 32 else (x.extractLsb' 32 8).setWidth 32

def Mem.viewRead (m : Mem) (w : DmView) (a part : Nat) : BitVec 32 := viewOf w part (m.dm a)

/-- The word a 32-bit write through a view makes of `old`. -/
def viewMerge (w : DmView) (part : Nat) (old : Word40) (v : BitVec 32) : Word40 :=
  match w with
  | .int => v.setWidth 40
  | .float => v ++ (0 : BitVec 8)
  | .full =>
    if part = 0 then old.extractLsb' 32 8 ++ v else v.setWidth 8 ++ old.setWidth 32

end Sys2Proof.Machine
end

