-- ==== Sys2Proof/Machine/Ops.lean ====
section
/-! DEFINITION. The shared operations: bit fields, sequencing, taking an exception (R1120) and an interrupt
(R1090 to R1095) and returning from one (R1096), register file access, and the scheduling of delayed results (R336). -/

namespace Sys2Proof.Machine

/-! ## Sequencing -/

/-- The outcome of an operation of this machine. -/
abbrev Res := Host.Outcome State Fault Refusal

/-- Go on with `f` where `r` answers a next state. -/
def andThen (r : Res) (f : State → Res) : Res :=
  match r with
  | .next s => f s
  | .fault e => .fault e
  | .refused e => .refused e

/-- Run a list of operations one after another. -/
def runAll : List (State → Res) → State → Res
  | [], s => .next s
  | f :: t, s => andThen (f s) (runAll t)

/-- Refuse under `b`. -/
def refuseIf (b : Bool) (r : Refusal) (s : State) : Res := if b then .refused r else .next s

/-! ## Bits -/

/-- The bits of `mask` take those of `val`. -/
def blend {n : Nat} (old mask val : BitVec n) : BitVec n := (old &&& ~~~mask) ||| (val &&& mask)

/-- One bit at position i. -/
def bitAt (n i : Nat) : BitVec n := BitVec.twoPow n i

/-- Bit i becomes b. -/
def putBit {n : Nat} (v : BitVec n) (i : Nat) (b : Bool) : BitVec n :=
  if b then v ||| bitAt n i else v &&& ~~~(bitAt n i)

/-- A Bool as a word with that bit at position i. -/
def flag (n i : Nat) (b : Bool) : BitVec n := if b then bitAt n i else 0

/-! ## Named updates of the state -/

def State.setRegs (s : State) (r : Regs) : State := { s with regs := r }
def State.setMode (s : State) (m : Mode) : State := { s with mode := m }
def State.setInts (s : State) (i : Ints) : State := { s with ints := i }

/-- An update of the interrupt registers that a service point of the same core step sees too. -/
def State.updInts (s : State) (f : Ints → Ints) : State := { s with ints := f s.ints, held := s.held.map f }

def State.setDma (s : State) (d : Dma) : State := { s with dma := d }
def State.setPmu (s : State) (p : Pmu) : State := { s with pmu := p }
def State.setMem (s : State) (m : Mem) : State := { s with mem := m }
def State.setRf (s : State) (n : BitVec 8) (v : Word40) : State := { s with rf := s.rf.set n.toNat v n.isLt }
def State.setArf (s : State) (k : BitVec 4) (v : Arf) : State := { s with arf := s.arf.set k.toNat v k.isLt }
def State.emit (s : State) (o : Out) : State := { s with out := s.out ++ [o] }

/-- Append to the pending-write list an effect that lands `d` core steps from now (R336). -/
def State.later (s : State) (d : Nat) (e : Effect) : State := { s with pend := s.pend ++ [⟨d, e⟩] }

/-- Append an access to the memory port schedule (R338). -/
def State.port (s : State) (u : AguUnit) (d : Nat) (o : PortOp) : State := { s with ports := s.ports ++ [⟨u, d, o⟩] }

/-- Register File register n (R30). -/
def State.rfAt (s : State) (n : BitVec 8) : Word40 := s.rf[n.toNat]'n.isLt

/-- ARF register k (R36). -/
def State.arfAt (s : State) (k : BitVec 4) : Arf := s.arf[k.toNat]'k.isLt

/-- TMPu (R37). -/
def State.tmpAt (s : State) : AguUnit → BitVec 16
  | .agu0 => s.tmp0
  | .agu1 => s.tmp1

/-- Draw the next free value. -/
def State.draw (s : State) : Word40 := Config.freeWord s.free

def State.drawn (s : State) : State := { s with free := s.free + 1 }

/-- MGCCONDITION as it reads: bit 11 rptloop follows MGCLOOPCNT (R44, R48). -/
def State.condition (s : State) : BitVec 16 := putBit s.regs.cond 11 (s.regs.loopcnt != 0)

/-- The bits of MGCCONDITION that a write reaches (R48): bits 13:0 without rptloop. -/
def condWritable : BitVec 16 := 0x37FF

/-- MGCCONDITION bits of `mask` take those of `val`. -/
def State.setCond (s : State) (mask val : BitVec 16) : State :=
  s.setRegs { s.regs with cond := blend s.regs.cond (mask &&& condWritable) val }

/-- MGCPRED bits of `mask` take those of `val`; bit 15 does not exist (R50). -/
def State.setPred (s : State) (mask val : BitVec 16) : State :=
  s.setRegs { s.regs with pred := blend s.regs.pred (mask &&& 0x7FFF) val }

/-! ## Exceptions (R1120 to R1124) -/

/-- The bit of MGCEXCEPTION and MGCMASK (R58, R1121). -/
def Exc.bit : Exc → Nat
  | .badin => 0 | .badout => 1 | .divzero => 2 | .addunkn => 3 | .agu0ovf => 4 | .agu0pty => 5
  | .agu0aovf => 6 | .agu1ovf => 7 | .agu1pty => 8 | .agu1aovf => 9 | .slverr => 10 | .msterr => 11
  | .softex => 12 | .ctrlockex => 13 | .rwagu0 => 14 | .rwagu1 => 15 | .writerf7 => 16 | .writerf5 => 17
  | .writearf => 18 | .writeflow => 19 | .writedma => 20 | .agu0ukn => 21 | .agu1ukn => 22 | .ptyerr => 23
  | .rtierr => 24 | .dblwrite => 25 | .pagefree => 26 | .mulunkn => 27 | .dmabusy => 28

/-- The class column of R1121. -/
def Exc.fatal : Exc → Bool
  | .badin | .badout | .divzero | .agu0ovf | .agu0pty | .agu0aovf | .agu1ovf | .agu1pty | .agu1aovf
  | .softex => false
  | _ => true

/-- The 29 exception bits. -/
def excBits : BitVec 32 := 0x1FFFFFFF

/-- The bits whose class is fatal (R1121). -/
def excFatalBits : BitVec 32 := 0x1FFFEC08

/-- The bits that are fatal now (R1122). -/
def fatalNow (s : State) : BitVec 32 :=
  if s.mode.allfatal then excBits else if s.mode.nonefatal then 0 else excFatalBits

/-- A break source other than the external debug request is active (R1063). -/
def innerBreak (s : State) : Bool :=
  s.mode.stop || s.mode.gbreak || s.mode.brk || s.mode.watch || s.mode.halt || s.mode.stepreq ||
    (s.regs.exception &&& fatalNow s) != 0

/-- The core is in debug state (R1063). -/
def inDebug (s : State) : Bool := innerBreak s || (s.mode.ct && s.dbgReq)

/-- An event on interrupt line x (R1080): pending when the line is enabled; wake-up event when that is enabled (R1101). -/
def lineEvent (x : Nat) (s : State) : State :=
  s.updInts fun i => { i with
    pend := if i.en.getLsbD x then i.pend ||| bitAt 8 x else i.pend
    wakeIntEv := if i.wakeInt.getLsbD x then i.wakeIntEv ||| bitAt 8 x else i.wakeIntEv }

/-- TAKING AN EXCEPTION (R1120): nothing when masked; else its MGCEXCEPTION bit is set, and the core is in debug
state while the bit is fatal (`inDebug`), or interrupt line 6 gets an event. The program counter is saved nowhere. -/
def raise (e : Exc) (s : State) : State :=
  if s.regs.mask.getLsbD e.bit then s
  else
    let s1 := { s with
      regs := { s.regs with exception := s.regs.exception ||| bitAt 32 e.bit }
      raised := s.raised ||| bitAt 32 e.bit }
    if (fatalNow s).getLsbD e.bit then s1 else lineEvent 6 s1

/-- Raise under a condition. -/
def raiseIf (b : Bool) (e : Exc) (s : State) : State := if b then raise e s else s

/-! ## Interrupt entry and return (R1090 to R1096) -/

/-- The interrupt registers as a service point of this core step sees them: as they stand after its landings (R1090), but for a
movement toward one of them that landed in it one cycle after its issue, which the next bundle is the first to see (R1082). That
R1082 states an exception to R1090, and for those movements alone, is DEDUCED (log 37). -/
def State.sight (s : State) : Ints := s.held.getD s.ints

/-- The registers of R1082: MGCINTSVR0 to 7, MGCINTMASK, MGCINTCTRL, MGCINTSETRESET, MGCINTPRIO. -/
def heldRegister (a : BitVec 7) : Bool := (0x71 ≤ a.toNat && a.toNat ≤ 0x79) || a == 0x7C || a == 0x7E || a == 0x7F

/-- The service point of this core step goes on seeing the interrupt registers `i` of before a movement toward address a (R1082). -/
def State.holdSight (s : State) (a : BitVec 7) (i : Ints) : State := if heldRegister a then { s with held := some i } else s

/-- PRIOx (R77). -/
def prioOf (i : Ints) (x : Nat) : Nat := (i.prio.extractLsb' (3 * x) 3).toNat

/-- The lines a service point may serve (R1090). -/
def candidate (i : Ints) (x : Nat) : Bool := i.pend.getLsbD x && i.en.getLsbD x && !i.mask.getLsbD x

/-- The candidate with the smallest priority value, the lower number among equals (R1090). -/
def selectLine (i : Ints) : Option (Fin 8) :=
  (List.finRange 8).foldl
    (fun (best : Option (Fin 8)) (x : Fin 8) =>
      if candidate i x then
        match best with
        | none => some x
        | some b => if prioOf i x < prioOf i b then some x else some b
      else best)
    none

/-- An enabled service point takes an interrupt now: none while one is served or in software-pipeline mode (R1090). -/
def takenLine (s : State) : Option (Fin 8) :=
  if s.mode.interrupt || s.mode.softpipe then none else selectLine s.sight

/-- MGCINTGSTAT on service of line 0 or 1 (R1095). -/
def saveShared (x : Fin 8) (i : Ints) : Ints :=
  if x.val < 2 then
    let group : BitVec 8 := if x.val = 0 then 0x0F else 0xF0
    { i with shsave := blend i.shsave group i.shpend, shpend := i.shpend &&& ~~~group }
  else i

/-- INTERRUPT ENTRY (R1092): `r` is the program counter value the service point produced; the vector is the one it sees (R1082). -/
def enterInterrupt (x : Fin 8) (r : BitVec 16) (s : State) : State :=
  { s with
    regs := { s.regs with pc := s.sight.svr[x] }
    mode := { s.mode with interrupt := true, softpipe := false }
    ints := saveShared x { s.ints with ret := r, pend := s.ints.pend &&& ~~~(bitAt 8 x) } }

/-- RETURN (R909, R1096): the target is MGCINTRET and the interrupt bit is cleared; with no interrupt being served,
rtierr and no transfer. -/
def returnFromInterrupt (s : State) : State :=
  if s.mode.interrupt then
    { s with npc := some s.ints.ret, mode := { s.mode with interrupt := false } }
  else raise .rtierr s

/-! ## Sleep (R1100 to R1103) -/

def enterSleep (s : State) : State := s.setMode { s.mode with asleep := true }

/-- An enabled wake-up event is recorded (R1102). -/
def wakeReady (s : State) : Bool :=
  (s.ints.wakeInt &&& s.ints.wakeIntEv) != 0 || (s.ints.wakeEot &&& s.ints.wakeEotEv) != 0

/-- A write of w to MGCWAKECTRL (R78, R1101): it clears the recorded events whatever w is, 0 included, where R113 and R827 have a
write of 0 do nothing. DEDUCED (log 39). -/
def wakeCtrl (w : BitVec 24) (i : Ints) : Ints :=
  let wi := (List.range 8).foldl
    (fun a x => putBit a x ((a.getLsbD x || w.getLsbD (2 * x)) && !w.getLsbD (2 * x + 1))) i.wakeInt
  let we := (List.range 4).foldl
    (fun a c => putBit a c ((a.getLsbD c || w.getLsbD (16 + 2 * c)) && !w.getLsbD (17 + 2 * c))) i.wakeEot
  { i with wakeInt := wi, wakeEot := we, wakeIntEv := 0, wakeEotEv := 0 }

/-! ## Watch (R1086, R1152) -/

/-- A write to data memory word a was made by some port. -/
def watchWrite (a : Nat) (s : State) : State :=
  if a = s.regs.watch.toNat then
    if s.mode.watchen then s.setMode { s.mode with watch := true } else lineEvent 5 s
  else s

/-- A port writes data memory word a. -/
def dmStore (p : MemPort) (a : Nat) (v : Word40) (s : State) : State :=
  watchWrite a { s with
    mem := s.mem.setDm a v
    acc := s.acc ++ [⟨p, a, true, s.mem.dm a⟩] }

/-- A port reads data memory word a: only the record of the access. -/
def dmLoad (p : MemPort) (a : Nat) (s : State) : State :=
  { s with acc := s.acc ++ [⟨p, a, false, s.mem.dm a⟩] }

end Sys2Proof.Machine
end

