-- ==== Sys2Proof/Machine/Flags.lean ====
section
/-! DEFINITION. Flag computations: the status flag word each unit delivers (R51, R640, R641), the integer
overflow gate (R635), and the AGU and compare flags of MGCCONDITION (R48). -/

namespace Sys2Proof.Machine

/-- The units that own status flags (R641). -/
inductive Unit2 where
  | mul1 | mul2 | add2 | sub | add1 | div | conv | minmax
  deriving DecidableEq, Repr

/-- The flag word a unit delivers for the events of one primitive (bit layout of R51). -/
def flagWord : Unit2 → Ev → BitVec 32
  | .mul1, e => flag 32 0 e.inex ||| flag 32 1 e.udf ||| flag 32 2 e.ovf ||| flag 32 3 e.inop
  | .mul2, e => flag 32 4 e.inex ||| flag 32 5 e.udf ||| flag 32 6 e.ovf ||| flag 32 7 e.inop
  | .add2, e => flag 32 8 e.inex ||| flag 32 9 e.udf ||| flag 32 10 e.carry ||| flag 32 11 e.ovf ||| flag 32 12 e.inop
  | .sub, e => flag 32 13 e.inex ||| flag 32 14 e.udf ||| flag 32 15 e.carry ||| flag 32 16 e.ovf ||| flag 32 17 e.inop
  | .add1, e => flag 32 18 e.inex ||| flag 32 19 e.udf ||| flag 32 20 e.carry ||| flag 32 21 e.ovf ||| flag 32 22 e.inop
  | .div, e => flag 32 23 e.inex ||| flag 32 24 e.udf ||| flag 32 25 e.ovf ||| flag 32 26 e.dz ||| flag 32 27 e.inop
  | .conv, e => flag 32 28 e.inex ||| flag 32 29 e.ovf ||| flag 32 30 e.inop
  | .minmax, e => flag 32 31 e.inop

/-- Integer overflow is a flag only while intovfen = 1 (R635). -/
def intEv (s : State) (e : Ev) : Ev := { e with ovf := e.ovf && s.mode.intovfen }

/-- The integer value with its gated events. -/
def intVal (s : State) (v : Val) : Val := (v.1, intEv s v.2)

/-- fpucond0 and fpucond1 (R48): the mask and value of a compare that writes the elements c0, c1. -/
def fpuMask (c0 c1 : Bool) : BitVec 16 := flag 16 8 c0 ||| flag 16 9 c1

/-- Bit positions of the four flags of a unit in MGCCONDITION (R48): cond, bnd, zero, neg from the base. -/
def aguBase : AguUnit → Nat
  | .agu0 => 0
  | .agu1 => 4

/-- The AGU flags an operation writes; none leaves a flag as it is. -/
structure AguFlags where
  cond : Option Bool := none
  bnd : Option Bool := none
  zero : Option Bool := none
  neg : Option Bool := none
  deriving DecidableEq, Repr

def optMask (i : Nat) (o : Option Bool) : BitVec 16 := flag 16 i o.isSome
def optVal (i : Nat) (o : Option Bool) : BitVec 16 := flag 16 i (o == some true)

/-- Mask and value of an AGU flag update. -/
def AguFlags.mask (u : AguUnit) (f : AguFlags) : BitVec 16 :=
  let b := aguBase u
  optMask b f.cond ||| optMask (b + 1) f.bnd ||| optMask (b + 2) f.zero ||| optMask (b + 3) f.neg

def AguFlags.val (u : AguUnit) (f : AguFlags) : BitVec 16 :=
  let b := aguBase u
  optVal b f.cond ||| optVal (b + 1) f.bnd ||| optVal (b + 2) f.zero ||| optVal (b + 3) f.neg

end Sys2Proof.Machine
end

