-- ==== Sys2Proof/Machine/Pmu.lean ====
section
/-! DEFINITION. The Program Management Unit (spec 49 sections 1 to 3): translation, misses, replacement, chunk
loads, prefetch and its AHB registers. -/

namespace Sys2Proof.Machine

/-- The result of a translation (R962). -/
inductive Xlate where
  | hit (p : BitVec 13)
  | pageFault
  | chunkFault (q : BitVec 3)
  deriving DecidableEq, Repr

/-- PMUVIRTv (R101): bit 0 map, 1 fixed, 2 ref, 5:3 phys page. -/
def Pmu.virtAt (p : Pmu) (v : BitVec 6) : BitVec 6 := p.virt[v.toNat]'v.isLt
def Pmu.setVirt (p : Pmu) (v d : BitVec 6) : Pmu := { p with virt := p.virt.set v.toNat d v.isLt }

/-- PMUMAPPEDVIRTq (R102): bits 5:0 virtual page, 6 valid, 31:16 chunks. -/
def Pmu.mappedAt (p : Pmu) (q : BitVec 3) : BitVec 32 := p.mapped[q.toNat]'q.isLt
def Pmu.setMapped (p : Pmu) (q : BitVec 3) (d : BitVec 32) : Pmu := { p with mapped := p.mapped.set q.toNat d q.isLt }

/-- Virtual page and chunk of a virtual program address (R960). -/
def pageOf (a : BitVec 16) : BitVec 6 := a.extractLsb' 10 6
def chunkOf (a : BitVec 16) : BitVec 4 := a.extractLsb' 6 4

/-- Translation with the PMU on (R962), without the setting of ref. -/
def Pmu.xlate (p : Pmu) (a : BitVec 16) : Xlate :=
  let d := p.virtAt (pageOf a)
  if d.getLsbD 0 then
    let q := d.extractLsb' 3 3
    if (p.mappedAt q).getLsbD (16 + (chunkOf a).toNat) then .hit (q ++ a.setWidth 10) else .chunkFault q
  else .pageFault

/-- The physical address of a fetch (R331): the low bits with the PMU off (R961). -/
def physOf (s : State) (a : BitVec 16) : Option (BitVec 13) :=
  if s.mode.pmuen then
    match s.pmu.xlate a with
    | .hit p => some p
    | _ => none
  else if a.toNat ≤ 0x1FFF then some (a.setWidth 13) else none

/-- A fetch that hits sets ref of its page (R962). -/
def touchPage (a : BitVec 16) (s : State) : State :=
  if s.mode.pmuen then s.setPmu (s.pmu.setVirt (pageOf a) (s.pmu.virtAt (pageOf a) ||| bitAt 6 2)) else s

/-- The replacement search (R971) over the given offsets from PMUPHYSPT; every page checked loses its ref. -/
def choosePage : List Nat → Pmu → Option (BitVec 3) × Pmu
  | [], p => (none, p)
  | i :: t, p =>
    let q := p.physPt + BitVec.ofNat 3 i
    let m := p.mappedAt q
    if m.getLsbD 6 then
      let v := m.setWidth 6
      let d := p.virtAt v
      if d.getLsbD 1 || d.getLsbD 2 then choosePage t (p.setVirt v (d &&& ~~~(bitAt 6 2))) else (some q, p)
    else (some q, p)

/-- Map the virtual page of `a` to physical page `q` (R970). -/
def Pmu.mapPage (p : Pmu) (q : BitVec 3) (a : BitVec 16) : Pmu :=
  let old := p.mappedAt q
  let p1 := if old.getLsbD 6 then
      p.setVirt (old.setWidth 6) (p.virtAt (old.setWidth 6) &&& ~~~(bitAt 6 0)) else p
  let p2 := p1.setMapped q ((pageOf a).setWidth 32 ||| bitAt 32 6)
  let d := p2.virtAt (pageOf a)
  let p3 := p2.setVirt (pageOf a) (q ++ ((d.setWidth 3 : BitVec 3) ||| bitAt 3 0))
  { p3 with physPt := q + 1 }

/-- The core takes a step in this cycle (R1060, the bit clken): no debug, no sleep, no fetch that misses. -/
def coreRuns (s : State) : Bool :=
  !inDebug s && !s.mode.asleep && (!s.mode.pmuen || (physOf s s.regs.pc).isSome)

/-- MGCVLIW as it reads (R63, R1153): the word about to be decoded, the one at MGCPC; the word last fetched while that
one is not in program memory. DEDUCED (log 26). -/
def vliwWord (s : State) : Bundle :=
  match physOf s s.regs.pc with
  | some p => s.mem.pm p.toNat
  | none => s.vliw

/-! ## Misses and prefetches -/

/-- Begin the load that makes `a` resident (R970, R971, R980): nothing when it is. -/
def startLoad (prefetch : Bool) (a : BitVec 16) (s : State) : State :=
  match s.pmu.xlate a with
  | .hit _ => s
  | .chunkFault q => s.setPmu { s.pmu with job := some ⟨a, q, false, prefetch, true⟩ }
  | .pageFault =>
    match choosePage (List.range 16) s.pmu with
    | (some q, p) => s.setPmu { p.mapPage q a with job := some ⟨a, q, true, prefetch, true⟩ }
    | (none, p) => raise .pagefree (s.setPmu p)

/-- The miss of a fetch at `a` is recorded, once for one stalled fetch (R970). DEDUCED (log 16). -/
def recordMiss (a : BitVec 16) (p : Pmu) : Pmu :=
  if p.missAt = some a then p else { p with faultAdd := a, missCnt := p.missCnt + 1, missAt := some a }

/-- A fetch missed (R970): recorded; its load starts when no other load is in progress. While pagefree is masked or not fatal (R1124
speaks of the fatal one) every cycle of the stall searches again, with R971's clearing of ref, and raises it again. DESIGN CHOICE
(log 47). -/
def fetchMiss (a : BitVec 16) (s : State) : State :=
  let s1 := s.setPmu (recordMiss a s.pmu)
  match s1.pmu.job with
  | some _ => s1
  | none => startLoad false a s1

/-- A prefetch request (R980): nothing while the PMU is off, masked, or when the address would hit; dropped behind an earlier
prefetch (D52). That one behind a demand load in progress (the host has moved MGCPC to a resident word) is dropped too is a
DESIGN CHOICE (log 42). -/
def prefetchAt (a : BitVec 16) (s : State) : State :=
  if !s.mode.pmuen || s.pmu.maskPrefetch || s.pmu.job.isSome then s else startLoad true a s

/-! ## Chunk loads (R972) -/

/-- The load's request stands at DMA channel 3. -/
def chunkAsked (s : State) : Bool :=
  match s.pmu.job with
  | some j => j.asked
  | none => false

/-- External byte address of a chunk (R972, Table 3-65). -/
def PmuJob.extAddr (j : PmuJob) (ext : BitVec 12) : BitVec 32 :=
  ext ++ (j.va.extractLsb' 6 10 : BitVec 10) ++ (0 : BitVec 10)

/-- Physical program word where a chunk begins (R972). -/
def PmuJob.base (j : PmuJob) : BitVec 13 := j.page ++ chunkOf j.va ++ (0 : BitVec 6)

/-- A chunk is loaded (R970): its bit is set, the PMU is idle, a recorded miss on it is served. -/
def Pmu.loaded (j : PmuJob) (p : Pmu) : Pmu :=
  { p.setMapped j.page (p.mappedAt j.page ||| bitAt 32 (16 + (chunkOf j.va).toNat)) with
    job := none
    missAt := p.missAt.filter (fun a => a.extractLsb' 6 10 != j.va.extractLsb' 6 10) }

/-- A 32-bit part of a program word is written by the DMA engine or the PMU: new contents have right parity (R126). -/
def pmLoad (p k : Nat) (v : BitVec 32) (s : State) : State :=
  { s with
    mem := s.mem.setPmPart p k v
    badParity := if s.mem.pmPart p k = v then s.badParity else s.badParity.filter (· ≠ p) }

/-- The fetch at MGCPC is stalled on a recorded miss (R970). -/
def fetchStalled (s : State) : Bool := s.mode.pmuen && s.pmu.missAt == some s.regs.pc

/-- The fetch at MGCPC is stalled on a miss that is not the one the load `j` serves: behind a prefetch (R980), or at another
chunk. -/
def otherMiss (j : PmuJob) (s : State) : Bool :=
  fetchStalled s && (j.prefetch || s.regs.pc.extractLsb' 6 10 != j.va.extractLsb' 6 10)

/-- page fault and chunk fault of PMUSTAT while the load `j` is in progress (R106, R970): what the load serves, and what another
stalled fetch lacks now. DEDUCED (log 21). -/
def pageFaultBit (j : PmuJob) (s : State) : Bool :=
  (!j.prefetch && j.pageFault) || (otherMiss j s && s.pmu.xlate s.regs.pc == .pageFault)
def chunkFaultBit (j : PmuJob) (s : State) : Bool :=
  (!j.prefetch && !j.pageFault) || (otherMiss j s && s.pmu.xlate s.regs.pc != .pageFault)

/-- PMUSTAT (R106): waitendtx while the transfer runs, waitmst while it waits for the engine, clkdis while the fetch at MGCPC
waits for a chunk, whichever request began its load. DEDUCED (log 21). -/
def pmuStat (s : State) : BitVec 32 :=
  match s.pmu.job with
  | none => flag 32 3 s.pmu.maskPrefetch
  | some j =>
    let waits := j.asked && s.dma.running != some .chunk
    flag 32 0 true ||| flag 32 1 (!waits) ||| flag 32 2 waits |||
      flag 32 3 s.pmu.maskPrefetch ||| flag 32 5 (pageFaultBit j s) |||
      flag 32 6 (chunkFaultBit j s) ||| flag 32 7 (j.prefetch && j.pageFault) |||
      flag 32 8 (j.prefetch && !j.pageFault) ||| flag 32 11 (fetchStalled s)

/-- The PMU state machine is reset (R983): PMUSTAT reads 0; the load, its DMA transfer and the record of the stalled fetch are
dropped. DESIGN CHOICE (log 36). -/
def pmuSoftReset (s : State) : State :=
  { s with
    pmu := { s.pmu with job := none, missAt := none, maskPrefetch := false }
    dma := if s.dma.running = some .chunk then { s.dma with running := none } else s.dma }

/-- A write of w to PMUCTL (R105, R983): softreset first, then mask or unmask; both of these are refused. DESIGN CHOICE
(log 36). -/
def pmuCtl (w : BitVec 32) (s : State) : Res :=
  if w.getLsbD 1 && w.getLsbD 2 then .refused .controlPair
  else
    let s1 := if w.getLsbD 0 then pmuSoftReset s else s
    .next (s1.setPmu { s1.pmu with maskPrefetch := (s1.pmu.maskPrefetch || w.getLsbD 1) && !w.getLsbD 2 })

/-- pmucmd fix and unfix (R982). -/
def pmuFix (v : BitVec 6) (fixed : Bool) (s : State) : State :=
  s.setPmu (s.pmu.setVirt v (putBit (s.pmu.virtAt v) 1 fixed))

/-- The core is in run mode and program word p is pc or at most 3 words ahead of it (R195, U12). That the word at pc itself counts
is a DESIGN CHOICE (log 43). -/
def nearPc (s : State) (p : Nat) : Bool :=
  !inDebug s && !s.mode.asleep &&
    (List.range 4).any (fun i =>
      match physOf s (s.regs.pc + BitVec.ofNat 16 i) with
      | some q => q.toNat == p
      | none => false)

end Sys2Proof.Machine
end

