-- ==== Sys2Proof/Machine/Dma.lean ====
section
/-! DEFINITION. The DMA engine (spec 49 section 4): channel registers, MGCDMACTRL, arbitration, one word of a
transfer, end of transfer. -/

namespace Sys2Proof.Machine

def Dma.chan (d : Dma) (c : BitVec 2) : DmaChan := d.chans[c.toNat]'c.isLt
def Dma.setChan (d : Dma) (c : BitVec 2) (x : DmaChan) : Dma := { d with chans := d.chans.set c.toNat x c.isLt }

/-- BUSYc (R95): a transfer of the channel is requested; a PMU chunk load is one of channel 3 (R972). -/
def chanBusy (s : State) (c : BitVec 2) : Bool := (s.dma.chan c).busy || (c == 3 && chunkAsked s)

/-- busy0..busy3 and run0..run3 (R95). -/
def busyBits (s : State) : BitVec 4 :=
  flag 4 0 (chanBusy s 0) ||| flag 4 1 (chanBusy s 1) ||| flag 4 2 (chanBusy s 2) ||| flag 4 3 (chanBusy s 3)

/-- The channel of a transfer. -/
def Transfer.channelOf : Transfer → BitVec 2
  | .channel x => x
  | .chunk => 3

def Dma.runBits (d : Dma) : BitVec 4 :=
  match d.running with
  | some t => bitAt 4 t.channelOf.toNat
  | none => 0

/-- MGCDMASTAT (R95, R1013). -/
def dmaStat (s : State) : BitVec 32 :=
  let d := s.dma
  (busyBits s).setWidth 32 ||| (d.runBits.setWidth 32 <<< 4) ||| flag 32 8 (busyBits s != 0) |||
    flag 32 9 (d.runBits != 0) ||| (d.active.setWidth 32 <<< 10) ||| flag 32 12 (d.chan d.active).prsvInt |||
    flag 32 13 (d.chan d.active).prsvExt ||| flag 32 14 d.err ||| (d.eot.setWidth 32 <<< 16) ||| flag 32 20 d.lock

/-- The eight channel registers, 0x64 to 0x6B, of the active channel (R85 to R93). -/
def Dma.reg (d : Dma) (a : Nat) : BitVec 32 :=
  let c := d.chan d.active
  if a = 0x64 then c.extAdd else if a = 0x65 then c.extCirc.setWidth 32 else if a = 0x66 then c.extMod.setWidth 32
  else if a = 0x67 then c.intAdd.setWidth 32 else if a = 0x68 then c.intCirc.setWidth 32
  else if a = 0x69 then c.intMod.setWidth 32 else if a = 0x6A then c.len.setWidth 32
  else c.seg.setWidth 32

def DmaChan.setReg (c : DmaChan) (a : Nat) (v : BitVec 32) : DmaChan :=
  if a = 0x64 then { c with extAdd := v } else if a = 0x65 then { c with extCirc := v.setWidth 24 }
  else if a = 0x66 then { c with extMod := v.setWidth 16 } else if a = 0x67 then { c with intAdd := v.setWidth 16 }
  else if a = 0x68 then { c with intCirc := v.setWidth 16 } else if a = 0x69 then { c with intMod := v.setWidth 16 }
  else if a = 0x6A then { c with len := v.setWidth 16 } else { c with seg := v.setWidth 4 }

/-- A write to a channel register (R1002), core or AHB; channel 3 belongs to the PMU while it is on (R972, U23). -/
def dmaRegWrite (a : Nat) (v : BitVec 32) (s : State) : Res :=
  if s.mode.pmuen && s.dma.active = 3 then .refused .dmaChannel3
  else if chanBusy s s.dma.active then .next (raise .dmabusy s)
  else .next (s.setDma (s.dma.setChan s.dma.active ((s.dma.chan s.dma.active).setReg a v)))

/-- A start on channel c (R1002, R1003). -/
def dmaStart (isRead : Bool) (c : BitVec 2) (s : State) : Res :=
  if s.mode.pmuen && c = 3 then .refused .dmaChannel3
  else if chanBusy s c then .next (raise .dmabusy s)
  else .next (s.setDma (s.dma.setChan c { s.dma.chan c with busy := true, isRead := isRead }))

/-- Abort on channel c (R1011): its own transfer, running or pending. -/
def Dma.abort (d : Dma) (c : BitVec 2) : Dma :=
  let d1 := d.setChan c { d.chan c with busy := false, savedExt := none, savedInt := none }
  match d.running with
  | some t => if t.channelOf = c then { d1 with running := none } else d1
  | none => d1

/-- Abort on channel c (R1011). On channel 3 it withdraws the request of a PMU chunk load too: BUSY3 and RUN3 read 0 and the
PMU waits for a transfer that never ends. DESIGN CHOICE (log 32): U23 refuses abortall alone. -/
def abortChannel (c : BitVec 2) (s : State) : State :=
  { s with
    dma := s.dma.abort c
    pmu := if c = 3 then { s.pmu with job := s.pmu.job.map (fun j => { j with asked := false }) } else s.pmu }

/-- WATcond of a write w to MGCDMACTRL with status st (R1012): every tested position is 1. -/
def dmaWat (st w : BitVec 32) : Bool :=
  (List.range 4).all (fun x => (!w.getLsbD (12 + x) || st.getLsbD x) && (!w.getLsbD (16 + x) || st.getLsbD (4 + x)) &&
      (!w.getLsbD (26 + x) || st.getLsbD (16 + x))) &&
    (!w.getLsbD 20 || st.getLsbD 8) && (!w.getLsbD 21 || st.getLsbD 9) && (!w.getLsbD 24 || st.getLsbD 14)

/-- lock, unlock and clreot: steps 2 and 3 of R1010. -/
def Dma.lockEot (d : Dma) (w : BitVec 32) : Dma :=
  { d with lock := (d.lock || w.getLsbD 22) && !w.getLsbD 23, eot := if w.getLsbD 3 then 0 else d.eot }

/-- abortall or abort: step 4 of R1010. -/
def dmaAborts (w : BitVec 32) (s : State) : State :=
  if w.getLsbD 11 then abortChannel 3 (abortChannel 2 (abortChannel 1 (abortChannel 0 s)))
  else if w.getLsbD 2 then abortChannel s.dma.active s else s

/-- rld and prsv of channel c: steps 5 and 6 of R1010. -/
def Dma.modes (d : Dma) (c : BitVec 2) (w : BitVec 32) : Dma :=
  d.setChan c { d.chan c with
    prsvInt := ((d.chan c).prsvInt || w.getLsbD 5) && !w.getLsbD 4
    prsvExt := ((d.chan c).prsvExt || w.getLsbD 7) && !w.getLsbD 6 }

/-- Steps 2 to 6 of R1010, which no check can stop. -/
def dmaFlags (w : BitVec 32) (s : State) : State :=
  let s1 := dmaAborts w (s.setDma (s.dma.lockEot w))
  s1.setDma (s1.dma.modes s1.dma.active w)

/-- Both bits of a set/clear pair are written 1 (U4). -/
def bothOf (w : BitVec 32) (i j : Nat) : Bool := w.getLsbD i && w.getLsbD j

/-- A write of w to MGCDMACTRL (R1010); `core` when the writer is the core. -/
def dmaCtrl (core : Bool) (w : BitVec 32) (s : State) : Res :=
  if bothOf w 0 1 || bothOf w 4 5 || bothOf w 6 7 || bothOf w 22 23 then .refused .controlPair
  else if w.getLsbD 8 && (w &&& 0xF7) != 0 then .refused .dmaCtrlMix
  else if w.getLsbD 11 && s.pmu.job.isSome then .refused .abortallPmu
  else
    let s1 := if core then s.setCond (bitAt 16 10) (flag 16 10 (dmaWat (dmaStat s) w)) else s
    let s2 := dmaFlags w s1
    andThen (if w.getLsbD 0 then dmaStart false s.dma.active s2 else .next s2) fun s3 =>
    andThen (if w.getLsbD 1 then dmaStart true s.dma.active s3 else .next s3) fun s4 =>
    .next (if w.getLsbD 8 then s4.setDma { s4.dma with active := w.extractLsb' 9 2 } else s4)

/-! ## The engine -/

/-- AHB words per internal word of a segment (R1004). -/
def segParts (seg : BitVec 4) : Nat := if seg = 1 then 4 else if seg = 8 then 2 else 1

def segKnown (seg : BitVec 4) : Bool := seg = 1 || seg = 2 || seg = 4 || seg = 8

/-- The internal address lies in its segment (R1004). -/
def segRange (seg : BitVec 4) (ia : BitVec 16) : Bool :=
  if seg = 1 then ia.toNat ≤ 0x1FFF
  else if seg = 8 then ia.toNat ≤ 0x7FFE && !ia.getLsbD 0
  else ia.toNat ≤ 0x3FFF

/-- Data word and view of an internal address (R1004). -/
def segView (seg : BitVec 4) : DmView := if seg = 2 then .int else if seg = 4 then .float else .full
def segWord (seg : BitVec 4) (ia : BitVec 16) : Nat := if seg = 8 then ia.toNat / 2 else ia.toNat

/-- A transfer on channel x ends (R1005, R1008): the shadow addresses are kept for preserve mode. `busy` is what remains of
the channel's own request. -/
def Dma.finish (x : BitVec 2) (busy : Bool) (d : Dma) : Dma :=
  { d.setChan x { d.chan x with busy := busy, savedExt := some d.curExt, savedInt := some d.curInt } with
    running := none }

/-- The running transfer of channel x ends. -/
def dmaEnd (x : BitVec 2) (d : Dma) : Dma := d.finish x false

/-- End without EOT on a master error (R1005, R1006). DEDUCED (log 17). -/
def dmaFail (x : BitVec 2) (s : State) : State :=
  raise .msterr (s.setDma { dmaEnd x s.dma with err := true })

/-- End of transfer (R1008). -/
def dmaEot (x : BitVec 2) (s : State) : State :=
  let s1 := s.setDma { dmaEnd x s.dma with eot := s.dma.eot ||| bitAt 4 x.toNat }
  let s2 := s1.setInts { s1.ints with
    wakeEotEv := s1.ints.wakeEotEv ||| (s1.ints.wakeEot &&& bitAt 4 x.toNat) }
  lineEvent 4 s2

/-- The engine picks channel x (R1005). Where several checks fail no rule orders them: U25, then U5, then msterr, then U24, so that
a bad external address or modifier raises msterr and is not refused for an odd or part-word internal side (R1004). DESIGN CHOICE
(log 44). -/
def dmaPick (x : BitVec 2) (s : State) : Res :=
  let c := s.dma.chan x
  let ext := if c.prsvExt then c.savedExt else some c.extAdd
  let int := if c.prsvInt then c.savedInt else some (c.seg ++ c.intAdd)
  match ext, int with
  | some e, some i =>
    let seg : BitVec 4 := i.extractLsb' 16 4
    let s1 := s.setDma { s.dma with running := some (.channel x), curExt := e, curInt := i, curLen := c.len, part := 0 }
    if !segKnown c.seg || !segKnown seg then .refused .dmaSegment
    else if e.setWidth 2 != (0 : BitVec 2) || c.extMod.setWidth 2 != (0 : BitVec 2) then .next (dmaFail x s1)
    else if (seg = 8 && (i.getLsbD 0 || c.intMod.getLsbD 0)) || c.len.toNat % segParts seg != 0 then
      .refused .dmaInternal
    else .next s1
  | _, _ => .fault .preserveUndefined

/-- The highest busy channel (R1005). -/
def dmaWinner (d : Dma) : Option (BitVec 2) :=
  if (d.chan 3).busy then some 3 else if (d.chan 2).busy then some 2
  else if (d.chan 1).busy then some 1 else if (d.chan 0).busy then some 0 else none

/-- One component of an address steps inside its mask (R1006). -/
def circStep {n : Nat} (a m mask : BitVec n) : BitVec n := (a &&& ~~~mask) + ((a + m) &&& mask)

/-- The shadow registers after one word (R1006), with the modifiers and masks of the transfer. -/
def Dma.advance (d : Dma) (extMod extMask : BitVec 32) (intMod intMask : BitVec 16) : Dma :=
  let seg : BitVec 4 := d.curInt.extractLsb' 16 4
  let ia : BitVec 16 := d.curInt.setWidth 16
  let last := d.part.toNat + 1 = segParts seg
  { d with
    curExt := circStep d.curExt extMod extMask
    curLen := d.curLen - 1
    part := if last then 0 else d.part + 1
    curInt := if last then seg ++ circStep ia intMod intMask else d.curInt }

/-- The addresses after one word of channel x. -/
def dmaAdvance (x : BitVec 2) (d : Dma) : Dma :=
  let c := d.chan x
  d.advance (c.extMod.setWidth 32) (c.extCirc.setWidth 32) c.intMod c.intCirc

/-- A P0A access to data word a meets the core's accesses of this cycle (R188, R189): only P1B is allowed beside it. -/
def p0aConflict (s : State) (a : Nat) (wr : Bool) : Bool :=
  s.acc.any (fun x => x.addr == a && x.port == .p0b && (x.write || wr))

/-- Data word a as a P0A write finds it (R188 case 8): a P1B write of this cycle to it fails. -/
def p0aOld (s : State) (a : Nat) : Word40 :=
  match s.acc.find? (fun x => x.addr == a && x.port == .p1b && x.write) with
  | some x => x.old
  | none => s.mem.dm a

/-- The engine writes part k of program word p: refused near a running program counter (R195, U12). -/
def pmStore (p k : Nat) (v : BitVec 32) (s : State) : Res :=
  if nearPc s p then .refused .programNearPc else .next (pmLoad p k v s)

/-- The internal side of one word of a DMA read (AHB to internal memory). -/
def dmaStoreWord (seg : BitVec 4) (ia : BitVec 16) (part : Nat) (v : BitVec 32) (s : State) : Res :=
  if seg = 1 then pmStore ia.toNat part v s
  else
    let a := segWord seg ia
    if p0aConflict s a true then .fault .sameWordAccess
    else .next (dmStore .p0a a (viewMerge (segView seg) part (p0aOld s a) v) s)

/-- The internal side of one word of a DMA write (internal memory to AHB). -/
def dmaLoadWord (seg : BitVec 4) (ia : BitVec 16) (part : Nat) (s : State) : BitVec 32 :=
  if seg = 1 then s.mem.pmPart ia.toNat part else s.mem.viewRead (segView seg) (segWord seg ia) part

/-- One 32-bit word of the running transfer, with the AHB's answer (R1006). The range (U24) and, toward AHB, a meeting with P0B (U11)
come before an AHB error, which comes, from AHB, before U11 and U12. DESIGN CHOICE (log 44). -/
def dmaWord (x : BitVec 2) (r : BusReply) (s : State) : Res :=
  let seg : BitVec 4 := s.dma.curInt.extractLsb' 16 4
  let ia : BitVec 16 := s.dma.curInt.setWidth 16
  let part := s.dma.part.toNat
  let finish := fun (s : State) =>
    let s1 := s.setDma (dmaAdvance x s.dma)
    Host.Outcome.next (if s1.dma.curLen = 0 then dmaEot x s1 else s1)
  if !segRange seg ia then .refused .dmaInternal
  else if (s.dma.chan x).isRead then
    let s1 := s.emit (.busRead s.dma.curExt)
    if r.ok then andThen (dmaStoreWord seg ia part r.rdata s1) finish else .next (dmaFail x s1)
  else if seg != 1 && p0aConflict s (segWord seg ia) false then .fault .sameWordAccess
  else
    let s1 := s.emit (.busWrite s.dma.curExt (dmaLoadWord seg ia part s))
    let s2 := if seg = 1 then s1 else dmLoad .p0a (segWord seg ia) s1
    if r.ok then finish s2 else .next (dmaFail x s2)

/-! ## The PMU's transfer on channel 3 (R972) -/

/-- The engine picks the PMU's load: the shadow registers show the chunk's addresses and 256 words. -/
def chunkPick (j : PmuJob) (s : State) : State :=
  s.setDma { s.dma with
    running := some .chunk, curExt := j.extAddr s.pmu.extAdd, curLen := 256, part := 0
    curInt := (1 : BitVec 4) ++ j.base.setWidth 16 }

/-- One AHB word of a chunk load, its end without EOT (R970, R1008), or its AHB error (R1006); the addresses step with the
values R1203 gives channel 3. Its writes are DMA writes in the sense of U12, so that a load that goes on after pmuoff is refused
near MGCPC (R195). DEDUCED (log 33). An AHB error comes before U12. DESIGN CHOICE (log 44). -/
def chunkWord (j : PmuJob) (r : BusReply) (s : State) : Res :=
  let s1 := s.emit (.busRead s.dma.curExt)
  let own := (s.dma.chan 3).busy
  if r.ok then
    andThen (pmStore (s.dma.curInt.setWidth 13 : BitVec 13).toNat s.dma.part.toNat r.rdata s1) fun s2 =>
    let d := s.dma.advance 4 0xFFFFF 1 0xFFFF
    .next (if d.curLen = 0 then (s2.setDma (d.finish 3 own)).setPmu (s2.pmu.loaded j) else s2.setDma d)
  else
    .next <| raise .msterr ((s1.setDma { s.dma.finish 3 own with err := true }).setPmu { s.pmu with job := none })

/-- The engine picks the highest busy channel, if any (R1005). -/
def dmaNext (s : State) : Res :=
  match dmaWinner s.dma with
  | some x => dmaPick x s
  | none => .next s

/-- With no transfer running the engine picks the PMU's load, channel 3, or the highest busy channel (R1005). -/
def dmaReady (s : State) : Res :=
  match s.dma.running, s.pmu.job with
  | some _, _ => .next s
  | none, some j => if j.asked then .next (chunkPick j s) else dmaNext s
  | none, none => dmaNext s

/-- The running transfer moves one word, with the AHB's answer; an answer that meets no transfer is lost. -/
def dmaMove (r : BusReply) (s : State) : Res :=
  match s.dma.running, s.pmu.job with
  | some (.channel x), _ => dmaWord x r s
  | some .chunk, some j => chunkWord j r s
  | _, _ => .next s

/-- The next word of the running transfer needs P0A, which has made its one access of this cycle (R152). -/
def p0aTaken (s : State) : Bool :=
  s.acc.any (fun x => x.port == .p0a) &&
    match s.dma.running with
    | some (.channel _) => s.dma.curInt.extractLsb' 16 4 != (1 : BitVec 4)
    | _ => false

/-- The words the AHB answers in one clock cycle, one after another; a second word of data memory waits for another cycle. -/
def dmaMoves : List BusReply → State → Res
  | [], s => .next s
  | r :: t, s => andThen (dmaReady s) fun s1 => if p0aTaken s1 then .next s1 else andThen (dmaMove r s1) (dmaMoves t)

/-- The AHB side of one clock cycle (R1000): as many words move as the AHB answers, so that any number of core cycles, zero
included, lies between two words of program memory, and a PMU miss takes any number of cycles (R970). DESIGN CHOICE (log 28). -/
def dmaCycle (s : State) : Res :=
  match s.inp.bus with
  | [] => dmaReady s
  | l => dmaMoves l s

end Sys2Proof.Machine
end

