-- ==== Sys2Proof/Machine/RegSpace.lean ====
section
/-! DEFINITION. The register space (spec 10 section 9, spec 46 R812): what a read of an address returns and
clears, what a write does, for the core and for the AHB slave. -/

namespace Sys2Proof.Machine

/-- Which agent writes a register. -/
inductive Writer where
  | core | host
  deriving DecidableEq, Repr

/-! ## Reading -/

/-- MGCSTAT (R56, R1060, R1150). DEDUCED (log 31). -/
def statWord (s : State) : BitVec 32 :=
  let m := s.mode
  let dbg := inDebug s
  flag 32 0 (m.asleep && !dbg) ||| flag 32 1 (!dbg && !m.asleep) ||| flag 32 2 dbg ||| flag 32 3 m.start |||
    flag 32 4 m.step ||| flag 32 5 (s.regs.exception != 0) ||| flag 32 6 m.interrupt ||| flag 32 7 m.halt |||
    flag 32 8 m.ct ||| flag 32 9 m.stop ||| flag 32 10 s.dbgReq ||| flag 32 11 m.brk ||| flag 32 12 m.watch |||
    flag 32 13 m.gbreak ||| flag 32 14 (m.ct && innerBreak s) ||| flag 32 15 m.decopen ||| flag 32 16 m.pmuen |||
    flag 32 17 m.softpipe ||| flag 32 18 m.pty2break ||| flag 32 19 m.pmcheck ||| flag 32 20 m.rptsingle |||
    flag 32 21 m.lock ||| flag 32 22 m.allfatal ||| flag 32 23 m.nonefatal ||| flag 32 24 m.tickovf |||
    flag 32 25 m.intovfen ||| flag 32 26 m.watchen ||| flag 32 27 m.ticken ||| flag 32 28 (coreRuns s) |||
    flag 32 29 m.stepreq

/-- MGCINTSTAT (R72), MGCINTGSTAT (R73), MGCWAKESTAT (R79), MGCMUTXCTRLSTAT (R61). -/
def intStat (i : Ints) : BitVec 32 := (0 : BitVec 8) ++ i.shedge ++ i.en ++ i.pend
def intGStat (i : Ints) : BitVec 16 :=
  (i.shsave.extractLsb' 4 4 : BitVec 4) ++ (i.shpend.extractLsb' 4 4 : BitVec 4) ++
    (i.shsave.setWidth 4 : BitVec 4) ++ (i.shpend.setWidth 4 : BitVec 4)
def wakeStat (i : Ints) : BitVec 24 := i.wakeEotEv ++ i.wakeIntEv ++ i.wakeEot ++ i.wakeInt
def mutexStat (r : Regs) : BitVec 32 := r.mutexOwner ++ r.mutexLocked

/-- An ARF field by address, 0x14 to 0x63 (R38). -/
def arfRead (s : State) (a : Nat) : BitVec 32 :=
  if a < 0x24 then (s.arfAt (BitVec.ofNat 4 (a - 0x14))).a ++ (s.arfAt (BitVec.ofNat 4 (a - 0x14))).m
  else if a < 0x34 then (s.arfAt (BitVec.ofNat 4 (a - 0x24))).m.setWidth 32
  else if a < 0x44 then (s.arfAt (BitVec.ofNat 4 (a - 0x34))).a.setWidth 32
  else if a < 0x54 then (s.arfAt (BitVec.ofNat 4 (a - 0x44))).l.setWidth 32
  else (s.arfAt (BitVec.ofNat 4 (a - 0x54))).s.setWidth 32

/-- The FLOW registers at 0x00 to 0x13 as they read (R110). -/
def flowRead (s : State) (a : Nat) : BitVec 32 :=
  let r := s.regs
  match a with
  | 0x0 => r.exception
  | 0x1 => statWord s
  | 0x2 => r.mask
  | 0x3 => r.exception
  | 0x4 => r.sticky0
  | 0x5 => r.sticky1
  | 0x6 => s.condition.setWidth 32
  | 0x7 => r.rept
  | 0x8 => r.pc.setWidth 32
  | 0x9 => r.stk.setWidth 32
  | 0xA => r.branch.setWidth 32
  | 0xB => r.pred.setWidth 32
  | 0xC => r.tick
  | 0xD => r.watch.setWidth 32
  | 0xE => mutexStat r
  | 0xF => r.loopcnt
  | 0x10 => r.looplen
  | 0x11 => r.gp0
  | 0x12 => r.gp1
  | _ => r.gp2

/-- The FLOW registers at 0x70 to 0x7F as they read (R110); 0x7C has no read side (U6). -/
def sysRead (s : State) (a : Nat) : BitVec 32 :=
  match a with
  | 0x70 => s.regs.stkiq
  | 0x79 => s.ints.mask.setWidth 32
  | 0x7A => intStat s.ints
  | 0x7B => (intGStat s.ints).setWidth 32
  | 0x7C => s.draw.setWidth 32
  | 0x7D => (wakeStat s.ints).setWidth 32
  | 0x7E => s.ints.ret.setWidth 32
  | 0x7F => s.ints.prio.setWidth 32
  | n => (s.ints.svr[(n - 0x71) % 8]'(Nat.mod_lt _ (by decide))).setWidth 32

/-- The readable side of a first-bank address (R110, R111). -/
def firstRead (s : State) (a : BitVec 7) : BitVec 32 :=
  let n := a.toNat
  if n < 0x14 then flowRead s n
  else if n < 0x64 then arfRead s n
  else if n < 0x6C then s.dma.reg n
  else if n = 0x6C then s.dma.curLen.setWidth 32
  else if n = 0x6D then s.dma.curExt
  else if n = 0x6E then s.dma.curInt.setWidth 32
  else if n = 0x6F then dmaStat s
  else sysRead s n

/-- The read-and-clear registers that `c` marks become 0 (R51, R58); an exception raised in this very cycle stays (R1123). -/
def clearRead (c : BitVec 3) (s : State) : State :=
  s.setRegs { s.regs with
    exception := if c.getLsbD 0 then s.regs.exception &&& s.raised else s.regs.exception
    sticky0 := if c.getLsbD 1 then 0 else s.regs.sticky0
    sticky1 := if c.getLsbD 2 then 0 else s.regs.sticky1 }

/-- The clearing that a read of a first-bank address causes. -/
def clearBit (a : BitVec 7) : BitVec 3 := if a = 0x3 then 1 else if a = 0x4 then 2 else if a = 0x5 then 4 else 0

/-- The free value that a read of a write-only address draws (U6). -/
def drawRead (a : BitVec 7) (s : State) : State := if a = 0x7C then s.drawn else s

/-- What a read through the AHB slave changes. -/
def readClear (a : BitVec 7) (s : State) : State := drawRead a (clearRead (clearBit a) s)

/-- What a read by the core changes: the clearing is done in the same cycle, when every issue has read (R330, R812). -/
def readMark (a : BitVec 7) (s : State) : State :=
  drawRead a { s with clears := s.clears ||| clearBit a }

/-- The pair a vector movement reads from ARF register k (R38, R812). -/
def arfPair (s : State) (k : BitVec 4) : Word40 × Word40 :=
  let r := s.arfAt k
  (((r.a ++ r.m : BitVec 32)).setWidth 40, ((r.s ++ r.l : BitVec 32)).setWidth 40)

/-- The ARF register a vector movement names: addresses 0x14 to 0x23 only (U2). -/
def arfVector (a : BitVec 7) : Option (BitVec 4) :=
  if 0x14 ≤ a.toNat && a.toNat < 0x24 then some (BitVec.ofNat 4 (a.toNat - 0x14)) else none

/-! ## Writing -/

/-- Set and clear from the bit pair i, i+1 of a control word. -/
def pairBit (w : BitVec 32) (i : Nat) (old : Bool) : Bool := (old || w.getLsbD i) && !w.getLsbD (i + 1)

/-- The set/clear pairs of MGCCTRL (R55). -/
def ctrlPairs : List Nat := [5, 7, 9, 11, 13, 15, 17, 19, 21, 23, 25, 27, 29]

/-- The mode bits of MGCCTRL (R1062) and gbreakon/off (R1064). -/
def ctrlModes (w : BitVec 32) (m : Mode) : Mode :=
  { m with
    gbreak := pairBit w 5 m.gbreak
    step := pairBit w 7 m.step
    ct := pairBit w 9 m.ct
    decopen := pairBit w 11 m.decopen
    watchen := pairBit w 13 m.watchen
    pty2break := pairBit w 15 m.pty2break
    intovfen := pairBit w 17 m.intovfen
    pmcheck := pairBit w 19 m.pmcheck
    pmuen := pairBit w 21 m.pmuen
    ticken := pairBit w 23 m.ticken
    lock := pairBit w 25 m.lock
    allfatal := pairBit w 27 m.allfatal
    nonefatal := pairBit w 29 m.nonefatal }

/-- start and continue clear these break sources (R1065, R1066). -/
def clearBreaks (m : Mode) : Mode :=
  { m with stop := false, brk := false, watch := false, halt := false, stepreq := false }

/-- sleepon, sleepoff, continue, stop, start in bit order (R55, R1064 to R1066, R1100, R1103). DESIGN CHOICE (log 18). -/
def ctrlRun (w : BitVec 32) (dbg : Bool) (s : State) : State :=
  let m0 := s.mode
  let m1 := { m0 with asleep := (m0.asleep || w.getLsbD 0) && !w.getLsbD 1 }
  let m2 := if w.getLsbD 2 && dbg then clearBreaks m1 else m1
  let m3 := if w.getLsbD 3 then { m2 with stop := true, start := false } else m2
  let m4 := if w.getLsbD 4 then { clearBreaks m3 with start := true, asleep := false } else m3
  let s1 := s.setMode m4
  if w.getLsbD 4 then s1.setRegs { s1.regs with cond := 0 } else s1

/-- The software reset (R132, R1201): the first-bank registers with a reset value, MGCDMACURLEN among them; the hidden MAXSTAGE
stays. DEDUCED (log 3). A PMU chunk load keeps channel 3 busy (R972), so that it is refused too (U25). -/
def softReset (s : State) : Res :=
  if busyBits s != 0 then .refused .resetBusy
  else
    let r := s.regs
    .next { s with
      regs := { Regs.reset with
        branch := r.branch, rept := r.rept, gp0 := r.gp0, gp1 := r.gp1, gp2 := r.gp2, watch := r.watch }
      mode := { Mode.reset with maxstage := s.mode.maxstage }
      dma := { s.dma with curLen := 0 }
      ints := { Ints.reset with svr := s.ints.svr, ret := s.ints.ret }
      pend := [], ports := [], turns := [], landed := false, held := none, resetNow := true }

/-- A write of w to MGCCTRL that is not locked out (R55, R1061 to R1070). -/
def ctrlWrite (w : BitVec 32) (s : State) : Res :=
  if w.getLsbD 31 then softReset s
  else if bothOf w 0 1 || ctrlPairs.any (fun i => bothOf w i (i + 1)) then .refused .controlPair
  else if w.getLsbD 11 && !Config.decompressor then .refused .decompressor
  else if w.getLsbD 4 && !inDebug s then .refused .startRunning
  else
    let dbg := inDebug s
    let m := ctrlModes w s.mode
    if m.allfatal && m.nonefatal then .refused .fatalBoth
    else .next (ctrlRun w dbg (s.setMode m))

/-- The mutex register (R1160): the owner bit is 1 for an external master. Also answers whether every operation succeeded. -/
def mutexStep (host : Bool) (w : BitVec 32) (r : Regs) : Nat → Regs × Bool
  | 0 => (r, true)
  | x + 1 =>
    let (r1, ok) := mutexStep host w r x
    if w.getLsbD x then
      if r1.mutexLocked.getLsbD x then (r1, false)
      else ({ r1 with mutexLocked := putBit r1.mutexLocked x true, mutexOwner := putBit r1.mutexOwner x host }, ok)
    else if w.getLsbD (16 + x) then
      if r1.mutexLocked.getLsbD x && r1.mutexOwner.getLsbD x == host then
        ({ r1 with mutexLocked := putBit r1.mutexLocked x false }, ok)
      else (r1, false)
    else (r1, ok)

/-- WATcond (R112): only the core's writes set it. -/
def setWat (who : Writer) (ok : Bool) (s : State) : State :=
  match who with
  | .core => s.setCond (bitAt 16 10) (flag 16 10 ok)
  | .host => s

def mutexWrite (who : Writer) (w : BitVec 32) (s : State) : Res :=
  if w.setWidth 16 &&& (w.extractLsb' 16 16 : BitVec 16) != 0 then .refused .controlPair
  else
    let (r, ok) := mutexStep (who == .host) w s.regs 16
    .next (setWat who ok (s.setRegs r))

/-- MGCINTCTRL (R74, R1082). -/
def intCtrl (w : BitVec 32) (s : State) : Res :=
  if (List.range 16).any (fun i => bothOf w (2 * i) (2 * i + 1)) then .refused .controlPair
  else
    let f := fun (base : Nat) (old : BitVec 8) =>
      (List.range 8).foldl (fun a x => putBit a x (pairBit w (base + 2 * x) (a.getLsbD x))) old
    .next (s.updInts fun i => { i with en := f 0 i.en, shedge := f 16 i.shedge })

/-- MGCINTSETRESET (R75, R1082): setint also counts as a wake-up event. -/
def intSetReset (w : BitVec 16) (s : State) : Res :=
  if (List.range 8).any (fun i => w.getLsbD (2 * i) && w.getLsbD (2 * i + 1)) then .refused .controlPair
  else
    let set : BitVec 8 := (List.range 8).foldl (fun a x => putBit a x (w.getLsbD (2 * x))) 0
    let clr : BitVec 8 := (List.range 8).foldl (fun a x => putBit a x (w.getLsbD (2 * x + 1))) 0
    .next (s.updInts fun i => { i with
      pend := (i.pend ||| set) &&& ~~~clr
      wakeIntEv := i.wakeIntEv ||| (set &&& i.wakeInt) })

/-- MGCWAKECTRL (R78, R1101). -/
def wakeCtrlWrite (w : BitVec 24) (s : State) : Res :=
  if (List.range 12).any (fun i => w.getLsbD (2 * i) && w.getLsbD (2 * i + 1)) then .refused .controlPair
  else .next (s.updInts (wakeCtrl w))

/-- An ARF field by address (R38). -/
def arfWrite (a : Nat) (v : BitVec 32) (s : State) : State :=
  if a < 0x24 then
    let k := BitVec.ofNat 4 (a - 0x14)
    s.setArf k { s.arfAt k with a := v.extractLsb' 16 16, m := v.setWidth 16 }
  else if a < 0x34 then
    let k := BitVec.ofNat 4 (a - 0x24)
    s.setArf k { s.arfAt k with m := v.setWidth 16 }
  else if a < 0x44 then
    let k := BitVec.ofNat 4 (a - 0x34)
    s.setArf k { s.arfAt k with a := v.setWidth 16 }
  else if a < 0x54 then
    let k := BitVec.ofNat 4 (a - 0x44)
    s.setArf k { s.arfAt k with l := v.setWidth 16 }
  else
    let k := BitVec.ofNat 4 (a - 0x54)
    s.setArf k { s.arfAt k with s := v.setWidth 16 }

/-- The FLOW registers at 0x00 to 0x13 (R110). A write to MGCSTIKY0 or MGCSTIKY1, at 0x4 and 0x5, is ignored as one to a
read-only register is. DEDUCED (log 40). -/
def flowWrite (who : Writer) (a : Nat) (v : BitVec 32) (s : State) : Res :=
  let r := s.regs
  match a with
  | 0x0 =>
    if who == .core && s.mode.lock then .next (raise .ctrlockex s) else ctrlWrite v s
  | 0x1 => .next (setWat who ((statWord s &&& v) == v) s)
  | 0x2 => .next (s.setRegs { r with mask := v &&& excBits })
  | 0x6 => .next (s.setCond condWritable (v.setWidth 16))
  | 0x7 => .next (s.setRegs { r with rept := v })
  | 0x8 => if who == .core then .refused .movePc else .next (s.setRegs { r with pc := v.setWidth 16 })
  | 0x9 => .next (s.setRegs { r with stk := v.setWidth 16 })
  | 0xA => .next (s.setRegs { r with branch := v.setWidth 16 })
  | 0xB => .next (s.setPred 0xFFFF (v.setWidth 16))
  | 0xC => .next { s with
      regs := { r with tick := v }
      mode := { s.mode with tickovf := false }
      tickWritten := s.tickWritten || who == .core }
  | 0xD => .next (s.setRegs { r with watch := v.setWidth 16 })
  | 0xE => mutexWrite who v s
  | 0xF => .next (s.setRegs { r with loopcnt := v })
  | 0x10 => .next (s.setRegs { r with looplen := v, loopcnt := v })
  | 0x11 => .next (s.setRegs { r with gp0 := v })
  | 0x12 => .next (s.setRegs { r with gp1 := v })
  | 0x13 => .next (s.setRegs { r with gp2 := v })
  | _ => .next s

/-- The FLOW registers at 0x70 to 0x7F (R110); 0x7A and 0x7B ignore writes (R111). -/
def sysWrite (a : Nat) (v : BitVec 32) (s : State) : Res :=
  match a with
  | 0x70 => .next (s.setRegs { s.regs with stkiq := v })
  | 0x79 => .next (s.updInts fun i => { i with mask := v.setWidth 16 })
  | 0x7A => .next s
  | 0x7B => .next s
  | 0x7C => intCtrl v s
  | 0x7D => wakeCtrlWrite (v.setWidth 24) s
  | 0x7E => intSetReset (v.setWidth 16) s
  | 0x7F => .next (s.updInts fun i => { i with prio := v.setWidth 24 })
  | n => .next (s.updInts fun i => { i with
      svr := i.svr.set ((n - 0x71) % 8) (v.setWidth 16) (Nat.mod_lt _ (by decide)) })

/-- RegWrite(a, v) of R812, and the AHB's write to the same register (R176). -/
def firstWrite (who : Writer) (a : BitVec 7) (v : BitVec 32) (s : State) : Res :=
  let n := a.toNat
  if n < 0x14 then flowWrite who n v s
  else if n < 0x64 then .next (arfWrite n v s)
  else if n < 0x6C then dmaRegWrite n v s
  else if n < 0x6F then .next s
  else if n = 0x6F then dmaCtrl (who == .core) v s
  else sysWrite n v s

/-- RegWrite2 of R812: all four fields of ARF register k. -/
def arfWritePair (k : BitVec 4) (v0 v1 : Word40) (s : State) : State :=
  s.setArf k { a := v0.extractLsb' 16 16, m := v0.setWidth 16, s := v1.extractLsb' 16 16, l := v1.setWidth 16 }

end Sys2Proof.Machine
end

