-- ==== Sys2Proof/Machine/Operands.lean ====
section
/-! DEFINITION. Operand forms: gating by predicate and stage window (spec 40 R340 to R344, spec 48 R921), register
pairs (R252), and the scheduling of the results of ADD and MUL operations (R336, R640, R686). -/

namespace Sys2Proof.Machine

/-! ## Gating -/

/-- The three bits of a predication register (R50). -/
structure Gate where
  g : Bool
  c0 : Bool
  c1 : Bool
  deriving DecidableEq, Repr

/-- Predication register p of MGCPRED (R50). -/
def predReg (s : State) (p : BitVec 2) : Gate :=
  let b := 3 * p.toNat
  { g := s.regs.pred.getLsbD (b + 2), c0 := s.regs.pred.getLsbD b, c1 := s.regs.pred.getLsbD (b + 1) }

/-- The register an issue's predication field selects: always 0 in software-pipeline mode (R343). -/
def gateOf (s : State) (p : BitVec 2) : Gate := predReg s (if s.mode.softpipe then 0 else p)

/-- The STAGE field of a computational issue in the executing word (R290). -/
def stageOf (w : Bundle) : Issue → BitVec 3
  | .mul => w.extractLsb' 51 3
  | .agu1 => w.extractLsb' 48 3
  | .add => w.extractLsb' 3 3
  | .agu0 => w.extractLsb' 0 3
  | .flow => 0

/-- The stage window (R921): s ≤ K and K ≤ s + N - 1, with N and K modulo 2^32 (R8); it holds N loop-cycles. -/
def stageWindow (s : State) (i : Issue) : Bool :=
  let st := (stageOf s.vliw i).toNat
  let n := (s.regs.looplen - s.mode.maxstage.setWidth 32).toNat
  let k := (s.regs.looplen - s.regs.loopcnt).toNat
  st ≤ k && k < st + n

def Gate.off : Gate := { g := false, c0 := false, c1 := false }

/-- The gate of a computational issue (R343). -/
def issueGate (s : State) (i : Issue) (p : BitVec 2) : Gate :=
  if s.mode.softpipe && !stageWindow s i then Gate.off else gateOf s p

/-- A scalar transfer under a gate (R340, R341): runs on C0 = C1 = 1, nothing on 0, a fault when they differ. -/
def scalarGate (g : Gate) (s : State) (run : State → Res) : Res :=
  if g.c0 != g.c1 then .fault .scalarPredicate
  else if g.c0 then run s
  else .next s

/-! ## Register pairs -/

/-- An address that names a pair is even (R252, U13). -/
def evenPair (r : BitVec 8) : Bool := !r.getLsbD 0

/-- Element 0 and element 1 of the pair at r (R30). -/
def pairAt (s : State) (r : BitVec 8) : Word40 × Word40 := (s.rfAt r, s.rfAt (r + 1))

/-! ## Results of ADD and MUL operations -/

/-- The result of a vector or complex operation: destination pair, elements, status flags of the two paths,
and the second result of a format 2 operation. -/
structure PairOut where
  d : BitVec 8
  e0 : Word40
  e1 : Word40
  f0 : BitVec 32 := 0
  f1 : BitVec 32 := 0
  second : Option (BitVec 8 × Word40 × Word40) := none
  deriving DecidableEq, Repr

/-- The result of a scalar operation. -/
structure ScalarOut where
  d : BitVec 8
  v : Word40
  f : BitVec 32 := 0
  second : Option (BitVec 8 × Word40) := none
  deriving DecidableEq, Repr

/-- The write port of a unit's first result (R31): 6 for ADD, 4 for MUL. -/
def mainPort : Issue → RfPort
  | .mul => .p4
  | _ => .p6

/-- The enabled elements of a pair write. -/
def pairWrites (c0 c1 : Bool) (d : BitVec 8) (e0 e1 : Word40) : List (BitVec 8 × Word40) :=
  (if c0 then [(d, e0)] else []) ++ (if c1 then [(d + 1, e1)] else [])

/-- The delay of the status flags of issue i, whose result takes `lat`: FLAG_DELAY_ADD for ADD (R382, D6), the result's own for MUL
(R640). -/
def flagDelay (i : Issue) (lat : Nat) : Nat :=
  match i with
  | .add => Config.flagDelayAdd
  | _ => lat

/-- The pending writes of a pair result, `lat` steps from now, with its status flags. -/
def pairEffects (i : Issue) (lat : Nat) (g : Gate) (o : PairOut) : List Pend :=
  [⟨lat, .rf (mainPort i) (pairWrites g.c0 g.c1 o.d o.e0 o.e1)⟩] ++
    (match o.second with
     | some (d2, x0, x1) => [⟨lat, .rf .p5 (pairWrites g.c0 g.c1 d2 x0 x1)⟩]
     | none => []) ++
    (if g.c0 then [⟨flagDelay i lat, .sticky false o.f0⟩] else []) ++
    (if g.c1 then [⟨flagDelay i lat, .sticky true o.f1⟩] else [])

/-- The pending writes of a scalar result; the path is bit 0 of the destination (R640). -/
def scalarEffects (i : Issue) (lat : Nat) (o : ScalarOut) : List Pend :=
  [⟨lat, .rf (mainPort i) [(o.d, o.v)]⟩] ++
    (match o.second with
     | some (d2, x) => [⟨lat, .rf .p5 [(d2, x)]⟩]
     | none => []) ++
    [⟨flagDelay i lat, .sticky (o.d.getLsbD 0) o.f⟩]

/-- Latch the unit's output for a store of the same bundle (R686). -/
def latch (i : Issue) (o : Option OpOut) (s : State) : State :=
  match i with
  | .mul => { s with mulOut := o }
  | .add => { s with addOut := o }
  | _ => s

/-- Schedule a pair result under a gate. -/
def schedulePair (i : Issue) (lat : Nat) (g : Gate) (o : PairOut) (s : State) : State :=
  latch i (some { vec := true, lat := lat, e0 := if g.c0 then some o.e0 else none,
                  e1 := if g.c1 then some o.e1 else none })
    { s with pend := s.pend ++ pairEffects i lat g o }

/-- Schedule a scalar result. -/
def scheduleScalar (i : Issue) (lat : Nat) (o : ScalarOut) (s : State) : State :=
  latch i (some { vec := false, lat := lat, e0 := some o.v, e1 := none })
    { s with pend := s.pend ++ scalarEffects i lat o }

/-- A vector or complex operation of the ADD or MUL issue: nothing when both elements are disabled (R344), else refused when a
pair address is odd (R380, U13). That an odd pair of a disabled operation is not refused is a DESIGN CHOICE (log 46). -/
def pairOp (i : Issue) (lat : Nat) (p : BitVec 2) (pairs : List (BitVec 8)) (f : State → PairOut) (s : State) : Res :=
  let g := issueGate s i p
  if !g.c0 && !g.c1 then .next s
  else if pairs.any (fun r => !evenPair r) then .refused .oddPair
  else .next (schedulePair i lat g (f s) s)

/-- A scalar operation of the ADD or MUL issue. -/
def scalarOp (i : Issue) (lat : Nat) (p : BitVec 2) (f : State → ScalarOut) (s : State) : Res :=
  scalarGate (issueGate s i p) s fun s => .next (scheduleScalar i lat (f s) s)

/-- A compare of pairs (R468): the elements' conditions, each under its own predicate bit. Odd pairs as in `pairOp`: DESIGN CHOICE
(log 46). -/
def pairCompare (p : BitVec 2) (pairs : List (BitVec 8)) (f : State → Bool × Bool) (s : State) : Res :=
  let g := issueGate s .add p
  if !g.c0 && !g.c1 then .next s
  else if pairs.any (fun r => !evenPair r) then .refused .oddPair
  else .next (s.later Config.flagDelayAdd (.cond (fpuMask g.c0 g.c1) (fpuMask (f s).1 (f s).2)))

/-- A scalar compare (R468): the same condition in fpucond0 and fpucond1. -/
def scalarCompare (p : BitVec 2) (f : State → Bool) (s : State) : Res :=
  scalarGate (issueGate s .add p) s fun s =>
    .next (s.later Config.flagDelayAdd (.cond (fpuMask true true) (fpuMask (f s) (f s))))

end Sys2Proof.Machine
end

