-- ==== Sys2Proof/Machine/AddOps.lean ====
section
/-! DEFINITION. Operations shared by the ADD issue's meanings (spec 41 section 1): operand signs (R381), one- and
two-result forms over pairs and single registers (R380, R385), compares (R468). -/

namespace Sys2Proof.Machine

/-- A primitive on one element: of the state (fpucond, intovfen), of what the destination holds (INT_RESULT_MSB), of the operands. -/
abbrev Elem := State → Word40 → Word40 → Word40 → Val

/-- A minus sign on a floating point operand (R381). -/
def fsign (neg : Bool) (v : Word40) : Word40 := if neg then fneg v else v

def elFadd (na nb : Bool) : Elem := fun _ _ a b => fadd (fsign na a) (fsign nb b)
def elFabsadd (na nb : Bool) : Elem := fun _ _ a b =>
  let r := fadd (fsign na a) (fsign nb b)
  (fabs r.1, r.2)
def elIadd (na nb : Bool) : Elem := fun s o a b => withMsb o a (intVal s (iadd32 na a nb b))
def elIabsadd (na nb : Bool) : Elem := fun s o a b => withMsb o a (intVal s (iabsadd32 na a nb b))
def elFmin : Elem := fun _ _ a b => fmin a b
def elFmax : Elem := fun _ _ a b => fmax a b
def elImin : Elem := fun _ o a b => withMsb o a (iword (if xi a ≤ xi b then xi a else xi b), Ev.none)
def elImax : Elem := fun _ o a b => withMsb o a (iword (if xi b ≤ xi a then xi a else xi b), Ev.none)

/-- fpucond0 or fpucond1 as visible in the issue cycle. -/
def fpucond (s : State) (i : Bool) : Bool := s.regs.cond.getLsbD (if i then 9 else 8)

/-- `fpucond_i ? a : b`, the pattern copied unchanged. -/
def elSel (i : Bool) : Elem := fun s _ a b => (if fpucond s i then a else b, Ev.none)
/-- `fpucond_i ? b : a`. -/
def elSwap (i : Bool) : Elem := fun s _ a b => (if fpucond s i then b else a, Ev.none)
/-- The 32-bit selection of ISEL, an integer result (R459, R384). -/
def elIsel : Elem := fun s o a b =>
  withMsb o a (((if fpucond s false then a else b).setWidth 32).setWidth 40, Ev.none)

/-- The other element of an integer sum of a complex and a real operand: S1.1 with its sign (R414 to R417). -/
def imagIadd (neg : Bool) : State → Word40 → Word40 → Val := fun s o a =>
  withMsb o a (if neg then intVal s (iadd32 true a false 0) else (iword (xi a), Ev.none))

/-- One result over pairs; `u` owns the flags. -/
def addPair (p : BitVec 2) (d s1 s2 : BitVec 8) (u : Unit2) (f0 f1 : Elem) (s : State) : Res :=
  pairOp .add Config.addDelay p [d, s1, s2]
    (fun s =>
      let a := pairAt s s1
      let b := pairAt s s2
      let o := pairAt s d
      let r0 := f0 s o.1 a.1 b.1
      let r1 := f1 s o.2 a.2 b.2
      { d := d, e0 := r0.1, e1 := r1.1, f0 := flagWord u r0.2, f1 := flagWord u r1.2 }) s

/-- A complex with a real operand: S2 is a single register, element 1 comes from S1.1 alone (R398). -/
def addReal (p : BitVec 2) (d s1 s2 : BitVec 8) (f : Elem) (g : State → Word40 → Word40 → Val) (s : State) : Res :=
  pairOp .add Config.addDelay p [d, s1]
    (fun s =>
      let a := pairAt s s1
      let o := pairAt s d
      let r0 := f s o.1 a.1 (s.rfAt s2)
      let r1 := g s o.2 a.2
      { d := d, e0 := r0.1, e1 := r1.1, f0 := flagWord .add1 r0.2, f1 := flagWord .add1 r1.2 }) s

/-- One scalar result. No flag of MGCCONDITION: R1210's row naming min/max as a producer of fpucond has no match in their
rules. DEDUCED (log 35). -/
def addScalar (p : BitVec 2) (d s1 s2 : BitVec 8) (u : Unit2) (f : Elem) (s : State) : Res :=
  scalarOp .add Config.addDelay p
    (fun s =>
      let r := f s (s.rfAt d) (s.rfAt s1) (s.rfAt s2)
      { d := d, v := r.1, f := flagWord u r.2 }) s

/-- Two results over pairs (R385): D1 through port 6 with the flags of `u1`, D2 through port 5 with those of `u2`. -/
def addPair2 (p : BitVec 2) (d1 d2 s1 s2 : BitVec 8) (u1 u2 : Unit2) (f0 f1 g0 g1 : Elem) (s : State) : Res :=
  pairOp .add Config.addDelay p [d1, d2, s1, s2]
    (fun s =>
      let a := pairAt s s1
      let b := pairAt s s2
      let o := pairAt s d1
      let o2 := pairAt s d2
      let r0 := f0 s o.1 a.1 b.1
      let r1 := f1 s o.2 a.2 b.2
      let q0 := g0 s o2.1 a.1 b.1
      let q1 := g1 s o2.2 a.2 b.2
      { d := d1, e0 := r0.1, e1 := r1.1, f0 := flagWord u1 r0.2 ||| flagWord u2 q0.2,
        f1 := flagWord u1 r1.2 ||| flagWord u2 q1.2, second := some (d2, q0.1, q1.1) }) s

/-- Two scalar results; the path is that of D1. -/
def addScalar2 (p : BitVec 2) (d1 d2 s1 s2 : BitVec 8) (u1 u2 : Unit2) (f g : Elem) (s : State) : Res :=
  scalarOp .add Config.addDelay p
    (fun s =>
      let r := f s (s.rfAt d1) (s.rfAt s1) (s.rfAt s2)
      let q := g s (s.rfAt d2) (s.rfAt s1) (s.rfAt s2)
      { d := d1, v := r.1, f := flagWord u1 r.2 ||| flagWord u2 q.2, second := some (d2, q.1) }) s

/-! ## Compares (R468) -/

def relF (r : Rel) (a b : Word40) : Bool := r.holds (fcmp a b)
def relI (r : Rel) (a b : Word40) : Bool := r.holds (icmp a b)

def vectorCompare (p : BitVec 2) (s1 s2 : BitVec 8) (c : Word40 → Word40 → Bool) (s : State) : Res :=
  pairCompare p [s1, s2]
    (fun s => (c (pairAt s s1).1 (pairAt s s2).1, c (pairAt s s1).2 (pairAt s s2).2)) s

/-- A complex compare: one condition, formed by `j` from the two elements, for both flags. -/
def complexCompare (p : BitVec 2) (s1 s2 : BitVec 8) (c : Word40 → Word40 → Bool) (j : Bool → Bool → Bool)
    (s : State) : Res :=
  pairCompare p [s1, s2]
    (fun s =>
      let x := j (c (pairAt s s1).1 (pairAt s s2).1) (c (pairAt s s1).2 (pairAt s s2).2)
      (x, x)) s

def singleCompare (p : BitVec 2) (s1 s2 : BitVec 8) (c : Word40 → Word40 → Bool) (s : State) : Res :=
  scalarCompare p (fun s => c (s.rfAt s1) (s.rfAt s2)) s

end Sys2Proof.Machine
end

