-- ==== Sys2Proof/Machine/AddArith.lean ====
section
/-! DEFINITION. Meanings. ADD issue: additions, absolute values, addition with subtraction (spec 41 sections 2 to 4). -/

namespace Sys2Proof.Machine

/-- CFADD D S1 S2, code 0x00 (R386). -/
def execCfaddPP (p : BitVec 2) (d s1 s2 : BitVec 8) (s : State) : Res :=
  addPair p d s1 s2 .add1 (elFadd false false) (elFadd false false) s

/-- CFADD D S1 -S2, code 0x01 (R387). -/
def execCfaddPN (p : BitVec 2) (d s1 s2 : BitVec 8) (s : State) : Res :=
  addPair p d s1 s2 .add1 (elFadd false true) (elFadd false true) s

/-- CFADD D -S1 -S2, code 0x02 (R388). -/
def execCfaddNN (p : BitVec 2) (d s1 s2 : BitVec 8) (s : State) : Res :=
  addPair p d s1 s2 .add1 (elFadd true true) (elFadd true true) s

/-- CFADD D -S1 S2, code 0x03 (R389). -/
def execCfaddNP (p : BitVec 2) (d s1 s2 : BitVec 8) (s : State) : Res :=
  addPair p d s1 s2 .add1 (elFadd true false) (elFadd true false) s

/-- CFJADD D S1 S2, code 0x04 (R390). -/
def execCfjaddPP (p : BitVec 2) (d s1 s2 : BitVec 8) (s : State) : Res :=
  addPair p d s1 s2 .add1 (elFadd false false) (elFadd false true) s

/-- CFJADD D S1 -S2, code 0x05 (R391). -/
def execCfjaddPN (p : BitVec 2) (d s1 s2 : BitVec 8) (s : State) : Res :=
  addPair p d s1 s2 .add1 (elFadd false true) (elFadd false false) s

/-- CFJADD D -S1 -S2, code 0x06 (R392). -/
def execCfjaddNN (p : BitVec 2) (d s1 s2 : BitVec 8) (s : State) : Res :=
  addPair p d s1 s2 .add1 (elFadd true true) (elFadd true false) s

/-- CFJADD D -S1 S2, code 0x07 (R393). -/
def execCfjaddNP (p : BitVec 2) (d s1 s2 : BitVec 8) (s : State) : Res :=
  addPair p d s1 s2 .add1 (elFadd true false) (elFadd true true) s

/-- CJJADD D S1 S2, code 0x08 (R394). -/
def execCjjaddPP (p : BitVec 2) (d s1 s2 : BitVec 8) (s : State) : Res :=
  addPair p d s1 s2 .add1 (elFadd false false) (elFadd true true) s

/-- CJJADD D S1 -S2, code 0x09 (R395). -/
def execCjjaddPN (p : BitVec 2) (d s1 s2 : BitVec 8) (s : State) : Res :=
  addPair p d s1 s2 .add1 (elFadd false true) (elFadd true false) s

/-- CJJADD D -S1 -S2, code 0x0A (R396). -/
def execCjjaddNN (p : BitVec 2) (d s1 s2 : BitVec 8) (s : State) : Res :=
  addPair p d s1 s2 .add1 (elFadd true true) (elFadd false false) s

/-- CJJADD D -S1 S2, code 0x0B (R397). -/
def execCjjaddNP (p : BitVec 2) (d s1 s2 : BitVec 8) (s : State) : Res :=
  addPair p d s1 s2 .add1 (elFadd true false) (elFadd false true) s

/-- CFRADD D S1 S2, code 0x0C (R398). -/
def execCfraddPP (p : BitVec 2) (d s1 s2 : BitVec 8) (s : State) : Res :=
  addReal p d s1 s2 (elFadd false false) (fun _ _ a => (fsign false a, Ev.none)) s

/-- CFRADD D S1 -S2, code 0x0D (R399). -/
def execCfraddPN (p : BitVec 2) (d s1 s2 : BitVec 8) (s : State) : Res :=
  addReal p d s1 s2 (elFadd false true) (fun _ _ a => (fsign false a, Ev.none)) s

/-- CFRADD D -S1 -S2, code 0x0E (R400). -/
def execCfraddNN (p : BitVec 2) (d s1 s2 : BitVec 8) (s : State) : Res :=
  addReal p d s1 s2 (elFadd true true) (fun _ _ a => (fsign true a, Ev.none)) s

/-- CFRADD D -S1 S2, code 0x0F (R401). -/
def execCfraddNP (p : BitVec 2) (d s1 s2 : BitVec 8) (s : State) : Res :=
  addReal p d s1 s2 (elFadd true false) (fun _ _ a => (fsign true a, Ev.none)) s

/-- CIADD D S1 S2, code 0x10 (R402). -/
def execCiaddPP (p : BitVec 2) (d s1 s2 : BitVec 8) (s : State) : Res :=
  addPair p d s1 s2 .add1 (elIadd false false) (elIadd false false) s

/-- CIADD D S1 -S2, code 0x11 (R403). -/
def execCiaddPN (p : BitVec 2) (d s1 s2 : BitVec 8) (s : State) : Res :=
  addPair p d s1 s2 .add1 (elIadd false true) (elIadd false true) s

/-- CIADD D -S1 -S2, code 0x12 (R404). -/
def execCiaddNN (p : BitVec 2) (d s1 s2 : BitVec 8) (s : State) : Res :=
  addPair p d s1 s2 .add1 (elIadd true true) (elIadd true true) s

/-- CIADD D -S1 S2, code 0x13 (R405). -/
def execCiaddNP (p : BitVec 2) (d s1 s2 : BitVec 8) (s : State) : Res :=
  addPair p d s1 s2 .add1 (elIadd true false) (elIadd true false) s

/-- CIJADD D S1 S2, code 0x14 (R406). -/
def execCijaddPP (p : BitVec 2) (d s1 s2 : BitVec 8) (s : State) : Res :=
  addPair p d s1 s2 .add1 (elIadd false false) (elIadd false true) s

/-- CIJADD D S1 -S2, code 0x15 (R407). -/
def execCijaddPN (p : BitVec 2) (d s1 s2 : BitVec 8) (s : State) : Res :=
  addPair p d s1 s2 .add1 (elIadd false true) (elIadd false false) s

/-- CIJADD D -S1 -S2, code 0x16 (R408). -/
def execCijaddNN (p : BitVec 2) (d s1 s2 : BitVec 8) (s : State) : Res :=
  addPair p d s1 s2 .add1 (elIadd true true) (elIadd true false) s

/-- CIJADD D -S1 S2, code 0x17 (R409). -/
def execCijaddNP (p : BitVec 2) (d s1 s2 : BitVec 8) (s : State) : Res :=
  addPair p d s1 s2 .add1 (elIadd true false) (elIadd true true) s

/-- CIJJADD D S1 S2, code 0x18 (R410). -/
def execCijjaddPP (p : BitVec 2) (d s1 s2 : BitVec 8) (s : State) : Res :=
  addPair p d s1 s2 .add1 (elIadd false false) (elIadd true true) s

/-- CIJJADD D S1 -S2, code 0x19 (R411). -/
def execCijjaddPN (p : BitVec 2) (d s1 s2 : BitVec 8) (s : State) : Res :=
  addPair p d s1 s2 .add1 (elIadd false true) (elIadd true false) s

/-- CIJJADD D -S1 -S2, code 0x1A (R412). -/
def execCijjaddNN (p : BitVec 2) (d s1 s2 : BitVec 8) (s : State) : Res :=
  addPair p d s1 s2 .add1 (elIadd true true) (elIadd false false) s

/-- CIJJADD D -S1 S2, code 0x1B (R413). -/
def execCijjaddNP (p : BitVec 2) (d s1 s2 : BitVec 8) (s : State) : Res :=
  addPair p d s1 s2 .add1 (elIadd true false) (elIadd false true) s

/-- CIRADD D S1 S2, code 0x1C (R414). -/
def execCiraddPP (p : BitVec 2) (d s1 s2 : BitVec 8) (s : State) : Res :=
  addReal p d s1 s2 (elIadd false false) (imagIadd false) s

/-- CIRADD D S1 -S2, code 0x1D (R415). -/
def execCiraddPN (p : BitVec 2) (d s1 s2 : BitVec 8) (s : State) : Res :=
  addReal p d s1 s2 (elIadd false true) (imagIadd false) s

/-- CIRADD D -S1 -S2, code 0x1E (R416). -/
def execCiraddNN (p : BitVec 2) (d s1 s2 : BitVec 8) (s : State) : Res :=
  addReal p d s1 s2 (elIadd true true) (imagIadd true) s

/-- CIRADD D -S1 S2, code 0x1F (R417). -/
def execCiraddNP (p : BitVec 2) (d s1 s2 : BitVec 8) (s : State) : Res :=
  addReal p d s1 s2 (elIadd true false) (imagIadd true) s

/-- VFABSADD D S1 S2, code 0x20 (R418). -/
def execVfabsaddPP (p : BitVec 2) (d s1 s2 : BitVec 8) (s : State) : Res :=
  addPair p d s1 s2 .add1 (elFabsadd false false) (elFabsadd false false) s

/-- VFABSADD D S1 -S2, code 0x21 (R419). -/
def execVfabsaddPN (p : BitVec 2) (d s1 s2 : BitVec 8) (s : State) : Res :=
  addPair p d s1 s2 .add1 (elFabsadd false true) (elFabsadd false true) s

/-- VFABSADD D -S1 -S2, code 0x22 (R420). -/
def execVfabsaddNN (p : BitVec 2) (d s1 s2 : BitVec 8) (s : State) : Res :=
  addPair p d s1 s2 .add1 (elFabsadd true true) (elFabsadd true true) s

/-- VFABSADD D -S1 S2, code 0x23 (R421). -/
def execVfabsaddNP (p : BitVec 2) (d s1 s2 : BitVec 8) (s : State) : Res :=
  addPair p d s1 s2 .add1 (elFabsadd true false) (elFabsadd true false) s

/-- VIABSADD D S1 S2, code 0x24 (R422). -/
def execViabsaddPP (p : BitVec 2) (d s1 s2 : BitVec 8) (s : State) : Res :=
  addPair p d s1 s2 .add1 (elIabsadd false false) (elIabsadd false false) s

/-- VIABSADD D S1 -S2, code 0x25 (R423). -/
def execViabsaddPN (p : BitVec 2) (d s1 s2 : BitVec 8) (s : State) : Res :=
  addPair p d s1 s2 .add1 (elIabsadd false true) (elIabsadd false true) s

/-- VIABSADD D -S1 -S2, code 0x26 (R424). -/
def execViabsaddNN (p : BitVec 2) (d s1 s2 : BitVec 8) (s : State) : Res :=
  addPair p d s1 s2 .add1 (elIabsadd true true) (elIabsadd true true) s

/-- VIABSADD D -S1 S2, code 0x27 (R425). -/
def execViabsaddNP (p : BitVec 2) (d s1 s2 : BitVec 8) (s : State) : Res :=
  addPair p d s1 s2 .add1 (elIabsadd true false) (elIabsadd true false) s

/-- VFADDSUB D1D2 S1 S2, code 0x28 (R426). -/
def execVfaddsub (p : BitVec 2) (d1 d2 s1 s2 : BitVec 8) (s : State) : Res :=
  addPair2 p d1 d2 s1 s2 .add1 .sub (elFadd false false)
    (elFadd false false) (elFadd false true) (elFadd false true) s

/-- FADD D S1 S2, code 0x29 (R427). -/
def execFaddPP (p : BitVec 2) (d s1 s2 : BitVec 8) (s : State) : Res :=
  addScalar p d s1 s2 .add1 (elFadd false false) s

/-- FADD D S1 -S2, code 0x2A (R428). -/
def execFaddPN (p : BitVec 2) (d s1 s2 : BitVec 8) (s : State) : Res :=
  addScalar p d s1 s2 .add1 (elFadd false true) s

/-- FADD D -S1 -S2, code 0x2B (R429). -/
def execFaddNN (p : BitVec 2) (d s1 s2 : BitVec 8) (s : State) : Res :=
  addScalar p d s1 s2 .add1 (elFadd true true) s

/-- FADD D -S1 S2, code 0x2C (R430). -/
def execFaddNP (p : BitVec 2) (d s1 s2 : BitVec 8) (s : State) : Res :=
  addScalar p d s1 s2 .add1 (elFadd true false) s

/-- FADDSUB D1D2 S1 S2, code 0x2D (R431). -/
def execFaddsub (p : BitVec 2) (d1 d2 s1 s2 : BitVec 8) (s : State) : Res :=
  addScalar2 p d1 d2 s1 s2 .add1 .sub (elFadd false false) (elFadd false true) s

/-- IADD D S1 S2, code 0x2E (R432). -/
def execIaddPP (p : BitVec 2) (d s1 s2 : BitVec 8) (s : State) : Res :=
  addScalar p d s1 s2 .add1 (elIadd false false) s

/-- IADD D S1 -S2, code 0x2F (R433). -/
def execIaddPN (p : BitVec 2) (d s1 s2 : BitVec 8) (s : State) : Res :=
  addScalar p d s1 s2 .add1 (elIadd false true) s

/-- IADD D -S1 -S2, code 0x30 (R434). -/
def execIaddNN (p : BitVec 2) (d s1 s2 : BitVec 8) (s : State) : Res :=
  addScalar p d s1 s2 .add1 (elIadd true true) s

/-- IADD D -S1 S2, code 0x31 (R435). -/
def execIaddNP (p : BitVec 2) (d s1 s2 : BitVec 8) (s : State) : Res :=
  addScalar p d s1 s2 .add1 (elIadd true false) s

/-- IADDSUB D1D2 S1 S2, code 0x32 (R436). -/
def execIaddsub (p : BitVec 2) (d1 d2 s1 s2 : BitVec 8) (s : State) : Res :=
  addScalar2 p d1 d2 s1 s2 .add1 .sub (elIadd false false) (elIadd false true) s

/-- FABSADD D S1 S2, code 0x33 (R437). -/
def execFabsaddPP (p : BitVec 2) (d s1 s2 : BitVec 8) (s : State) : Res :=
  addScalar p d s1 s2 .add1 (elFabsadd false false) s

/-- FABSADD D S1 -S2, code 0x34 (R438). -/
def execFabsaddPN (p : BitVec 2) (d s1 s2 : BitVec 8) (s : State) : Res :=
  addScalar p d s1 s2 .add1 (elFabsadd false true) s

/-- FABSADD D -S1 -S2, code 0x35 (R439). -/
def execFabsaddNN (p : BitVec 2) (d s1 s2 : BitVec 8) (s : State) : Res :=
  addScalar p d s1 s2 .add1 (elFabsadd true true) s

/-- FABSADD D -S1 S2, code 0x36 (R440). -/
def execFabsaddNP (p : BitVec 2) (d s1 s2 : BitVec 8) (s : State) : Res :=
  addScalar p d s1 s2 .add1 (elFabsadd true false) s

/-- IABSADD D S1 S2, code 0x37 (R441). -/
def execIabsaddPP (p : BitVec 2) (d s1 s2 : BitVec 8) (s : State) : Res :=
  addScalar p d s1 s2 .add1 (elIabsadd false false) s

/-- IABSADD D S1 -S2, code 0x38 (R442). -/
def execIabsaddPN (p : BitVec 2) (d s1 s2 : BitVec 8) (s : State) : Res :=
  addScalar p d s1 s2 .add1 (elIabsadd false true) s

/-- IABSADD D -S1 -S2, code 0x39 (R443). -/
def execIabsaddNN (p : BitVec 2) (d s1 s2 : BitVec 8) (s : State) : Res :=
  addScalar p d s1 s2 .add1 (elIabsadd true true) s

/-- IABSADD D -S1 S2, code 0x3A (R444). -/
def execIabsaddNP (p : BitVec 2) (d s1 s2 : BitVec 8) (s : State) : Res :=
  addScalar p d s1 s2 .add1 (elIabsadd true false) s

/-- VIADDSUB D1D2 S1 S2, code 0x7D (R461). -/
def execViaddsub (p : BitVec 2) (d1 d2 s1 s2 : BitVec 8) (s : State) : Res :=
  addPair2 p d1 d2 s1 s2 .add1 .sub (elIadd false false)
    (elIadd false false) (elIadd false true) (elIadd false true) s

end Sys2Proof.Machine
end

