-- ==== Sys2Proof/Machine/AddCompare.lean ====
section
/-! DEFINITION. Meanings. ADD issue: compares (spec 41 R468 to R497). -/

namespace Sys2Proof.Machine

/-- CFEQ S1 S2, code 0x61 (R470). -/
def execCfeq (p : BitVec 2) (s1 s2 : BitVec 8) (s : State) : Res :=
  complexCompare p s1 s2 (relF .eq) (fun x y => x && y) s

/-- CFNE S1 S2, code 0x62 (R471). -/
def execCfne (p : BitVec 2) (s1 s2 : BitVec 8) (s : State) : Res :=
  complexCompare p s1 s2 (relF .ne) (fun x y => x || y) s

/-- VFEQ S1 S2, code 0x63 (R472). -/
def execVfeq (p : BitVec 2) (s1 s2 : BitVec 8) (s : State) : Res :=
  vectorCompare p s1 s2 (relF .eq) s

/-- VFLT S1 S2, code 0x64 (R473). -/
def execVflt (p : BitVec 2) (s1 s2 : BitVec 8) (s : State) : Res :=
  vectorCompare p s1 s2 (relF .lt) s

/-- VFGT S1 S2, code 0x65 (R474). -/
def execVfgt (p : BitVec 2) (s1 s2 : BitVec 8) (s : State) : Res :=
  vectorCompare p s1 s2 (relF .gt) s

/-- VFLE S1 S2, code 0x66 (R475). -/
def execVfle (p : BitVec 2) (s1 s2 : BitVec 8) (s : State) : Res :=
  vectorCompare p s1 s2 (relF .le) s

/-- VFGE S1 S2, code 0x67 (R476). -/
def execVfge (p : BitVec 2) (s1 s2 : BitVec 8) (s : State) : Res :=
  vectorCompare p s1 s2 (relF .ge) s

/-- VFNE S1 S2, code 0x68 (R477). -/
def execVfne (p : BitVec 2) (s1 s2 : BitVec 8) (s : State) : Res :=
  vectorCompare p s1 s2 (relF .ne) s

/-- VIEQ S1 S2, code 0x69 (R478). -/
def execVieq (p : BitVec 2) (s1 s2 : BitVec 8) (s : State) : Res :=
  vectorCompare p s1 s2 (relI .eq) s

/-- VILT S1 S2, code 0x6A (R479). -/
def execVilt (p : BitVec 2) (s1 s2 : BitVec 8) (s : State) : Res :=
  vectorCompare p s1 s2 (relI .lt) s

/-- VIGT S1 S2, code 0x6B (R480). -/
def execVigt (p : BitVec 2) (s1 s2 : BitVec 8) (s : State) : Res :=
  vectorCompare p s1 s2 (relI .gt) s

/-- VILE S1 S2, code 0x6C (R481). -/
def execVile (p : BitVec 2) (s1 s2 : BitVec 8) (s : State) : Res :=
  vectorCompare p s1 s2 (relI .le) s

/-- VIGE S1 S2, code 0x6D (R482). -/
def execVige (p : BitVec 2) (s1 s2 : BitVec 8) (s : State) : Res :=
  vectorCompare p s1 s2 (relI .ge) s

/-- VINE S1 S2, code 0x6E (R483). -/
def execVine (p : BitVec 2) (s1 s2 : BitVec 8) (s : State) : Res :=
  vectorCompare p s1 s2 (relI .ne) s

/-- FEQ S1 S2, code 0x6F (R484). -/
def execFeq (p : BitVec 2) (s1 s2 : BitVec 8) (s : State) : Res :=
  singleCompare p s1 s2 (relF .eq) s

/-- FLT S1 S2, code 0x70 (R485). -/
def execFlt (p : BitVec 2) (s1 s2 : BitVec 8) (s : State) : Res :=
  singleCompare p s1 s2 (relF .lt) s

/-- FGT S1 S2, code 0x71 (R486). -/
def execFgt (p : BitVec 2) (s1 s2 : BitVec 8) (s : State) : Res :=
  singleCompare p s1 s2 (relF .gt) s

/-- FLE S1 S2, code 0x72 (R487). -/
def execFle (p : BitVec 2) (s1 s2 : BitVec 8) (s : State) : Res :=
  singleCompare p s1 s2 (relF .le) s

/-- FGE S1 S2, code 0x73 (R488). -/
def execFge (p : BitVec 2) (s1 s2 : BitVec 8) (s : State) : Res :=
  singleCompare p s1 s2 (relF .ge) s

/-- FNE S1 S2, code 0x74 (R489). -/
def execFne (p : BitVec 2) (s1 s2 : BitVec 8) (s : State) : Res :=
  singleCompare p s1 s2 (relF .ne) s

/-- IEQ S1 S2, code 0x75 (R490). -/
def execIeq (p : BitVec 2) (s1 s2 : BitVec 8) (s : State) : Res :=
  singleCompare p s1 s2 (relI .eq) s

/-- ILT S1 S2, code 0x76 (R491). -/
def execIlt (p : BitVec 2) (s1 s2 : BitVec 8) (s : State) : Res :=
  singleCompare p s1 s2 (relI .lt) s

/-- IGT S1 S2, code 0x77 (R492). -/
def execIgt (p : BitVec 2) (s1 s2 : BitVec 8) (s : State) : Res :=
  singleCompare p s1 s2 (relI .gt) s

/-- ILE S1 S2, code 0x78 (R493). -/
def execIle (p : BitVec 2) (s1 s2 : BitVec 8) (s : State) : Res :=
  singleCompare p s1 s2 (relI .le) s

/-- IGE S1 S2, code 0x79 (R494). -/
def execIge (p : BitVec 2) (s1 s2 : BitVec 8) (s : State) : Res :=
  singleCompare p s1 s2 (relI .ge) s

/-- INE S1 S2, code 0x7A (R495). -/
def execIne (p : BitVec 2) (s1 s2 : BitVec 8) (s : State) : Res :=
  singleCompare p s1 s2 (relI .ne) s

/-- CIEQ S1 S2, code 0x7B (R496). -/
def execCieq (p : BitVec 2) (s1 s2 : BitVec 8) (s : State) : Res :=
  complexCompare p s1 s2 (relI .eq) (fun x y => x && y) s

/-- CINE S1 S2, code 0x7C (R497). -/
def execCine (p : BitVec 2) (s1 s2 : BitVec 8) (s : State) : Res :=
  complexCompare p s1 s2 (relI .ne) (fun x y => x || y) s

end Sys2Proof.Machine
end

