-- ==== Sys2Proof/Machine/AddSelect.lean ====
section
/-! DEFINITION. Meanings. ADD issue: minimum, maximum, selection, swap, NOP (spec 41). -/

namespace Sys2Proof.Machine

/-- VFMIN D S1 S2, code 0x3B (R445). -/
def execVfmin (p : BitVec 2) (d s1 s2 : BitVec 8) (s : State) : Res :=
  addPair p d s1 s2 .minmax elFmin elFmin s

/-- VIMIN D S1 S2, code 0x3C (R446). -/
def execVimin (p : BitVec 2) (d s1 s2 : BitVec 8) (s : State) : Res :=
  addPair p d s1 s2 .minmax elImin elImin s

/-- VFMAX D S1 S2, code 0x3D (R447). -/
def execVfmax (p : BitVec 2) (d s1 s2 : BitVec 8) (s : State) : Res :=
  addPair p d s1 s2 .minmax elFmax elFmax s

/-- VIMAX D S1 S2, code 0x3E (R448). -/
def execVimax (p : BitVec 2) (d s1 s2 : BitVec 8) (s : State) : Res :=
  addPair p d s1 s2 .minmax elImax elImax s

/-- VFMINMAX D1D2 S1 S2, code 0x3F (R449). -/
def execVfminmax (p : BitVec 2) (d1 d2 s1 s2 : BitVec 8) (s : State) : Res :=
  addPair2 p d1 d2 s1 s2 .minmax .minmax elFmin elFmin elFmax elFmax s

/-- VIMINMAX D1D2 S1 S2, code 0x40 (R450). -/
def execViminmax (p : BitVec 2) (d1 d2 s1 s2 : BitVec 8) (s : State) : Res :=
  addPair2 p d1 d2 s1 s2 .minmax .minmax elImin elImin elImax elImax s

/-- VSWAP S1 S2, code 0x41 (R451). -/
def execVswap (p : BitVec 2) (d1 d2 s1 s2 : BitVec 8) (s : State) : Res :=
  addPair2 p d1 d2 s1 s2 .minmax .minmax (elSwap false) (elSwap true) (elSel false) (elSel true) s

/-- FMIN D S1 S2, code 0x42 (R452). -/
def execFmin (p : BitVec 2) (d s1 s2 : BitVec 8) (s : State) : Res :=
  addScalar p d s1 s2 .minmax elFmin s

/-- IMIN D S1 S2, code 0x43 (R453). -/
def execImin (p : BitVec 2) (d s1 s2 : BitVec 8) (s : State) : Res :=
  addScalar p d s1 s2 .minmax elImin s

/-- FMAX D S1 S2, code 0x44 (R454). -/
def execFmax (p : BitVec 2) (d s1 s2 : BitVec 8) (s : State) : Res :=
  addScalar p d s1 s2 .minmax elFmax s

/-- IMAX D S1 S2, code 0x45 (R455). -/
def execImax (p : BitVec 2) (d s1 s2 : BitVec 8) (s : State) : Res :=
  addScalar p d s1 s2 .minmax elImax s

/-- FMINMAX D1D2 S1 S2, code 0x46 (R456). -/
def execFminmax (p : BitVec 2) (d1 d2 s1 s2 : BitVec 8) (s : State) : Res :=
  addScalar2 p d1 d2 s1 s2 .minmax .minmax elFmin elFmax s

/-- IMINMAX D1D2 S1 S2, code 0x47 (R457). -/
def execIminmax (p : BitVec 2) (d1 d2 s1 s2 : BitVec 8) (s : State) : Res :=
  addScalar2 p d1 d2 s1 s2 .minmax .minmax elImin elImax s

/-- FSEL D S1 S2, code 0x48 (R458). -/
def execFsel (p : BitVec 2) (d s1 s2 : BitVec 8) (s : State) : Res :=
  addScalar p d s1 s2 .minmax (elSel false) s

/-- ISEL D S1 S2, code 0x49 (R459). -/
def execIsel (p : BitVec 2) (d s1 s2 : BitVec 8) (s : State) : Res :=
  addScalar p d s1 s2 .minmax elIsel s

/-- SWAP S1 S2, code 0x5A (R460). -/
def execSwap (p : BitVec 2) (d1 d2 s1 s2 : BitVec 8) (s : State) : Res :=
  addScalar2 p d1 d2 s1 s2 .minmax .minmax (elSwap false) (elSel false) s

/-- NOP, code 0x7F (R462). -/
def execAddNop (_p : BitVec 2) (s : State) : Res :=
  .next s

end Sys2Proof.Machine
end

