-- ==== Sys2Proof/Machine/Land.lean ====
section
/-! DEFINITION. Step 1 of a core step (spec 40 R330): the pending writes that are due land together (R336, R337)
and the memory port accesses that are due are performed together (R338, spec 20 R160 to R163, R188, R189). -/

namespace Sys2Proof.Machine

/-! ## Pending writes -/

/-- The register classes a movement can go to (R812). -/
inductive MoveClass where
  | flow | arf | dma
  deriving DecidableEq, Repr

def moveClass (a : BitVec 7) : MoveClass :=
  if 0x14 ≤ a.toNat && a.toNat < 0x64 then .arf
  else if 0x64 ≤ a.toNat && a.toNat < 0x70 then .dma
  else .flow

/-- The class of the movement an effect is; none when it is not a movement. -/
def Effect.moveClass : Effect → Option MoveClass
  | .move a _ _ => some (Machine.moveClass a)
  | .moveArf _ _ _ => some .arf
  | _ => none

def Effect.onPort (p : RfPort) : Effect → Bool
  | .rf q _ => q == p
  | _ => false

/-- The Register File writes of an effect. -/
def Effect.rfWrites : Effect → List (BitVec 8 × Word40)
  | .rf _ w => w
  | _ => []

/-- Some register is given two different values (U1). DESIGN CHOICE (log 14). -/
def rfClash : List (BitVec 8 × Word40) → Bool
  | [] => false
  | w :: t => t.any (fun x => x.1 == w.1 && x.2 != w.2) || rfClash t

/-- The A field of ARF register k is written by this movement. -/
def Effect.movesA (k : BitVec 4) : Effect → Bool
  | .move a _ _ => a.toNat == 0x14 + k.toNat || a.toNat == 0x34 + k.toNat
  | .moveArf j _ _ => j == k
  | _ => false

/-- Two writers of one A field land together (U19). -/
def arfClash (es : List Effect) : Bool :=
  es.any (fun e =>
    match e with
    | .aguA u k _ =>
      es.any (fun f => f.movesA k || match f with
        | .aguA v j _ => j == k && v != u
        | _ => false)
    | _ => false)

/-- One status flag word lands in a sticky register and is collected into MGCEXCEPTION (R640, R642). -/
def landSticky (path : Bool) (f : BitVec 32) (s : State) : State :=
  let s1 := s.setRegs (if path then { s.regs with sticky1 := s.regs.sticky1 ||| f }
    else { s.regs with sticky0 := s.regs.sticky0 ||| f })
  let s2 := raiseIf ((f &&& 0xC8421088) != 0) .badin s1
  let s3 := raiseIf ((f &&& 0x22210844) != 0) .badout s2
  raiseIf (f.getLsbD 26) .divzero s3

/-- An effect that is no movement. -/
def landEffect (e : Effect) (s : State) : State :=
  match e with
  | .rf _ w => w.foldl (fun s x => s.setRf x.1 x.2) s
  | .aguA _ k v => s.setArf k { s.arfAt k with a := v }
  | .aguTmp .agu0 v => { s with tmp0 := v }
  | .aguTmp .agu1 v => { s with tmp1 := v }
  | .cond mask val => s.setCond mask val
  | .sticky path f => landSticky path f s
  | .stkiq v => s.setRegs { s.regs with stkiq := v }
  | .pred mask val => s.setPred mask val
  | .stk v => s.setRegs { s.regs with stk := v }
  | .rept v => s.setRegs { s.regs with rept := v }
  | .swpipe on k v =>
    { s with
      regs := { s.regs with looplen := v, loopcnt := v }
      mode := { s.mode with softpipe := on, maxstage := if on then k else s.mode.maxstage } }
  | .move _ _ _ => s
  | .moveArf _ _ _ => s

/-- A movement lands (R812). What one of latency 1 writes to an interrupt register this core step's service point does not see
yet (R1082). -/
def landMove (e : Effect) (s : State) : Res :=
  match e with
  | .move a v soon =>
    andThen (firstWrite .core a (v.setWidth 32) s) fun t => .next (if soon then t.holdSight a s.sight else t)
  | .moveArf k v0 v1 => .next (arfWritePair k v0 v1 s)
  | _ => .next s

/-- Some movement in `ms` goes to first-bank address `a`. -/
def movesTo (ms : List Effect) (a : BitVec 7) : Bool :=
  ms.any (fun e => match e with
    | .move b _ _ => b == a
    | _ => false)

/-- Where a movement and an operation write the same bits in one cycle the spec orders them nowhere: each such
register part becomes a free value (log 12). -/
def scramble (es ms : List Effect) (s : State) : State :=
  let condMask := es.foldl (fun m e => match e with
    | .cond k _ => m ||| k
    | _ => m) (if movesTo ms 0x6F then bitAt 16 10 else 0)
  let predMask := es.foldl (fun m e => match e with
    | .pred k _ => m ||| k
    | _ => m) (0 : BitVec 16)
  let hit := fun (p : Effect → Bool) => es.any p
  let s1 := if movesTo ms 0x6 && condMask != 0 then (s.setCond condMask (s.draw.setWidth 16)).drawn else s
  let s2 := if movesTo ms 0xB && predMask != 0 then (s1.setPred predMask (s1.draw.setWidth 16)).drawn else s1
  let s3 := if movesTo ms 0x9 && hit (fun e => match e with | .stk _ => true | _ => false)
    then (s2.setRegs { s2.regs with stk := s2.draw.setWidth 16 }).drawn else s2
  let s4 := if movesTo ms 0x7 && hit (fun e => match e with | .rept _ => true | _ => false)
    then (s3.setRegs { s3.regs with rept := s3.draw.setWidth 32 }).drawn else s3
  let sw := hit (fun e => match e with | .swpipe _ _ _ => true | _ => false)
  let s5 := if (movesTo ms 0xF || movesTo ms 0x10) && sw
    then (s4.setRegs { s4.regs with loopcnt := s4.draw.setWidth 32 }).drawn else s4
  if movesTo ms 0x10 && sw then (s5.setRegs { s5.regs with looplen := s5.draw.setWidth 32 }).drawn else s5

/-- The effects of class c when at most one lands; else none, and the exception (R337). -/
def oneOf (p : Effect → Bool) (e : Exc) (es : List Effect) (s : State) : List Effect × State :=
  if 2 ≤ (es.filter p).length then (es.filter (fun x => !p x), raise e s) else (es, s)

/-- All effects that land in this cycle (R337). What one of the five exceptions drops is gone before the checks of what still lands:
the RF ports' U1, the A fields' U19 (two ARF movements raise writearf and an AGU result for the same A field lands), and R852 with
U21 for a movement toward MGCSTKIQ beside a stack operation. DESIGN CHOICE (log 13). -/
def landEffects (es : List Effect) (s : State) : Res :=
  let (e1, s1) := oneOf (Effect.onPort .p7) .writerf7 es s
  let (e2, s2) := oneOf (Effect.onPort .p5) .writerf5 e1 s1
  let (e3, s3) := oneOf (fun e => e.moveClass == some .arf) .writearf e2 s2
  let (e4, s4) := oneOf (fun e => e.moveClass == some .flow) .writeflow e3 s3
  let (e5, s5) := oneOf (fun e => e.moveClass == some .dma) .writedma e4 s4
  let ops := e5.filter (fun e => e.moveClass.isNone)
  let moves := e5.filter (fun e => e.moveClass.isSome)
  if rfClash (ops.flatMap Effect.rfWrites) then .fault .rfDoubleWrite
  else if arfClash e5 then .refused .arfFieldTwice
  else if movesTo moves 0x70 && ops.any (fun e => match e with | .stkiq _ => true | _ => false) then
    .refused .moveStkiq
  else
    let s6 := ops.foldl (fun s e => landEffect e s) s5
    let byClass := fun c => moves.filter (fun e => e.moveClass == some c)
    andThen (runAll ((byClass .arf ++ byClass .dma).map landMove) s6) fun s7 =>
    andThen (runAll ((byClass .flow).map landMove) s7) fun s8 =>
    .next (if s8.resetNow then s8 else scramble ops moves s8)

/-! ## Memory ports -/

/-- The word a slave access writes, by the three data memory regions (R170, R173 to R175): view, word, part. -/
def slaveDm (addr : BitVec 32) : Option (DmView × Nat × Nat) :=
  let n := addr.toNat
  if 0x620000 ≤ n && n < 0x630000 then some (.int, (n - 0x620000) / 4, 0)
  else if 0x640000 ≤ n && n < 0x650000 then some (.float, (n - 0x640000) / 4, 0)
  else if 0x660000 ≤ n && n < 0x680000 then some (.full, (n - 0x660000) / 8, (n - 0x660000) / 4 % 2)
  else none

/-- A slave transfer the port accepts: 32 bits wide and aligned (R178). -/
def SlaveAccess.legal (x : SlaveAccess) : Bool := x.word && x.addr.setWidth 2 == (0 : BitVec 2)

/-- What P0B reads at word a: a slave write to that word in this cycle is seen (R188 case 5). -/
def p0bRead (s : State) (a : Nat) : Word40 :=
  match s.inp.slave with
  | some x =>
    match x.wdata, slaveDm x.addr with
    | some v, some (w, b, part) =>
      if x.legal && b == a then viewMerge w part (s.mem.dm a) v else s.mem.dm a
    | _, _ => s.mem.dm a
  | none => s.mem.dm a

/-- The data of a read by unit u. -/
def portRead (u : AguUnit) (s : State) (a : Nat) : Word40 :=
  match u with
  | .agu0 => p0bRead s a
  | .agu1 => s.mem.dm a

def portOf : AguUnit → MemPort
  | .agu0 => .p0b
  | .agu1 => .p1b

/-- The words an access reads, and the words it writes with their data. -/
def PortOp.reads : PortOp → List Nat
  | .read a vec _ => if vec then [a.toNat, a.toNat + 1] else [a.toNat]
  | .write _ _ _ => []

def PortOp.writes : PortOp → List (Nat × Word40)
  | .read _ _ _ => []
  | .write a e0 e1 =>
    (match e0 with | some v => [(a.toNat, v)] | none => []) ++
      (match e1 with | some v => [(a.toNat + 1, v)] | none => [])

/-- The pending write that delivers a read's data (R160, R338): two core steps after the port cycle. -/
def readEffect (d : ReadDest) (v0 v1 : Word40) : Effect :=
  match d with
  | .rf p n c0 c1 => .rf p ((if c0 then [(n, v0)] else []) ++ (if c1 then [(n + 1, v1)] else []))
  | .first a => .move a v0 false
  | .arf k => .moveArf k v0 v1

/-- Perform one access. A read with no enabled element still uses its port (R340 gives the access to G), a store of none does
not (R344). DESIGN CHOICE (log 34). -/
def doPort (u : AguUnit) (o : PortOp) (s : State) : State :=
  match o with
  | .read a vec d =>
    let n := a.toNat
    let v0 := portRead u s n
    let v1 := portRead u s (n + 1)
    let s1 := dmLoad (portOf u) n s
    let s2 := if vec then dmLoad (portOf u) (n + 1) s1 else s1
    match d with
    | .rf _ _ false false => s2
    | _ => s2.later 2 (readEffect d v0 v1)
  | .write _ _ _ => o.writes.foldl (fun s w => dmStore (portOf u) w.1 w.2 s) s

/-- The exception of a read that meets a delayed write on its port (R162). -/
def rwExc : AguUnit → Exc
  | .agu0 => .rwagu0
  | .agu1 => .rwagu1

/-- The accesses of unit u that are due (R687): refused with two writes (U10, R163), dropped with rwaguU for a read with a write
(R162). Two writes and a read are refused and raise no rwaguU. DESIGN CHOICE (log 45). -/
def unitPort (u : AguUnit) (due : List PortEntry) (s : State) : Except Refusal (Option PortOp × State) :=
  let mine := (due.filter (fun e => e.unit == u)).map PortEntry.op
  let ws := mine.filter (fun o => o.reads.isEmpty)
  let rs := mine.filter (fun o => !o.reads.isEmpty)
  if 2 ≤ ws.length then .error .twoPortWrites
  else if !ws.isEmpty && !rs.isEmpty then .ok (none, raise (rwExc u) s)
  else .ok (mine.head?, s)

/-- Remove from the P1B write the words the P0B write also has (R188 case 2). -/
def dropWords (ws : List Nat) : PortOp → PortOp
  | .write a e0 e1 =>
    .write a (if ws.contains a.toNat then none else e0) (if ws.contains (a.toNat + 1) then none else e1)
  | o => o

/-- The failed part of a P1B write is still an access of P1B to its words (R189). -/
def failWrites (ws : List Nat) (o : PortOp) (s : State) : State :=
  { s with acc := s.acc ++ (o.writes.filter (fun w => ws.contains w.1)).map (fun w => ⟨.p1b, w.1, true, s.mem.dm w.1⟩) }

/-- Both core ports in one cycle (R188 case 2, R189). -/
def doPorts (o0 o1 : Option PortOp) (s : State) : Res :=
  match o0, o1 with
  | none, none => .next s
  | some a, none => .next (doPort .agu0 a s)
  | none, some b => .next (doPort .agu1 b s)
  | some a, some b =>
    let wa := a.writes.map Prod.fst
    let wb := b.writes.map Prod.fst
    if wa.any (fun x => b.reads.contains x) || wb.any (fun x => a.reads.contains x) then .fault .sameWordAccess
    else if wa.any (fun x => wb.contains x) then
      .next (doPort .agu1 (dropWords wa b) (failWrites wa b (doPort .agu0 a (raise .dblwrite s))))
    else .next (doPort .agu1 b (doPort .agu0 a s))

def landPorts (due : List PortEntry) (s : State) : Res :=
  match unitPort .agu0 due s with
  | .error r => .refused r
  | .ok (o0, s1) =>
    match unitPort .agu1 due s1 with
    | .error r => .refused r
    | .ok (o1, s2) => doPorts o0 o1 s2

/-! ## The landing step -/

/-- Step 1 of R330: what is due lands, the register writes before the memory ports, the rest comes one core step nearer.
DESIGN CHOICE (log 13). -/
def land (s : State) : Res :=
  let due := (s.pend.filter (fun p => p.delay ≤ 1)).map Pend.eff
  let duePorts := s.ports.filter (fun p => p.delay ≤ 1)
  let s1 := { s with
    pend := (s.pend.filter (fun p => 1 < p.delay)).map (fun p => { p with delay := p.delay - 1 })
    ports := (s.ports.filter (fun p => 1 < p.delay)).map (fun p => { p with delay := p.delay - 1 }) }
  andThen (landEffects due s1) fun s2 =>
  if s2.resetNow then .next s2 else landPorts duePorts s2

end Sys2Proof.Machine
end

