-- ==== Sys2Proof/Machine/AguOps.lean ====
section
/-! DEFINITION. Operations shared by the AGU meanings: operands (spec 44 R670), circular update (R676), the sixteen
modes (R690), address exceptions (R680), the data side of an access (R682 to R686), and 16-bit arithmetic (spec 45). -/

namespace Sys2Proof.Machine

/-- The operands of an AGU operation (R670). -/
structure AguIn where
  s : BitVec 16
  l : BitVec 16
  a : BitVec 16
  m : BitVec 16
  t : BitVec 16
  ay : BitVec 16
  my : BitVec 16
  imm : BitVec 16
  deriving DecidableEq, Repr

def AguUnit.isOne : AguUnit → Bool
  | .agu0 => false
  | .agu1 => true

def aguIssue : AguUnit → Issue
  | .agu0 => .agu0
  | .agu1 => .agu1

/-- y and imm16 of the executing word come from AGU_EXT_DECODE (R262). -/
def aguIn (s : State) (u : AguUnit) (x : BitVec 4) : AguIn :=
  let r := s.arfAt x
  let ext := Config.aguExt s.vliw u.isOne
  let y := s.arfAt ext.1
  { s := r.s, l := r.l, a := r.a, m := r.m, t := s.tmpAt u, ay := y.a, my := y.m, imm := ext.2 }

/-! ## Addressing (spec 44) -/

/-- circ(S, A, L, d) (R676): the new value, and the boundary flag unless L = 0. -/
def circ (s a l : BitVec 16) (d : Int) : BitVec 16 × Option Bool :=
  let e : Int := a.toNat + d
  let si : Int := s.toNat
  let li : Int := l.toNat
  if l = 0 then (BitVec.ofInt 16 e, none)
  else
    let r := if 0 ≤ d then (if e - si < li then e else e - li) else (if si ≤ e then e else e + li)
    (BitVec.ofInt 16 r, some (decide (si + li ≤ e) || decide (e < si)))

/-- The sixteen addressing modes (R690). -/
inductive AguMode where
  | dir | postinc | postdec | preinc | predec | postinc2 | postdec2 | preinc2
  | index | base2immu | baseimmu | baseimm | abs | absld | tmp | basetmp
  deriving DecidableEq, Repr

/-- What a mode generates: the address, the new Ax, the boundary flag. -/
structure AguAddress where
  addr : BitVec 16
  newA : Option (BitVec 16)
  bnd : Option Bool
  deriving DecidableEq, Repr

/-- A row of Table 3-24 (R690). -/
def aguAddress (mode : AguMode) (i : AguIn) : AguAddress :=
  let inc := circ i.s i.a i.l i.m.toInt
  let dec := circ i.s i.a i.l (-i.m.toInt)
  let inc2 := circ i.s i.a i.l i.my.toInt
  let dec2 := circ i.s i.a i.l (-i.my.toInt)
  match mode with
  | .dir => ⟨i.a, none, none⟩
  | .postinc => ⟨i.a, some inc.1, inc.2⟩
  | .postdec => ⟨i.a, some dec.1, dec.2⟩
  | .preinc => ⟨inc.1, some inc.1, inc.2⟩
  | .predec => ⟨dec.1, some dec.1, dec.2⟩
  | .postinc2 => ⟨i.a, some inc2.1, inc2.2⟩
  | .postdec2 => ⟨i.a, some dec2.1, dec2.2⟩
  | .preinc2 => ⟨inc2.1, some inc2.1, inc2.2⟩
  | .index => ⟨inc.1, none, inc.2⟩
  | .base2immu => ⟨i.ay + i.imm, some (i.ay + i.imm), none⟩
  | .baseimmu => ⟨i.a + i.imm, some (i.a + i.imm), none⟩
  | .baseimm => ⟨i.a + i.imm, none, none⟩
  | .abs => ⟨i.imm, none, none⟩
  | .absld => ⟨i.imm, some i.imm, none⟩
  | .tmp => ⟨i.t, none, none⟩
  | .basetmp => ⟨i.a + i.t, none, none⟩

def ovfExc : AguUnit → Exc
  | .agu0 => .agu0ovf
  | .agu1 => .agu1ovf
def ptyExc : AguUnit → Exc
  | .agu0 => .agu0pty
  | .agu1 => .agu1pty
def aovfExc : AguUnit → Exc
  | .agu0 => .agu0aovf
  | .agu1 => .agu1aovf

/-- The address is above 0x3FFF, or odd in a vector access (R680). -/
def addrOver (a : BitVec 16) : Bool := decide (0x3FFF < a.toNat)
def addrOdd (vec : Bool) (a : BitVec 16) : Bool := vec && a.getLsbD 0

/-- The pending update of Ax and of the boundary flag (R673). -/
def addressEffects (u : AguUnit) (x : BitVec 4) (r : AguAddress) : List Pend :=
  (match r.newA with
   | some v => [⟨Config.aguResultDelay, .aguA u x v⟩]
   | none => []) ++
    (match r.bnd with
     | some _ => [⟨Config.aguResultDelay, .cond (AguFlags.mask u { bnd := r.bnd }) (AguFlags.val u { bnd := r.bnd })⟩]
     | none => [])

/-- AGU_ADDR (R690): gating by G, address, exceptions, then the updates and the data side. `scalarRf` marks a scalar
transfer whose predicate needs C0 = C1 (R341). DESIGN CHOICE (log 22). A destination field that the spec refuses is not looked at
with G = 0 or after an address exception. DESIGN CHOICE (log 46). -/
def aguAccess (u : AguUnit) (vec scalarRf : Bool) (mode : AguMode) (p : BitVec 2) (x : BitVec 4)
    (data : Gate → BitVec 16 → State → Res) (s : State) : Res :=
  let g := issueGate s (aguIssue u) p
  if !g.g then .next s
  else if scalarRf && g.c0 != g.c1 then .fault .scalarPredicate
  else
    let r := aguAddress mode (aguIn s u x)
    if addrOver r.addr || addrOdd vec r.addr then
      .next (raiseIf (addrOdd vec r.addr) (ptyExc u) (raiseIf (addrOver r.addr) (ovfExc u) s))
    else data g r.addr { s with pend := s.pend ++ addressEffects u x r }

/-- Read toward the RF register or pair n (R682, R683); with G = 1 the access takes its port even when no element is enabled.
DESIGN CHOICE (log 34). -/
def readRf (u : AguUnit) (port : RfPort) (vec : Bool) (n : BitVec 8) (g : Gate) (addr : BitVec 16) (s : State) : Res :=
  if vec && !evenPair n then .refused .oddPair
  else .next (s.port u 1 (.read addr vec (.rf port n g.c0 (vec && g.c1))))

/-- AGU0 read toward a first-bank register (R682). -/
def readFirst (vec : Bool) (a : BitVec 7) (addr : BitVec 16) (s : State) : Res :=
  if vec then
    match arfVector a with
    | some k => .next (s.port .agu0 1 (.read addr true (.arf k)))
    | none => .refused .vectorFirstBank
  else .next (s.port .agu0 1 (.read addr false (.first a)))

/-- A read through AGU0: the class of the destination is RFA7[8:7] (R682). -/
def agu0Read (vec : Bool) (mode : AguMode) (p : BitVec 2) (x : BitVec 4) (rfa7 : BitVec 9) (s : State) : Res :=
  aguAccess .agu0 vec (!vec && rfa7.getLsbD 8) mode p x
    (fun g addr s =>
      if rfa7.getLsbD 8 then readRf .agu0 .p7 vec (rfa7.setWidth 8) g addr s
      else if rfa7.getLsbD 7 then .refused .transferType
      else readFirst vec (rfa7.setWidth 7) addr s) s

/-- A read through AGU1 (R683). -/
def agu1Read (vec : Bool) (mode : AguMode) (p : BitVec 2) (x : BitVec 4) (rfa5 : BitVec 8) (s : State) : Res :=
  aguAccess .agu1 vec (!vec) mode p x (fun g addr s => readRf .agu1 .p5 vec rfa5 g addr s) s

/-- A store of an operator result (R686): each enabled element needs data of the same multiplicity (U18). -/
def storeResult (u : AguUnit) (vec : Bool) (o : Option OpOut) (g : Gate) (addr : BitVec 16) (s : State) : Res :=
  let n1 := vec && g.c1
  if !g.c0 && !n1 then .next s
  else
    match o with
    | none => .refused .storeNoProducer
    | some r =>
      if r.vec != vec || (g.c0 && r.e0.isNone) || (n1 && r.e1.isNone) then .refused .storeNoProducer
      else .next (s.port u (r.lat + 1) (.write addr (if g.c0 then r.e0 else none) (if n1 then r.e1 else none)))

/-- A store of a first-bank register (R684): the register is read in the issue cycle. C0 and C1 gate transfers of RF registers
alone, this store is enabled by G (R674, D42). DEDUCED (log 23). -/
def storeFirst (vec : Bool) (a : BitVec 7) (addr : BitVec 16) (s : State) : Res :=
  if vec then
    match arfVector a with
    | none => .refused .vectorFirstBank
    | some k => .next (s.port .agu0 1 (.write addr (some (arfPair s k).1) (some (arfPair s k).2)))
  else .next ((readMark a s).port .agu0 1 (.write addr (some ((firstRead s a).setWidth 40)) none))

/-- The transfer type of RFA7 that names a first-bank register as the source of a store (R684). -/
def fromFirstBank (rfa7 : BitVec 9) : Bool := !rfa7.getLsbD 8 && rfa7.getLsbD 7

/-- A write through AGU0 (R684, R686). -/
def agu0Write (vec : Bool) (mode : AguMode) (p : BitVec 2) (x : BitVec 4) (rfa7 : BitVec 9) (s : State) : Res :=
  aguAccess .agu0 vec (!vec && !fromFirstBank rfa7) mode p x
    (fun g addr s =>
      if fromFirstBank rfa7 then storeFirst vec (rfa7.setWidth 7) addr s
      else storeResult .agu0 vec s.mulOut g addr s) s

/-- A write through AGU1 (R686). -/
def agu1Write (vec : Bool) (mode : AguMode) (p : BitVec 2) (x : BitVec 4) (s : State) : Res :=
  aguAccess .agu1 vec (!vec) mode p x (fun g addr s => storeResult .agu1 vec s.addOut g addr s) s

/-! ## Arithmetic (spec 45) -/

/-- What an arithmetic operation delivers: Ax, TMPu, flags, and the signed overflow V (R720 to R722). -/
structure AguOut where
  a : Option (BitVec 16) := none
  t : Option (BitVec 16) := none
  flags : AguFlags := {}
  ovf : Bool := false
  deriving DecidableEq, Repr

/-- A result with the flags N and Z of a signed operation and its overflow (R721, R722). -/
def signedOut (toA : Bool) (e : Int) : AguOut :=
  let r := BitVec.ofInt 16 e
  { a := if toA then some r else none, t := if toA then none else some r,
    flags := { zero := some (r == 0), neg := some (r.getLsbD 15) }, ovf := e < -32768 || e > 32767 }

/-- An unsigned result with flag Z (R721, R722). -/
def unsignedOut (toA : Bool) (e : Int) : AguOut :=
  let r := BitVec.ofInt 16 e
  { a := if toA then some r else none, t := if toA then none else some r, flags := { zero := some (r == 0) } }

/-- The boundary flag of the conditional operations (R724). -/
def AguOut.bound (o : AguOut) (b : Bool) : AguOut := { o with flags := { o.flags with bnd := some b } }

/-- A bitwise or shift result in Ax with flags N and Z. -/
def logicOut (r : BitVec 16) : AguOut :=
  { a := some r, flags := { zero := some (r == 0), neg := some (r.getLsbD 15) } }

def copyA (v : BitVec 16) : AguOut := { a := some v }
def copyT (v : BitVec 16) : AguOut := { t := some v }
def condOut (c : Bool) : AguOut := { flags := { cond := some c } }

/-- Absolute value, 0x8000 unchanged (R725). -/
def abs16 (v : BitVec 16) : BitVec 16 := if v.getLsbD 15 then -v else v

/-- The pending writes of an arithmetic operation. -/
def arithEffects (u : AguUnit) (x : BitVec 4) (o : AguOut) : List Pend :=
  (match o.a with
   | some v => [⟨Config.aguResultDelay, .aguA u x v⟩]
   | none => []) ++
    (match o.t with
     | some v => [⟨Config.aguResultDelay, .aguTmp u v⟩]
     | none => []) ++
    (if o.flags.mask u = 0 then [] else [⟨Config.aguResultDelay, .cond (o.flags.mask u) (o.flags.val u)⟩])

/-- An arithmetic operation (R720 to R723): V raises aguUaovf, the wrapped result is written all the same. -/
def aguArith (u : AguUnit) (p : BitVec 2) (x : BitVec 4) (f : AguIn → AguOut) (s : State) : Res :=
  if !(issueGate s (aguIssue u) p).g then .next s
  else
    let o := f (aguIn s u x)
    let s1 := raiseIf o.ovf (aovfExc u) s
    .next { s1 with pend := s1.pend ++ arithEffects u x o }

def s16 (v : BitVec 16) : Int := v.toInt
def u16 (v : BitVec 16) : Int := v.toNat

end Sys2Proof.Machine
end

