-- ==== Sys2Proof/Machine/Agu0Addressing.lean ====
section
/-! DEFINITION. Meanings. AGU0 memory accesses (spec 44 R691 to R706). -/

namespace Sys2Proof.Machine

/-- agu0.DIR.rs, code 0x00 (R691). -/
def execAgu0DirRs (p : BitVec 2) (x : BitVec 4) (rfa7 : BitVec 9) (s : State) : Res :=
  agu0Read false .dir p x rfa7 s

/-- agu0.DIR.rv, code 0x10 (R691). -/
def execAgu0DirRv (p : BitVec 2) (x : BitVec 4) (rfa7 : BitVec 9) (s : State) : Res :=
  agu0Read true .dir p x rfa7 s

/-- agu0.DIR.ws, code 0x20 (R691). -/
def execAgu0DirWs (p : BitVec 2) (x : BitVec 4) (rfa7 : BitVec 9) (s : State) : Res :=
  agu0Write false .dir p x rfa7 s

/-- agu0.DIR.wv, code 0x30 (R691). -/
def execAgu0DirWv (p : BitVec 2) (x : BitVec 4) (rfa7 : BitVec 9) (s : State) : Res :=
  agu0Write true .dir p x rfa7 s

/-- agu0.POSTINC.rs, code 0x01 (R692). -/
def execAgu0PostincRs (p : BitVec 2) (x : BitVec 4) (rfa7 : BitVec 9) (s : State) : Res :=
  agu0Read false .postinc p x rfa7 s

/-- agu0.POSTINC.rv, code 0x11 (R692). -/
def execAgu0PostincRv (p : BitVec 2) (x : BitVec 4) (rfa7 : BitVec 9) (s : State) : Res :=
  agu0Read true .postinc p x rfa7 s

/-- agu0.POSTINC.ws, code 0x21 (R692). -/
def execAgu0PostincWs (p : BitVec 2) (x : BitVec 4) (rfa7 : BitVec 9) (s : State) : Res :=
  agu0Write false .postinc p x rfa7 s

/-- agu0.POSTINC.wv, code 0x31 (R692). -/
def execAgu0PostincWv (p : BitVec 2) (x : BitVec 4) (rfa7 : BitVec 9) (s : State) : Res :=
  agu0Write true .postinc p x rfa7 s

/-- agu0.POSTDEC.rs, code 0x02 (R693). -/
def execAgu0PostdecRs (p : BitVec 2) (x : BitVec 4) (rfa7 : BitVec 9) (s : State) : Res :=
  agu0Read false .postdec p x rfa7 s

/-- agu0.POSTDEC.rv, code 0x12 (R693). -/
def execAgu0PostdecRv (p : BitVec 2) (x : BitVec 4) (rfa7 : BitVec 9) (s : State) : Res :=
  agu0Read true .postdec p x rfa7 s

/-- agu0.POSTDEC.ws, code 0x22 (R693). -/
def execAgu0PostdecWs (p : BitVec 2) (x : BitVec 4) (rfa7 : BitVec 9) (s : State) : Res :=
  agu0Write false .postdec p x rfa7 s

/-- agu0.POSTDEC.wv, code 0x32 (R693). -/
def execAgu0PostdecWv (p : BitVec 2) (x : BitVec 4) (rfa7 : BitVec 9) (s : State) : Res :=
  agu0Write true .postdec p x rfa7 s

/-- agu0.PREINC.rs, code 0x03 (R694). -/
def execAgu0PreincRs (p : BitVec 2) (x : BitVec 4) (rfa7 : BitVec 9) (s : State) : Res :=
  agu0Read false .preinc p x rfa7 s

/-- agu0.PREINC.rv, code 0x13 (R694). -/
def execAgu0PreincRv (p : BitVec 2) (x : BitVec 4) (rfa7 : BitVec 9) (s : State) : Res :=
  agu0Read true .preinc p x rfa7 s

/-- agu0.PREINC.ws, code 0x23 (R694). -/
def execAgu0PreincWs (p : BitVec 2) (x : BitVec 4) (rfa7 : BitVec 9) (s : State) : Res :=
  agu0Write false .preinc p x rfa7 s

/-- agu0.PREINC.wv, code 0x33 (R694). -/
def execAgu0PreincWv (p : BitVec 2) (x : BitVec 4) (rfa7 : BitVec 9) (s : State) : Res :=
  agu0Write true .preinc p x rfa7 s

/-- agu0.PREDEC.rs, code 0x04 (R695). -/
def execAgu0PredecRs (p : BitVec 2) (x : BitVec 4) (rfa7 : BitVec 9) (s : State) : Res :=
  agu0Read false .predec p x rfa7 s

/-- agu0.PREDEC.rv, code 0x14 (R695). -/
def execAgu0PredecRv (p : BitVec 2) (x : BitVec 4) (rfa7 : BitVec 9) (s : State) : Res :=
  agu0Read true .predec p x rfa7 s

/-- agu0.PREDEC.ws, code 0x24 (R695). -/
def execAgu0PredecWs (p : BitVec 2) (x : BitVec 4) (rfa7 : BitVec 9) (s : State) : Res :=
  agu0Write false .predec p x rfa7 s

/-- agu0.PREDEC.wv, code 0x34 (R695). -/
def execAgu0PredecWv (p : BitVec 2) (x : BitVec 4) (rfa7 : BitVec 9) (s : State) : Res :=
  agu0Write true .predec p x rfa7 s

/-- agu0.POSTINC2.rs, code 0x05 (R696). -/
def execAgu0Postinc2Rs (p : BitVec 2) (x : BitVec 4) (rfa7 : BitVec 9) (s : State) : Res :=
  agu0Read false .postinc2 p x rfa7 s

/-- agu0.POSTINC2.rv, code 0x15 (R696). -/
def execAgu0Postinc2Rv (p : BitVec 2) (x : BitVec 4) (rfa7 : BitVec 9) (s : State) : Res :=
  agu0Read true .postinc2 p x rfa7 s

/-- agu0.POSTINC2.ws, code 0x25 (R696). -/
def execAgu0Postinc2Ws (p : BitVec 2) (x : BitVec 4) (rfa7 : BitVec 9) (s : State) : Res :=
  agu0Write false .postinc2 p x rfa7 s

/-- agu0.POSTINC2.wv, code 0x35 (R696). -/
def execAgu0Postinc2Wv (p : BitVec 2) (x : BitVec 4) (rfa7 : BitVec 9) (s : State) : Res :=
  agu0Write true .postinc2 p x rfa7 s

/-- agu0.POSTDEC2.rs, code 0x06 (R697). -/
def execAgu0Postdec2Rs (p : BitVec 2) (x : BitVec 4) (rfa7 : BitVec 9) (s : State) : Res :=
  agu0Read false .postdec2 p x rfa7 s

/-- agu0.POSTDEC2.rv, code 0x16 (R697). -/
def execAgu0Postdec2Rv (p : BitVec 2) (x : BitVec 4) (rfa7 : BitVec 9) (s : State) : Res :=
  agu0Read true .postdec2 p x rfa7 s

/-- agu0.POSTDEC2.ws, code 0x26 (R697). -/
def execAgu0Postdec2Ws (p : BitVec 2) (x : BitVec 4) (rfa7 : BitVec 9) (s : State) : Res :=
  agu0Write false .postdec2 p x rfa7 s

/-- agu0.POSTDEC2.wv, code 0x36 (R697). -/
def execAgu0Postdec2Wv (p : BitVec 2) (x : BitVec 4) (rfa7 : BitVec 9) (s : State) : Res :=
  agu0Write true .postdec2 p x rfa7 s

/-- agu0.PREINC2.rs, code 0x07 (R698). -/
def execAgu0Preinc2Rs (p : BitVec 2) (x : BitVec 4) (rfa7 : BitVec 9) (s : State) : Res :=
  agu0Read false .preinc2 p x rfa7 s

/-- agu0.PREINC2.rv, code 0x17 (R698). -/
def execAgu0Preinc2Rv (p : BitVec 2) (x : BitVec 4) (rfa7 : BitVec 9) (s : State) : Res :=
  agu0Read true .preinc2 p x rfa7 s

/-- agu0.PREINC2.ws, code 0x27 (R698). -/
def execAgu0Preinc2Ws (p : BitVec 2) (x : BitVec 4) (rfa7 : BitVec 9) (s : State) : Res :=
  agu0Write false .preinc2 p x rfa7 s

/-- agu0.PREINC2.wv, code 0x37 (R698). -/
def execAgu0Preinc2Wv (p : BitVec 2) (x : BitVec 4) (rfa7 : BitVec 9) (s : State) : Res :=
  agu0Write true .preinc2 p x rfa7 s

/-- agu0.INDEX.rs, code 0x08 (R699). -/
def execAgu0IndexRs (p : BitVec 2) (x : BitVec 4) (rfa7 : BitVec 9) (s : State) : Res :=
  agu0Read false .index p x rfa7 s

/-- agu0.INDEX.rv, code 0x18 (R699). -/
def execAgu0IndexRv (p : BitVec 2) (x : BitVec 4) (rfa7 : BitVec 9) (s : State) : Res :=
  agu0Read true .index p x rfa7 s

/-- agu0.INDEX.ws, code 0x28 (R699). -/
def execAgu0IndexWs (p : BitVec 2) (x : BitVec 4) (rfa7 : BitVec 9) (s : State) : Res :=
  agu0Write false .index p x rfa7 s

/-- agu0.INDEX.wv, code 0x38 (R699). -/
def execAgu0IndexWv (p : BitVec 2) (x : BitVec 4) (rfa7 : BitVec 9) (s : State) : Res :=
  agu0Write true .index p x rfa7 s

/-- agu0.BASE2IMMU.rs, code 0x09 (R700). -/
def execAgu0Base2immuRs (p : BitVec 2) (x : BitVec 4) (rfa7 : BitVec 9) (s : State) : Res :=
  agu0Read false .base2immu p x rfa7 s

/-- agu0.BASE2IMMU.rv, code 0x19 (R700). -/
def execAgu0Base2immuRv (p : BitVec 2) (x : BitVec 4) (rfa7 : BitVec 9) (s : State) : Res :=
  agu0Read true .base2immu p x rfa7 s

/-- agu0.BASE2IMMU.ws, code 0x29 (R700). -/
def execAgu0Base2immuWs (p : BitVec 2) (x : BitVec 4) (rfa7 : BitVec 9) (s : State) : Res :=
  agu0Write false .base2immu p x rfa7 s

/-- agu0.BASE2IMMU.wv, code 0x39 (R700). -/
def execAgu0Base2immuWv (p : BitVec 2) (x : BitVec 4) (rfa7 : BitVec 9) (s : State) : Res :=
  agu0Write true .base2immu p x rfa7 s

/-- agu0.BASEIMMU.rs, code 0x0A (R701). -/
def execAgu0BaseimmuRs (p : BitVec 2) (x : BitVec 4) (rfa7 : BitVec 9) (s : State) : Res :=
  agu0Read false .baseimmu p x rfa7 s

/-- agu0.BASEIMMU.rv, code 0x1A (R701). -/
def execAgu0BaseimmuRv (p : BitVec 2) (x : BitVec 4) (rfa7 : BitVec 9) (s : State) : Res :=
  agu0Read true .baseimmu p x rfa7 s

/-- agu0.BASEIMMU.ws, code 0x2A (R701). -/
def execAgu0BaseimmuWs (p : BitVec 2) (x : BitVec 4) (rfa7 : BitVec 9) (s : State) : Res :=
  agu0Write false .baseimmu p x rfa7 s

/-- agu0.BASEIMMU.wv, code 0x3A (R701). -/
def execAgu0BaseimmuWv (p : BitVec 2) (x : BitVec 4) (rfa7 : BitVec 9) (s : State) : Res :=
  agu0Write true .baseimmu p x rfa7 s

/-- agu0.BASEIMM.rs, code 0x0B (R702). -/
def execAgu0BaseimmRs (p : BitVec 2) (x : BitVec 4) (rfa7 : BitVec 9) (s : State) : Res :=
  agu0Read false .baseimm p x rfa7 s

/-- agu0.BASEIMM.rv, code 0x1B (R702). -/
def execAgu0BaseimmRv (p : BitVec 2) (x : BitVec 4) (rfa7 : BitVec 9) (s : State) : Res :=
  agu0Read true .baseimm p x rfa7 s

/-- agu0.BASEIMM.ws, code 0x2B (R702). -/
def execAgu0BaseimmWs (p : BitVec 2) (x : BitVec 4) (rfa7 : BitVec 9) (s : State) : Res :=
  agu0Write false .baseimm p x rfa7 s

/-- agu0.BASEIMM.wv, code 0x3B (R702). -/
def execAgu0BaseimmWv (p : BitVec 2) (x : BitVec 4) (rfa7 : BitVec 9) (s : State) : Res :=
  agu0Write true .baseimm p x rfa7 s

/-- agu0.ABS.rs, code 0x0C (R703). -/
def execAgu0AbsRs (p : BitVec 2) (x : BitVec 4) (rfa7 : BitVec 9) (s : State) : Res :=
  agu0Read false .abs p x rfa7 s

/-- agu0.ABS.rv, code 0x1C (R703). -/
def execAgu0AbsRv (p : BitVec 2) (x : BitVec 4) (rfa7 : BitVec 9) (s : State) : Res :=
  agu0Read true .abs p x rfa7 s

/-- agu0.ABS.ws, code 0x2C (R703). -/
def execAgu0AbsWs (p : BitVec 2) (x : BitVec 4) (rfa7 : BitVec 9) (s : State) : Res :=
  agu0Write false .abs p x rfa7 s

/-- agu0.ABS.wv, code 0x3C (R703). -/
def execAgu0AbsWv (p : BitVec 2) (x : BitVec 4) (rfa7 : BitVec 9) (s : State) : Res :=
  agu0Write true .abs p x rfa7 s

/-- agu0.ABSLD.rs, code 0x0D (R704). -/
def execAgu0AbsldRs (p : BitVec 2) (x : BitVec 4) (rfa7 : BitVec 9) (s : State) : Res :=
  agu0Read false .absld p x rfa7 s

/-- agu0.ABSLD.rv, code 0x1D (R704). -/
def execAgu0AbsldRv (p : BitVec 2) (x : BitVec 4) (rfa7 : BitVec 9) (s : State) : Res :=
  agu0Read true .absld p x rfa7 s

/-- agu0.ABSLD.ws, code 0x2D (R704). -/
def execAgu0AbsldWs (p : BitVec 2) (x : BitVec 4) (rfa7 : BitVec 9) (s : State) : Res :=
  agu0Write false .absld p x rfa7 s

/-- agu0.ABSLD.wv, code 0x3D (R704). -/
def execAgu0AbsldWv (p : BitVec 2) (x : BitVec 4) (rfa7 : BitVec 9) (s : State) : Res :=
  agu0Write true .absld p x rfa7 s

/-- agu0.TMP.rs, code 0x0E (R705). -/
def execAgu0TmpRs (p : BitVec 2) (x : BitVec 4) (rfa7 : BitVec 9) (s : State) : Res :=
  agu0Read false .tmp p x rfa7 s

/-- agu0.TMP.rv, code 0x1E (R705). -/
def execAgu0TmpRv (p : BitVec 2) (x : BitVec 4) (rfa7 : BitVec 9) (s : State) : Res :=
  agu0Read true .tmp p x rfa7 s

/-- agu0.TMP.ws, code 0x2E (R705). -/
def execAgu0TmpWs (p : BitVec 2) (x : BitVec 4) (rfa7 : BitVec 9) (s : State) : Res :=
  agu0Write false .tmp p x rfa7 s

/-- agu0.TMP.wv, code 0x3E (R705). -/
def execAgu0TmpWv (p : BitVec 2) (x : BitVec 4) (rfa7 : BitVec 9) (s : State) : Res :=
  agu0Write true .tmp p x rfa7 s

/-- agu0.BASETMP.rs, code 0x0F (R706). -/
def execAgu0BasetmpRs (p : BitVec 2) (x : BitVec 4) (rfa7 : BitVec 9) (s : State) : Res :=
  agu0Read false .basetmp p x rfa7 s

/-- agu0.BASETMP.rv, code 0x1F (R706). -/
def execAgu0BasetmpRv (p : BitVec 2) (x : BitVec 4) (rfa7 : BitVec 9) (s : State) : Res :=
  agu0Read true .basetmp p x rfa7 s

/-- agu0.BASETMP.ws, code 0x2F (R706). -/
def execAgu0BasetmpWs (p : BitVec 2) (x : BitVec 4) (rfa7 : BitVec 9) (s : State) : Res :=
  agu0Write false .basetmp p x rfa7 s

/-- agu0.BASETMP.wv, code 0x3F (R706). -/
def execAgu0BasetmpWv (p : BitVec 2) (x : BitVec 4) (rfa7 : BitVec 9) (s : State) : Res :=
  agu0Write true .basetmp p x rfa7 s

end Sys2Proof.Machine
end

