-- ==== Sys2Proof/Machine/Agu0Arithmetic.lean ====
section
/-! DEFINITION. Meanings. AGU0 arithmetic (spec 45 R730 to R792). -/

namespace Sys2Proof.Machine

/-- agu0.NOP, code 0x40 (R730). -/
def execAgu0Nop (_p : BitVec 2) (s : State) : Res :=
  .next s

/-- agu0.MOV_A_Ay, code 0x41 (R731). -/
def execAgu0MovAAy (p : BitVec 2) (x : BitVec 4) (s : State) : Res :=
  aguArith .agu0 p x (fun i => copyA i.ay) s

/-- agu0.SUB_A_A_T, code 0x42 (R732). -/
def execAgu0SubAAT (p : BitVec 2) (x : BitVec 4) (s : State) : Res :=
  aguArith .agu0 p x (fun i => signedOut true (s16 i.a - s16 i.t)) s

/-- agu0.ADD_A_A_T, code 0x43 (R733). -/
def execAgu0AddAAT (p : BitVec 2) (x : BitVec 4) (s : State) : Res :=
  aguArith .agu0 p x (fun i => signedOut true (s16 i.a + s16 i.t)) s

/-- agu0.SUB_A_Ay_T, code 0x44 (R734). -/
def execAgu0SubAAyT (p : BitVec 2) (x : BitVec 4) (s : State) : Res :=
  aguArith .agu0 p x (fun i => signedOut true (s16 i.ay - s16 i.t)) s

/-- agu0.ADD_A_Ay_T, code 0x45 (R735). -/
def execAgu0AddAAyT (p : BitVec 2) (x : BitVec 4) (s : State) : Res :=
  aguArith .agu0 p x (fun i => signedOut true (s16 i.ay + s16 i.t)) s

/-- agu0.SUB_T_A_T, code 0x46 (R736). -/
def execAgu0SubTAT (p : BitVec 2) (x : BitVec 4) (s : State) : Res :=
  aguArith .agu0 p x (fun i => signedOut false (s16 i.a - s16 i.t)) s

/-- agu0.ADD_T_A_T, code 0x47 (R737). -/
def execAgu0AddTAT (p : BitVec 2) (x : BitVec 4) (s : State) : Res :=
  aguArith .agu0 p x (fun i => signedOut false (s16 i.a + s16 i.t)) s

/-- agu0.ADD_A_A_SIMM, code 0x48 (R738). -/
def execAgu0AddAASimm (p : BitVec 2) (x : BitVec 4) (s : State) : Res :=
  aguArith .agu0 p x (fun i => signedOut true (s16 i.a + s16 i.imm)) s

/-- agu0.ADD_A_Ay_SIMM, code 0x49 (R739). -/
def execAgu0AddAAySimm (p : BitVec 2) (x : BitVec 4) (s : State) : Res :=
  aguArith .agu0 p x (fun i => signedOut true (s16 i.ay + s16 i.imm)) s

/-- agu0.ADD_T_A_SIMM, code 0x4A (R740). -/
def execAgu0AddTASimm (p : BitVec 2) (x : BitVec 4) (s : State) : Res :=
  aguArith .agu0 p x (fun i => signedOut false (s16 i.a + s16 i.imm)) s

/-- agu0.ADD_T_T_SIMM, code 0x4B (R741). -/
def execAgu0AddTTSimm (p : BitVec 2) (x : BitVec 4) (s : State) : Res :=
  aguArith .agu0 p x (fun i => signedOut false (s16 i.t + s16 i.imm)) s

/-- agu0.MUL_T_A_SIMM, code 0x4C (R742). -/
def execAgu0MulTASimm (p : BitVec 2) (x : BitVec 4) (s : State) : Res :=
  aguArith .agu0 p x (fun i => signedOut false (s16 i.a * s16 i.imm)) s

/-- agu0.MUL_T_T_SIMM, code 0x4D (R743). -/
def execAgu0MulTTSimm (p : BitVec 2) (x : BitVec 4) (s : State) : Res :=
  aguArith .agu0 p x (fun i => signedOut false (s16 i.t * s16 i.imm)) s

/-- agu0.MUL_T_A_My, code 0x4E (R744). -/
def execAgu0MulTAMy (p : BitVec 2) (x : BitVec 4) (s : State) : Res :=
  aguArith .agu0 p x (fun i => signedOut false (s16 i.a * s16 i.my)) s

/-- agu0.EQ, code 0x4F (R745). -/
def execAgu0Eq (p : BitVec 2) (x : BitVec 4) (s : State) : Res :=
  aguArith .agu0 p x (fun i => condOut (i.a == i.t)) s

/-- agu0.NEQ, code 0x50 (R746). -/
def execAgu0Neq (p : BitVec 2) (x : BitVec 4) (s : State) : Res :=
  aguArith .agu0 p x (fun i => condOut (i.a != i.t)) s

/-- agu0.GE_S, code 0x51 (R747). -/
def execAgu0GeS (p : BitVec 2) (x : BitVec 4) (s : State) : Res :=
  aguArith .agu0 p x (fun i => condOut (decide (s16 i.a ≥ s16 i.t))) s

/-- agu0.GT_S, code 0x52 (R748). -/
def execAgu0GtS (p : BitVec 2) (x : BitVec 4) (s : State) : Res :=
  aguArith .agu0 p x (fun i => condOut (decide (s16 i.a > s16 i.t))) s

/-- agu0.LE_S, code 0x53 (R749). -/
def execAgu0LeS (p : BitVec 2) (x : BitVec 4) (s : State) : Res :=
  aguArith .agu0 p x (fun i => condOut (decide (s16 i.a ≤ s16 i.t))) s

/-- agu0.LT_S, code 0x54 (R750). -/
def execAgu0LtS (p : BitVec 2) (x : BitVec 4) (s : State) : Res :=
  aguArith .agu0 p x (fun i => condOut (decide (s16 i.a < s16 i.t))) s

/-- agu0.MOV_A_T, code 0x55 (R751). -/
def execAgu0MovAT (p : BitVec 2) (x : BitVec 4) (s : State) : Res :=
  aguArith .agu0 p x (fun i => copyA i.t) s

/-- agu0.MOV_T_A, code 0x56 (R752). -/
def execAgu0MovTA (p : BitVec 2) (x : BitVec 4) (s : State) : Res :=
  aguArith .agu0 p x (fun i => copyT i.a) s

/-- agu0.MOV_T_M, code 0x57 (R753). -/
def execAgu0MovTM (p : BitVec 2) (x : BitVec 4) (s : State) : Res :=
  aguArith .agu0 p x (fun i => copyT i.m) s

/-- agu0.MOV_T_S, code 0x58 (R754). -/
def execAgu0MovTS (p : BitVec 2) (x : BitVec 4) (s : State) : Res :=
  aguArith .agu0 p x (fun i => copyT i.s) s

/-- agu0.MOV_T_L, code 0x59 (R755). -/
def execAgu0MovTL (p : BitVec 2) (x : BitVec 4) (s : State) : Res :=
  aguArith .agu0 p x (fun i => copyT i.l) s

/-- agu0.ADDLT_A_M_L, code 0x5A (R756). -/
def execAgu0AddltAML (p : BitVec 2) (x : BitVec 4) (s : State) : Res :=
  aguArith .agu0 p x
    (fun i => (signedOut true (s16 i.a + s16 i.m)).bound (decide (s16 i.a + s16 i.m < s16 i.l))) s

/-- agu0.SUBGT_A_M, code 0x5B (R757). -/
def execAgu0SubgtAM (p : BitVec 2) (x : BitVec 4) (s : State) : Res :=
  aguArith .agu0 p x (fun i => (signedOut true (s16 i.a - s16 i.m)).bound (decide (s16 i.a - s16 i.m > 0))) s

/-- agu0.SUBGT_A_T, code 0x5C (R758). -/
def execAgu0SubgtAT (p : BitVec 2) (x : BitVec 4) (s : State) : Res :=
  aguArith .agu0 p x (fun i => (signedOut true (s16 i.a - s16 i.t)).bound (decide (s16 i.a - s16 i.t > 0))) s

/-- agu0.ADDLT_A_T_L, code 0x5D (R759). -/
def execAgu0AddltATL (p : BitVec 2) (x : BitVec 4) (s : State) : Res :=
  aguArith .agu0 p x
    (fun i => (signedOut true (s16 i.a + s16 i.t)).bound (decide (s16 i.a + s16 i.t < s16 i.l))) s

/-- agu0.SUBGT_A_SIMM, code 0x5E (R760). -/
def execAgu0SubgtASimm (p : BitVec 2) (x : BitVec 4) (s : State) : Res :=
  aguArith .agu0 p x
    (fun i => (signedOut true (s16 i.a - s16 i.imm)).bound (decide (s16 i.a - s16 i.imm > 0))) s

/-- agu0.MOV_A_SIMM, code 0x5F (R761). -/
def execAgu0MovASimm (p : BitVec 2) (x : BitVec 4) (s : State) : Res :=
  aguArith .agu0 p x (fun i => copyA i.imm) s

/-- agu0.CLR_T, code 0x60 (R762). -/
def execAgu0ClrT (p : BitVec 2) (x : BitVec 4) (s : State) : Res :=
  aguArith .agu0 p x (fun _ => copyT 0) s

/-- agu0.ABS_A, code 0x61 (R763). -/
def execAgu0AbsA (p : BitVec 2) (x : BitVec 4) (s : State) : Res :=
  aguArith .agu0 p x (fun i => copyA (abs16 i.a)) s

/-- agu0.ABS_T_A, code 0x62 (R764). -/
def execAgu0AbsTA (p : BitVec 2) (x : BitVec 4) (s : State) : Res :=
  aguArith .agu0 p x (fun i => copyT (abs16 i.a)) s

/-- agu0.NEG_T_M, code 0x63 (R765). -/
def execAgu0NegTM (p : BitVec 2) (x : BitVec 4) (s : State) : Res :=
  aguArith .agu0 p x (fun i => copyT (-i.m)) s

/-- agu0.MOV_T_UIMM4, code 0x64 (R766). -/
def execAgu0MovTUimm4 (p : BitVec 2) (uimm4 : BitVec 4) (s : State) : Res :=
  aguArith .agu0 p uimm4 (fun _ => copyT (uimm4.setWidth 16)) s

/-- agu0.BITTEST, code 0x65 (R767). -/
def execAgu0Bittest (p : BitVec 2) (x : BitVec 4) (s : State) : Res :=
  aguArith .agu0 p x (fun i => condOut (i.a.getLsbD i.t.toNat)) s

/-- agu0.SHL_A_T, code 0x66 (R768). -/
def execAgu0ShlAT (p : BitVec 2) (x : BitVec 4) (s : State) : Res :=
  aguArith .agu0 p x (fun i => logicOut (i.a <<< i.t.toNat)) s

/-- agu0.SHR_A_T, code 0x67 (R769). -/
def execAgu0ShrAT (p : BitVec 2) (x : BitVec 4) (s : State) : Res :=
  aguArith .agu0 p x (fun i => logicOut (i.a >>> i.t.toNat)) s

/-- agu0.SAR_A_T, code 0x68 (R770). -/
def execAgu0SarAT (p : BitVec 2) (x : BitVec 4) (s : State) : Res :=
  aguArith .agu0 p x (fun i => logicOut (i.a.sshiftRight i.t.toNat)) s

/-- agu0.AND_A_T, code 0x69 (R771). -/
def execAgu0AndAT (p : BitVec 2) (x : BitVec 4) (s : State) : Res :=
  aguArith .agu0 p x (fun i => logicOut (i.a &&& i.t)) s

/-- agu0.OR_A_T, code 0x6A (R772). -/
def execAgu0OrAT (p : BitVec 2) (x : BitVec 4) (s : State) : Res :=
  aguArith .agu0 p x (fun i => logicOut (i.a ||| i.t)) s

/-- agu0.XOR_A_T, code 0x6B (R773). -/
def execAgu0XorAT (p : BitVec 2) (x : BitVec 4) (s : State) : Res :=
  aguArith .agu0 p x (fun i => logicOut (i.a ^^^ i.t)) s

/-- agu0.SUBU_A_A_T, code 0x6C (R774). -/
def execAgu0SubuAAT (p : BitVec 2) (x : BitVec 4) (s : State) : Res :=
  aguArith .agu0 p x (fun i => unsignedOut true (u16 i.a - u16 i.t)) s

/-- agu0.ADDU_A_A_T, code 0x6D (R775). -/
def execAgu0AdduAAT (p : BitVec 2) (x : BitVec 4) (s : State) : Res :=
  aguArith .agu0 p x (fun i => unsignedOut true (u16 i.a + u16 i.t)) s

/-- agu0.SUBU_A_Ay_T, code 0x6E (R776). -/
def execAgu0SubuAAyT (p : BitVec 2) (x : BitVec 4) (s : State) : Res :=
  aguArith .agu0 p x (fun i => unsignedOut true (u16 i.ay - u16 i.t)) s

/-- agu0.ADDU_A_Ay_T, code 0x6F (R777). -/
def execAgu0AdduAAyT (p : BitVec 2) (x : BitVec 4) (s : State) : Res :=
  aguArith .agu0 p x (fun i => unsignedOut true (u16 i.ay + u16 i.t)) s

/-- agu0.SUBU_T_A_T, code 0x70 (R778). -/
def execAgu0SubuTAT (p : BitVec 2) (x : BitVec 4) (s : State) : Res :=
  aguArith .agu0 p x (fun i => unsignedOut false (u16 i.a - u16 i.t)) s

/-- agu0.ADDU_T_A_T, code 0x71 (R779). -/
def execAgu0AdduTAT (p : BitVec 2) (x : BitVec 4) (s : State) : Res :=
  aguArith .agu0 p x (fun i => unsignedOut false (u16 i.a + u16 i.t)) s

/-- agu0.ADDU_A_A_IMM, code 0x72 (R780). -/
def execAgu0AdduAAImm (p : BitVec 2) (x : BitVec 4) (s : State) : Res :=
  aguArith .agu0 p x (fun i => unsignedOut true (u16 i.a + u16 i.imm)) s

/-- agu0.ADDU_A_Ay_IMM, code 0x73 (R781). -/
def execAgu0AdduAAyImm (p : BitVec 2) (x : BitVec 4) (s : State) : Res :=
  aguArith .agu0 p x (fun i => unsignedOut true (u16 i.ay + u16 i.imm)) s

/-- agu0.ADDU_T_A_IMM, code 0x74 (R782). -/
def execAgu0AdduTAImm (p : BitVec 2) (x : BitVec 4) (s : State) : Res :=
  aguArith .agu0 p x (fun i => unsignedOut false (u16 i.a + u16 i.imm)) s

/-- agu0.ADDU_T_T_IMM, code 0x75 (R783). -/
def execAgu0AdduTTImm (p : BitVec 2) (x : BitVec 4) (s : State) : Res :=
  aguArith .agu0 p x (fun i => unsignedOut false (u16 i.t + u16 i.imm)) s

/-- agu0.MULU_T_A_IMM, code 0x76 (R784). -/
def execAgu0MuluTAImm (p : BitVec 2) (x : BitVec 4) (s : State) : Res :=
  aguArith .agu0 p x (fun i => unsignedOut false (u16 i.a * u16 i.imm)) s

/-- agu0.MULU_T_T_IMM, code 0x77 (R785). -/
def execAgu0MuluTTImm (p : BitVec 2) (x : BitVec 4) (s : State) : Res :=
  aguArith .agu0 p x (fun i => unsignedOut false (u16 i.t * u16 i.imm)) s

/-- agu0.MULU_T_A_My, code 0x78 (R786). -/
def execAgu0MuluTAMy (p : BitVec 2) (x : BitVec 4) (s : State) : Res :=
  aguArith .agu0 p x (fun i => unsignedOut false (u16 i.a * u16 i.my)) s

/-- agu0.GE_U, code 0x79 (R787). -/
def execAgu0GeU (p : BitVec 2) (x : BitVec 4) (s : State) : Res :=
  aguArith .agu0 p x (fun i => condOut (decide (u16 i.a ≥ u16 i.t))) s

/-- agu0.GT_U, code 0x7A (R788). -/
def execAgu0GtU (p : BitVec 2) (x : BitVec 4) (s : State) : Res :=
  aguArith .agu0 p x (fun i => condOut (decide (u16 i.a > u16 i.t))) s

/-- agu0.LE_U, code 0x7B (R789). -/
def execAgu0LeU (p : BitVec 2) (x : BitVec 4) (s : State) : Res :=
  aguArith .agu0 p x (fun i => condOut (decide (u16 i.a ≤ u16 i.t))) s

/-- agu0.LT_U, code 0x7C (R790). -/
def execAgu0LtU (p : BitVec 2) (x : BitVec 4) (s : State) : Res :=
  aguArith .agu0 p x (fun i => condOut (decide (u16 i.a < u16 i.t))) s

/-- agu0.ADDLTU_A_M_L, code 0x7D (R791). -/
def execAgu0AddltuAML (p : BitVec 2) (x : BitVec 4) (s : State) : Res :=
  aguArith .agu0 p x
    (fun i => (unsignedOut true (u16 i.a + u16 i.m)).bound (decide (u16 i.a + u16 i.m < u16 i.l))) s

/-- agu0.SUBGTU_A_M, code 0x7E (R792). -/
def execAgu0SubgtuAM (p : BitVec 2) (x : BitVec 4) (s : State) : Res :=
  aguArith .agu0 p x
    (fun i => (unsignedOut true (u16 i.a - u16 i.m)).bound (decide (u16 i.a - u16 i.m > 0))) s

end Sys2Proof.Machine
end

