-- ==== Sys2Proof/Machine/Agu1Addressing.lean ====
section
/-! DEFINITION. Meanings. AGU1 memory accesses (spec 44 R691 to R706). -/

namespace Sys2Proof.Machine

/-- agu1.DIR.rs, code 0x00 (R691). -/
def execAgu1DirRs (p : BitVec 2) (x : BitVec 4) (rfa5 : BitVec 8) (s : State) : Res :=
  agu1Read false .dir p x rfa5 s

/-- agu1.DIR.rv, code 0x10 (R691). -/
def execAgu1DirRv (p : BitVec 2) (x : BitVec 4) (rfa5 : BitVec 8) (s : State) : Res :=
  agu1Read true .dir p x rfa5 s

/-- agu1.DIR.ws, code 0x20 (R691). -/
def execAgu1DirWs (p : BitVec 2) (x : BitVec 4) (s : State) : Res :=
  agu1Write false .dir p x s

/-- agu1.DIR.wv, code 0x30 (R691). -/
def execAgu1DirWv (p : BitVec 2) (x : BitVec 4) (s : State) : Res :=
  agu1Write true .dir p x s

/-- agu1.POSTINC.rs, code 0x01 (R692). -/
def execAgu1PostincRs (p : BitVec 2) (x : BitVec 4) (rfa5 : BitVec 8) (s : State) : Res :=
  agu1Read false .postinc p x rfa5 s

/-- agu1.POSTINC.rv, code 0x11 (R692). -/
def execAgu1PostincRv (p : BitVec 2) (x : BitVec 4) (rfa5 : BitVec 8) (s : State) : Res :=
  agu1Read true .postinc p x rfa5 s

/-- agu1.POSTINC.ws, code 0x21 (R692). -/
def execAgu1PostincWs (p : BitVec 2) (x : BitVec 4) (s : State) : Res :=
  agu1Write false .postinc p x s

/-- agu1.POSTINC.wv, code 0x31 (R692). -/
def execAgu1PostincWv (p : BitVec 2) (x : BitVec 4) (s : State) : Res :=
  agu1Write true .postinc p x s

/-- agu1.POSTDEC.rs, code 0x02 (R693). -/
def execAgu1PostdecRs (p : BitVec 2) (x : BitVec 4) (rfa5 : BitVec 8) (s : State) : Res :=
  agu1Read false .postdec p x rfa5 s

/-- agu1.POSTDEC.rv, code 0x12 (R693). -/
def execAgu1PostdecRv (p : BitVec 2) (x : BitVec 4) (rfa5 : BitVec 8) (s : State) : Res :=
  agu1Read true .postdec p x rfa5 s

/-- agu1.POSTDEC.ws, code 0x22 (R693). -/
def execAgu1PostdecWs (p : BitVec 2) (x : BitVec 4) (s : State) : Res :=
  agu1Write false .postdec p x s

/-- agu1.POSTDEC.wv, code 0x32 (R693). -/
def execAgu1PostdecWv (p : BitVec 2) (x : BitVec 4) (s : State) : Res :=
  agu1Write true .postdec p x s

/-- agu1.PREINC.rs, code 0x03 (R694). -/
def execAgu1PreincRs (p : BitVec 2) (x : BitVec 4) (rfa5 : BitVec 8) (s : State) : Res :=
  agu1Read false .preinc p x rfa5 s

/-- agu1.PREINC.rv, code 0x13 (R694). -/
def execAgu1PreincRv (p : BitVec 2) (x : BitVec 4) (rfa5 : BitVec 8) (s : State) : Res :=
  agu1Read true .preinc p x rfa5 s

/-- agu1.PREINC.ws, code 0x23 (R694). -/
def execAgu1PreincWs (p : BitVec 2) (x : BitVec 4) (s : State) : Res :=
  agu1Write false .preinc p x s

/-- agu1.PREINC.wv, code 0x33 (R694). -/
def execAgu1PreincWv (p : BitVec 2) (x : BitVec 4) (s : State) : Res :=
  agu1Write true .preinc p x s

/-- agu1.PREDEC.rs, code 0x04 (R695). -/
def execAgu1PredecRs (p : BitVec 2) (x : BitVec 4) (rfa5 : BitVec 8) (s : State) : Res :=
  agu1Read false .predec p x rfa5 s

/-- agu1.PREDEC.rv, code 0x14 (R695). -/
def execAgu1PredecRv (p : BitVec 2) (x : BitVec 4) (rfa5 : BitVec 8) (s : State) : Res :=
  agu1Read true .predec p x rfa5 s

/-- agu1.PREDEC.ws, code 0x24 (R695). -/
def execAgu1PredecWs (p : BitVec 2) (x : BitVec 4) (s : State) : Res :=
  agu1Write false .predec p x s

/-- agu1.PREDEC.wv, code 0x34 (R695). -/
def execAgu1PredecWv (p : BitVec 2) (x : BitVec 4) (s : State) : Res :=
  agu1Write true .predec p x s

/-- agu1.POSTINC2.rs, code 0x05 (R696). -/
def execAgu1Postinc2Rs (p : BitVec 2) (x : BitVec 4) (rfa5 : BitVec 8) (s : State) : Res :=
  agu1Read false .postinc2 p x rfa5 s

/-- agu1.POSTINC2.rv, code 0x15 (R696). -/
def execAgu1Postinc2Rv (p : BitVec 2) (x : BitVec 4) (rfa5 : BitVec 8) (s : State) : Res :=
  agu1Read true .postinc2 p x rfa5 s

/-- agu1.POSTINC2.ws, code 0x25 (R696). -/
def execAgu1Postinc2Ws (p : BitVec 2) (x : BitVec 4) (s : State) : Res :=
  agu1Write false .postinc2 p x s

/-- agu1.POSTINC2.wv, code 0x35 (R696). -/
def execAgu1Postinc2Wv (p : BitVec 2) (x : BitVec 4) (s : State) : Res :=
  agu1Write true .postinc2 p x s

/-- agu1.POSTDEC2.rs, code 0x06 (R697). -/
def execAgu1Postdec2Rs (p : BitVec 2) (x : BitVec 4) (rfa5 : BitVec 8) (s : State) : Res :=
  agu1Read false .postdec2 p x rfa5 s

/-- agu1.POSTDEC2.rv, code 0x16 (R697). -/
def execAgu1Postdec2Rv (p : BitVec 2) (x : BitVec 4) (rfa5 : BitVec 8) (s : State) : Res :=
  agu1Read true .postdec2 p x rfa5 s

/-- agu1.POSTDEC2.ws, code 0x26 (R697). -/
def execAgu1Postdec2Ws (p : BitVec 2) (x : BitVec 4) (s : State) : Res :=
  agu1Write false .postdec2 p x s

/-- agu1.POSTDEC2.wv, code 0x36 (R697). -/
def execAgu1Postdec2Wv (p : BitVec 2) (x : BitVec 4) (s : State) : Res :=
  agu1Write true .postdec2 p x s

/-- agu1.PREINC2.rs, code 0x07 (R698). -/
def execAgu1Preinc2Rs (p : BitVec 2) (x : BitVec 4) (rfa5 : BitVec 8) (s : State) : Res :=
  agu1Read false .preinc2 p x rfa5 s

/-- agu1.PREINC2.rv, code 0x17 (R698). -/
def execAgu1Preinc2Rv (p : BitVec 2) (x : BitVec 4) (rfa5 : BitVec 8) (s : State) : Res :=
  agu1Read true .preinc2 p x rfa5 s

/-- agu1.PREINC2.ws, code 0x27 (R698). -/
def execAgu1Preinc2Ws (p : BitVec 2) (x : BitVec 4) (s : State) : Res :=
  agu1Write false .preinc2 p x s

/-- agu1.PREINC2.wv, code 0x37 (R698). -/
def execAgu1Preinc2Wv (p : BitVec 2) (x : BitVec 4) (s : State) : Res :=
  agu1Write true .preinc2 p x s

/-- agu1.INDEX.rs, code 0x08 (R699). -/
def execAgu1IndexRs (p : BitVec 2) (x : BitVec 4) (rfa5 : BitVec 8) (s : State) : Res :=
  agu1Read false .index p x rfa5 s

/-- agu1.INDEX.rv, code 0x18 (R699). -/
def execAgu1IndexRv (p : BitVec 2) (x : BitVec 4) (rfa5 : BitVec 8) (s : State) : Res :=
  agu1Read true .index p x rfa5 s

/-- agu1.INDEX.ws, code 0x28 (R699). -/
def execAgu1IndexWs (p : BitVec 2) (x : BitVec 4) (s : State) : Res :=
  agu1Write false .index p x s

/-- agu1.INDEX.wv, code 0x38 (R699). -/
def execAgu1IndexWv (p : BitVec 2) (x : BitVec 4) (s : State) : Res :=
  agu1Write true .index p x s

/-- agu1.BASE2IMMU.rs, code 0x09 (R700). -/
def execAgu1Base2immuRs (p : BitVec 2) (x : BitVec 4) (rfa5 : BitVec 8) (s : State) : Res :=
  agu1Read false .base2immu p x rfa5 s

/-- agu1.BASE2IMMU.rv, code 0x19 (R700). -/
def execAgu1Base2immuRv (p : BitVec 2) (x : BitVec 4) (rfa5 : BitVec 8) (s : State) : Res :=
  agu1Read true .base2immu p x rfa5 s

/-- agu1.BASE2IMMU.ws, code 0x29 (R700). -/
def execAgu1Base2immuWs (p : BitVec 2) (x : BitVec 4) (s : State) : Res :=
  agu1Write false .base2immu p x s

/-- agu1.BASE2IMMU.wv, code 0x39 (R700). -/
def execAgu1Base2immuWv (p : BitVec 2) (x : BitVec 4) (s : State) : Res :=
  agu1Write true .base2immu p x s

/-- agu1.BASEIMMU.rs, code 0x0A (R701). -/
def execAgu1BaseimmuRs (p : BitVec 2) (x : BitVec 4) (rfa5 : BitVec 8) (s : State) : Res :=
  agu1Read false .baseimmu p x rfa5 s

/-- agu1.BASEIMMU.rv, code 0x1A (R701). -/
def execAgu1BaseimmuRv (p : BitVec 2) (x : BitVec 4) (rfa5 : BitVec 8) (s : State) : Res :=
  agu1Read true .baseimmu p x rfa5 s

/-- agu1.BASEIMMU.ws, code 0x2A (R701). -/
def execAgu1BaseimmuWs (p : BitVec 2) (x : BitVec 4) (s : State) : Res :=
  agu1Write false .baseimmu p x s

/-- agu1.BASEIMMU.wv, code 0x3A (R701). -/
def execAgu1BaseimmuWv (p : BitVec 2) (x : BitVec 4) (s : State) : Res :=
  agu1Write true .baseimmu p x s

/-- agu1.BASEIMM.rs, code 0x0B (R702). -/
def execAgu1BaseimmRs (p : BitVec 2) (x : BitVec 4) (rfa5 : BitVec 8) (s : State) : Res :=
  agu1Read false .baseimm p x rfa5 s

/-- agu1.BASEIMM.rv, code 0x1B (R702). -/
def execAgu1BaseimmRv (p : BitVec 2) (x : BitVec 4) (rfa5 : BitVec 8) (s : State) : Res :=
  agu1Read true .baseimm p x rfa5 s

/-- agu1.BASEIMM.ws, code 0x2B (R702). -/
def execAgu1BaseimmWs (p : BitVec 2) (x : BitVec 4) (s : State) : Res :=
  agu1Write false .baseimm p x s

/-- agu1.BASEIMM.wv, code 0x3B (R702). -/
def execAgu1BaseimmWv (p : BitVec 2) (x : BitVec 4) (s : State) : Res :=
  agu1Write true .baseimm p x s

/-- agu1.ABS.rs, code 0x0C (R703). -/
def execAgu1AbsRs (p : BitVec 2) (x : BitVec 4) (rfa5 : BitVec 8) (s : State) : Res :=
  agu1Read false .abs p x rfa5 s

/-- agu1.ABS.rv, code 0x1C (R703). -/
def execAgu1AbsRv (p : BitVec 2) (x : BitVec 4) (rfa5 : BitVec 8) (s : State) : Res :=
  agu1Read true .abs p x rfa5 s

/-- agu1.ABS.ws, code 0x2C (R703). -/
def execAgu1AbsWs (p : BitVec 2) (x : BitVec 4) (s : State) : Res :=
  agu1Write false .abs p x s

/-- agu1.ABS.wv, code 0x3C (R703). -/
def execAgu1AbsWv (p : BitVec 2) (x : BitVec 4) (s : State) : Res :=
  agu1Write true .abs p x s

/-- agu1.ABSLD.rs, code 0x0D (R704). -/
def execAgu1AbsldRs (p : BitVec 2) (x : BitVec 4) (rfa5 : BitVec 8) (s : State) : Res :=
  agu1Read false .absld p x rfa5 s

/-- agu1.ABSLD.rv, code 0x1D (R704). -/
def execAgu1AbsldRv (p : BitVec 2) (x : BitVec 4) (rfa5 : BitVec 8) (s : State) : Res :=
  agu1Read true .absld p x rfa5 s

/-- agu1.ABSLD.ws, code 0x2D (R704). -/
def execAgu1AbsldWs (p : BitVec 2) (x : BitVec 4) (s : State) : Res :=
  agu1Write false .absld p x s

/-- agu1.ABSLD.wv, code 0x3D (R704). -/
def execAgu1AbsldWv (p : BitVec 2) (x : BitVec 4) (s : State) : Res :=
  agu1Write true .absld p x s

/-- agu1.TMP.rs, code 0x0E (R705). -/
def execAgu1TmpRs (p : BitVec 2) (x : BitVec 4) (rfa5 : BitVec 8) (s : State) : Res :=
  agu1Read false .tmp p x rfa5 s

/-- agu1.TMP.rv, code 0x1E (R705). -/
def execAgu1TmpRv (p : BitVec 2) (x : BitVec 4) (rfa5 : BitVec 8) (s : State) : Res :=
  agu1Read true .tmp p x rfa5 s

/-- agu1.TMP.ws, code 0x2E (R705). -/
def execAgu1TmpWs (p : BitVec 2) (x : BitVec 4) (s : State) : Res :=
  agu1Write false .tmp p x s

/-- agu1.TMP.wv, code 0x3E (R705). -/
def execAgu1TmpWv (p : BitVec 2) (x : BitVec 4) (s : State) : Res :=
  agu1Write true .tmp p x s

/-- agu1.BASETMP.rs, code 0x0F (R706). -/
def execAgu1BasetmpRs (p : BitVec 2) (x : BitVec 4) (rfa5 : BitVec 8) (s : State) : Res :=
  agu1Read false .basetmp p x rfa5 s

/-- agu1.BASETMP.rv, code 0x1F (R706). -/
def execAgu1BasetmpRv (p : BitVec 2) (x : BitVec 4) (rfa5 : BitVec 8) (s : State) : Res :=
  agu1Read true .basetmp p x rfa5 s

/-- agu1.BASETMP.ws, code 0x2F (R706). -/
def execAgu1BasetmpWs (p : BitVec 2) (x : BitVec 4) (s : State) : Res :=
  agu1Write false .basetmp p x s

/-- agu1.BASETMP.wv, code 0x3F (R706). -/
def execAgu1BasetmpWv (p : BitVec 2) (x : BitVec 4) (s : State) : Res :=
  agu1Write true .basetmp p x s

end Sys2Proof.Machine
end

