-- ==== Sys2Proof/Machine/Agu1Arithmetic.lean ====
section
/-! DEFINITION. Meanings. AGU1 arithmetic (spec 45 R730 to R792). -/

namespace Sys2Proof.Machine

/-- agu1.NOP, code 0x40 (R730). -/
def execAgu1Nop (_p : BitVec 2) (s : State) : Res :=
  .next s

/-- agu1.MOV_A_Ay, code 0x41 (R731). -/
def execAgu1MovAAy (p : BitVec 2) (x : BitVec 4) (s : State) : Res :=
  aguArith .agu1 p x (fun i => copyA i.ay) s

/-- agu1.SUB_A_A_T, code 0x42 (R732). -/
def execAgu1SubAAT (p : BitVec 2) (x : BitVec 4) (s : State) : Res :=
  aguArith .agu1 p x (fun i => signedOut true (s16 i.a - s16 i.t)) s

/-- agu1.ADD_A_A_T, code 0x43 (R733). -/
def execAgu1AddAAT (p : BitVec 2) (x : BitVec 4) (s : State) : Res :=
  aguArith .agu1 p x (fun i => signedOut true (s16 i.a + s16 i.t)) s

/-- agu1.SUB_A_Ay_T, code 0x44 (R734). -/
def execAgu1SubAAyT (p : BitVec 2) (x : BitVec 4) (s : State) : Res :=
  aguArith .agu1 p x (fun i => signedOut true (s16 i.ay - s16 i.t)) s

/-- agu1.ADD_A_Ay_T, code 0x45 (R735). -/
def execAgu1AddAAyT (p : BitVec 2) (x : BitVec 4) (s : State) : Res :=
  aguArith .agu1 p x (fun i => signedOut true (s16 i.ay + s16 i.t)) s

/-- agu1.SUB_T_A_T, code 0x46 (R736). -/
def execAgu1SubTAT (p : BitVec 2) (x : BitVec 4) (s : State) : Res :=
  aguArith .agu1 p x (fun i => signedOut false (s16 i.a - s16 i.t)) s

/-- agu1.ADD_T_A_T, code 0x47 (R737). -/
def execAgu1AddTAT (p : BitVec 2) (x : BitVec 4) (s : State) : Res :=
  aguArith .agu1 p x (fun i => signedOut false (s16 i.a + s16 i.t)) s

/-- agu1.ADD_A_A_SIMM, code 0x48 (R738). -/
def execAgu1AddAASimm (p : BitVec 2) (x : BitVec 4) (s : State) : Res :=
  aguArith .agu1 p x (fun i => signedOut true (s16 i.a + s16 i.imm)) s

/-- agu1.ADD_A_Ay_SIMM, code 0x49 (R739). -/
def execAgu1AddAAySimm (p : BitVec 2) (x : BitVec 4) (s : State) : Res :=
  aguArith .agu1 p x (fun i => signedOut true (s16 i.ay + s16 i.imm)) s

/-- agu1.ADD_T_A_SIMM, code 0x4A (R740). -/
def execAgu1AddTASimm (p : BitVec 2) (x : BitVec 4) (s : State) : Res :=
  aguArith .agu1 p x (fun i => signedOut false (s16 i.a + s16 i.imm)) s

/-- agu1.ADD_T_T_SIMM, code 0x4B (R741). -/
def execAgu1AddTTSimm (p : BitVec 2) (x : BitVec 4) (s : State) : Res :=
  aguArith .agu1 p x (fun i => signedOut false (s16 i.t + s16 i.imm)) s

/-- agu1.MUL_T_A_SIMM, code 0x4C (R742). -/
def execAgu1MulTASimm (p : BitVec 2) (x : BitVec 4) (s : State) : Res :=
  aguArith .agu1 p x (fun i => signedOut false (s16 i.a * s16 i.imm)) s

/-- agu1.MUL_T_T_SIMM, code 0x4D (R743). -/
def execAgu1MulTTSimm (p : BitVec 2) (x : BitVec 4) (s : State) : Res :=
  aguArith .agu1 p x (fun i => signedOut false (s16 i.t * s16 i.imm)) s

/-- agu1.MUL_T_A_My, code 0x4E (R744). -/
def execAgu1MulTAMy (p : BitVec 2) (x : BitVec 4) (s : State) : Res :=
  aguArith .agu1 p x (fun i => signedOut false (s16 i.a * s16 i.my)) s

/-- agu1.EQ, code 0x4F (R745). -/
def execAgu1Eq (p : BitVec 2) (x : BitVec 4) (s : State) : Res :=
  aguArith .agu1 p x (fun i => condOut (i.a == i.t)) s

/-- agu1.NEQ, code 0x50 (R746). -/
def execAgu1Neq (p : BitVec 2) (x : BitVec 4) (s : State) : Res :=
  aguArith .agu1 p x (fun i => condOut (i.a != i.t)) s

/-- agu1.GE_S, code 0x51 (R747). -/
def execAgu1GeS (p : BitVec 2) (x : BitVec 4) (s : State) : Res :=
  aguArith .agu1 p x (fun i => condOut (decide (s16 i.a ≥ s16 i.t))) s

/-- agu1.GT_S, code 0x52 (R748). -/
def execAgu1GtS (p : BitVec 2) (x : BitVec 4) (s : State) : Res :=
  aguArith .agu1 p x (fun i => condOut (decide (s16 i.a > s16 i.t))) s

/-- agu1.LE_S, code 0x53 (R749). -/
def execAgu1LeS (p : BitVec 2) (x : BitVec 4) (s : State) : Res :=
  aguArith .agu1 p x (fun i => condOut (decide (s16 i.a ≤ s16 i.t))) s

/-- agu1.LT_S, code 0x54 (R750). -/
def execAgu1LtS (p : BitVec 2) (x : BitVec 4) (s : State) : Res :=
  aguArith .agu1 p x (fun i => condOut (decide (s16 i.a < s16 i.t))) s

/-- agu1.MOV_A_T, code 0x55 (R751). -/
def execAgu1MovAT (p : BitVec 2) (x : BitVec 4) (s : State) : Res :=
  aguArith .agu1 p x (fun i => copyA i.t) s

/-- agu1.MOV_T_A, code 0x56 (R752). -/
def execAgu1MovTA (p : BitVec 2) (x : BitVec 4) (s : State) : Res :=
  aguArith .agu1 p x (fun i => copyT i.a) s

/-- agu1.MOV_T_M, code 0x57 (R753). -/
def execAgu1MovTM (p : BitVec 2) (x : BitVec 4) (s : State) : Res :=
  aguArith .agu1 p x (fun i => copyT i.m) s

/-- agu1.MOV_T_S, code 0x58 (R754). -/
def execAgu1MovTS (p : BitVec 2) (x : BitVec 4) (s : State) : Res :=
  aguArith .agu1 p x (fun i => copyT i.s) s

/-- agu1.MOV_T_L, code 0x59 (R755). -/
def execAgu1MovTL (p : BitVec 2) (x : BitVec 4) (s : State) : Res :=
  aguArith .agu1 p x (fun i => copyT i.l) s

/-- agu1.ADDLT_A_M_L, code 0x5A (R756). -/
def execAgu1AddltAML (p : BitVec 2) (x : BitVec 4) (s : State) : Res :=
  aguArith .agu1 p x
    (fun i => (signedOut true (s16 i.a + s16 i.m)).bound (decide (s16 i.a + s16 i.m < s16 i.l))) s

/-- agu1.SUBGT_A_M, code 0x5B (R757). -/
def execAgu1SubgtAM (p : BitVec 2) (x : BitVec 4) (s : State) : Res :=
  aguArith .agu1 p x (fun i => (signedOut true (s16 i.a - s16 i.m)).bound (decide (s16 i.a - s16 i.m > 0))) s

/-- agu1.SUBGT_A_T, code 0x5C (R758). -/
def execAgu1SubgtAT (p : BitVec 2) (x : BitVec 4) (s : State) : Res :=
  aguArith .agu1 p x (fun i => (signedOut true (s16 i.a - s16 i.t)).bound (decide (s16 i.a - s16 i.t > 0))) s

/-- agu1.ADDLT_A_T_L, code 0x5D (R759). -/
def execAgu1AddltATL (p : BitVec 2) (x : BitVec 4) (s : State) : Res :=
  aguArith .agu1 p x
    (fun i => (signedOut true (s16 i.a + s16 i.t)).bound (decide (s16 i.a + s16 i.t < s16 i.l))) s

/-- agu1.SUBGT_A_SIMM, code 0x5E (R760). -/
def execAgu1SubgtASimm (p : BitVec 2) (x : BitVec 4) (s : State) : Res :=
  aguArith .agu1 p x
    (fun i => (signedOut true (s16 i.a - s16 i.imm)).bound (decide (s16 i.a - s16 i.imm > 0))) s

/-- agu1.MOV_A_SIMM, code 0x5F (R761). -/
def execAgu1MovASimm (p : BitVec 2) (x : BitVec 4) (s : State) : Res :=
  aguArith .agu1 p x (fun i => copyA i.imm) s

/-- agu1.CLR_T, code 0x60 (R762). -/
def execAgu1ClrT (p : BitVec 2) (x : BitVec 4) (s : State) : Res :=
  aguArith .agu1 p x (fun _ => copyT 0) s

/-- agu1.ABS_A, code 0x61 (R763). -/
def execAgu1AbsA (p : BitVec 2) (x : BitVec 4) (s : State) : Res :=
  aguArith .agu1 p x (fun i => copyA (abs16 i.a)) s

/-- agu1.ABS_T_A, code 0x62 (R764). -/
def execAgu1AbsTA (p : BitVec 2) (x : BitVec 4) (s : State) : Res :=
  aguArith .agu1 p x (fun i => copyT (abs16 i.a)) s

/-- agu1.NEG_T_M, code 0x63 (R765). -/
def execAgu1NegTM (p : BitVec 2) (x : BitVec 4) (s : State) : Res :=
  aguArith .agu1 p x (fun i => copyT (-i.m)) s

/-- agu1.MOV_T_UIMM4, code 0x64 (R766). -/
def execAgu1MovTUimm4 (p : BitVec 2) (uimm4 : BitVec 4) (s : State) : Res :=
  aguArith .agu1 p uimm4 (fun _ => copyT (uimm4.setWidth 16)) s

/-- agu1.BITTEST, code 0x65 (R767). -/
def execAgu1Bittest (p : BitVec 2) (x : BitVec 4) (s : State) : Res :=
  aguArith .agu1 p x (fun i => condOut (i.a.getLsbD i.t.toNat)) s

/-- agu1.SHL_A_T, code 0x66 (R768). -/
def execAgu1ShlAT (p : BitVec 2) (x : BitVec 4) (s : State) : Res :=
  aguArith .agu1 p x (fun i => logicOut (i.a <<< i.t.toNat)) s

/-- agu1.SHR_A_T, code 0x67 (R769). -/
def execAgu1ShrAT (p : BitVec 2) (x : BitVec 4) (s : State) : Res :=
  aguArith .agu1 p x (fun i => logicOut (i.a >>> i.t.toNat)) s

/-- agu1.SAR_A_T, code 0x68 (R770). -/
def execAgu1SarAT (p : BitVec 2) (x : BitVec 4) (s : State) : Res :=
  aguArith .agu1 p x (fun i => logicOut (i.a.sshiftRight i.t.toNat)) s

/-- agu1.AND_A_T, code 0x69 (R771). -/
def execAgu1AndAT (p : BitVec 2) (x : BitVec 4) (s : State) : Res :=
  aguArith .agu1 p x (fun i => logicOut (i.a &&& i.t)) s

/-- agu1.OR_A_T, code 0x6A (R772). -/
def execAgu1OrAT (p : BitVec 2) (x : BitVec 4) (s : State) : Res :=
  aguArith .agu1 p x (fun i => logicOut (i.a ||| i.t)) s

/-- agu1.XOR_A_T, code 0x6B (R773). -/
def execAgu1XorAT (p : BitVec 2) (x : BitVec 4) (s : State) : Res :=
  aguArith .agu1 p x (fun i => logicOut (i.a ^^^ i.t)) s

/-- agu1.SUBU_A_A_T, code 0x6C (R774). -/
def execAgu1SubuAAT (p : BitVec 2) (x : BitVec 4) (s : State) : Res :=
  aguArith .agu1 p x (fun i => unsignedOut true (u16 i.a - u16 i.t)) s

/-- agu1.ADDU_A_A_T, code 0x6D (R775). -/
def execAgu1AdduAAT (p : BitVec 2) (x : BitVec 4) (s : State) : Res :=
  aguArith .agu1 p x (fun i => unsignedOut true (u16 i.a + u16 i.t)) s

/-- agu1.SUBU_A_Ay_T, code 0x6E (R776). -/
def execAgu1SubuAAyT (p : BitVec 2) (x : BitVec 4) (s : State) : Res :=
  aguArith .agu1 p x (fun i => unsignedOut true (u16 i.ay - u16 i.t)) s

/-- agu1.ADDU_A_Ay_T, code 0x6F (R777). -/
def execAgu1AdduAAyT (p : BitVec 2) (x : BitVec 4) (s : State) : Res :=
  aguArith .agu1 p x (fun i => unsignedOut true (u16 i.ay + u16 i.t)) s

/-- agu1.SUBU_T_A_T, code 0x70 (R778). -/
def execAgu1SubuTAT (p : BitVec 2) (x : BitVec 4) (s : State) : Res :=
  aguArith .agu1 p x (fun i => unsignedOut false (u16 i.a - u16 i.t)) s

/-- agu1.ADDU_T_A_T, code 0x71 (R779). -/
def execAgu1AdduTAT (p : BitVec 2) (x : BitVec 4) (s : State) : Res :=
  aguArith .agu1 p x (fun i => unsignedOut false (u16 i.a + u16 i.t)) s

/-- agu1.ADDU_A_A_IMM, code 0x72 (R780). -/
def execAgu1AdduAAImm (p : BitVec 2) (x : BitVec 4) (s : State) : Res :=
  aguArith .agu1 p x (fun i => unsignedOut true (u16 i.a + u16 i.imm)) s

/-- agu1.ADDU_A_Ay_IMM, code 0x73 (R781). -/
def execAgu1AdduAAyImm (p : BitVec 2) (x : BitVec 4) (s : State) : Res :=
  aguArith .agu1 p x (fun i => unsignedOut true (u16 i.ay + u16 i.imm)) s

/-- agu1.ADDU_T_A_IMM, code 0x74 (R782). -/
def execAgu1AdduTAImm (p : BitVec 2) (x : BitVec 4) (s : State) : Res :=
  aguArith .agu1 p x (fun i => unsignedOut false (u16 i.a + u16 i.imm)) s

/-- agu1.ADDU_T_T_IMM, code 0x75 (R783). -/
def execAgu1AdduTTImm (p : BitVec 2) (x : BitVec 4) (s : State) : Res :=
  aguArith .agu1 p x (fun i => unsignedOut false (u16 i.t + u16 i.imm)) s

/-- agu1.MULU_T_A_IMM, code 0x76 (R784). -/
def execAgu1MuluTAImm (p : BitVec 2) (x : BitVec 4) (s : State) : Res :=
  aguArith .agu1 p x (fun i => unsignedOut false (u16 i.a * u16 i.imm)) s

/-- agu1.MULU_T_T_IMM, code 0x77 (R785). -/
def execAgu1MuluTTImm (p : BitVec 2) (x : BitVec 4) (s : State) : Res :=
  aguArith .agu1 p x (fun i => unsignedOut false (u16 i.t * u16 i.imm)) s

/-- agu1.MULU_T_A_My, code 0x78 (R786). -/
def execAgu1MuluTAMy (p : BitVec 2) (x : BitVec 4) (s : State) : Res :=
  aguArith .agu1 p x (fun i => unsignedOut false (u16 i.a * u16 i.my)) s

/-- agu1.GE_U, code 0x79 (R787). -/
def execAgu1GeU (p : BitVec 2) (x : BitVec 4) (s : State) : Res :=
  aguArith .agu1 p x (fun i => condOut (decide (u16 i.a ≥ u16 i.t))) s

/-- agu1.GT_U, code 0x7A (R788). -/
def execAgu1GtU (p : BitVec 2) (x : BitVec 4) (s : State) : Res :=
  aguArith .agu1 p x (fun i => condOut (decide (u16 i.a > u16 i.t))) s

/-- agu1.LE_U, code 0x7B (R789). -/
def execAgu1LeU (p : BitVec 2) (x : BitVec 4) (s : State) : Res :=
  aguArith .agu1 p x (fun i => condOut (decide (u16 i.a ≤ u16 i.t))) s

/-- agu1.LT_U, code 0x7C (R790). -/
def execAgu1LtU (p : BitVec 2) (x : BitVec 4) (s : State) : Res :=
  aguArith .agu1 p x (fun i => condOut (decide (u16 i.a < u16 i.t))) s

/-- agu1.ADDLTU_A_M_L, code 0x7D (R791). -/
def execAgu1AddltuAML (p : BitVec 2) (x : BitVec 4) (s : State) : Res :=
  aguArith .agu1 p x
    (fun i => (unsignedOut true (u16 i.a + u16 i.m)).bound (decide (u16 i.a + u16 i.m < u16 i.l))) s

/-- agu1.SUBGTU_A_M, code 0x7E (R792). -/
def execAgu1SubgtuAM (p : BitVec 2) (x : BitVec 4) (s : State) : Res :=
  aguArith .agu1 p x
    (fun i => (unsignedOut true (u16 i.a - u16 i.m)).bound (decide (u16 i.a - u16 i.m > 0))) s

end Sys2Proof.Machine
end

