-- ==== Sys2Proof/Machine/FlowOps.lean ====
section
/-! DEFINITION. Operations shared by the FLOW meanings: movements (spec 46), condition stacks and predication
setting (spec 47), control transfers, loop, sleep and output lines (spec 48), PMU operations (spec 49). -/

namespace Sys2Proof.Machine

/-! ## Movements (R810 to R815) -/

/-- The class of a first-bank register as the source of a movement; none for RF and immediates. -/
def sameClass (src : Option MoveClass) (a : BitVec 7) : Bool :=
  match src with
  | some .flow => moveClass a == .flow
  | some .dma => moveClass a == .dma
  | _ => false

/-- A scalar movement (R812 to R814): `ok` answers a refusal the source field alone calls for, `val` the value,
`after` what reading the source changes. -/
def moveScalar (p : BitVec 2) (rfa7 : BitVec 9) (lat : Nat) (src : Option MoveClass) (bad : Option Refusal)
    (val : State → Word40) (after : State → State) (s : State) : Res :=
  if rfa7.getLsbD 8 then
    scalarGate (gateOf s p) s fun s =>
      match bad with
      | some r => .refused r
      | none => .next ((after s).later lat (.rf .p7 [(rfa7.setWidth 8, val s)]))
  else if !(gateOf s p).g then .next s
  else if rfa7.getLsbD 7 then .refused .transferType
  else
    match bad with
    | some r => .refused r
    | none =>
      let a : BitVec 7 := rfa7.setWidth 7
      if sameClass src a then .refused .movementClass
      else if a = 0x8 then .refused .movePc
      else .next ((after s).later lat (.move a (val s) (lat == 1)))

/-- A vector movement: an RF pair element by element, or the four fields of an ARF register. A disabled one is not looked at for
refused fields. DESIGN CHOICE (log 46). -/
def moveVector (p : BitVec 2) (rfa7 : BitVec 9) (lat : Nat) (bad : Option Refusal) (val : State → Word40 × Word40)
    (s : State) : Res :=
  let g := gateOf s p
  if rfa7.getLsbD 8 then
    if !g.c0 && !g.c1 then .next s
    else
      match bad with
      | some r => .refused r
      | none =>
        if !evenPair (rfa7.setWidth 8) then .refused .oddPair
        else .next (s.later lat (.rf .p7 (pairWrites g.c0 g.c1 (rfa7.setWidth 8) (val s).1 (val s).2)))
  else if !g.g then .next s
  else if rfa7.getLsbD 7 then .refused .transferType
  else
    match bad with
    | some r => .refused r
    | none =>
      match arfVector (rfa7.setWidth 7) with
      | none => .refused .vectorFirstBank
      | some k => .next (s.later lat (.moveArf k (val s).1 (val s).2))

/-- An immediate toward one register. -/
def moveImm (p : BitVec 2) (rfa7 : BitVec 9) (v : Word40) (s : State) : Res :=
  moveScalar p rfa7 1 none none (fun _ => v) id s

/-- The integer constants of immsic (R824) and the floating ones of immsfc (R825). -/
def constInt (sel : BitVec 2) : Word40 :=
  if sel = 0 then 1 else if sel = 1 then 0x00FFFFFFFF else if sel = 2 then 2 else 0x00FFFFFFFE
def constFloat (sel : BitVec 2) : Word40 :=
  if sel = 0 then 0x3F80000000 else if sel = 1 then 0xBF80000000 else if sel = 2 then 0x4000000000 else 0xC000000000

/-- movs (R831). -/
def moveFirst (p : BitVec 2) (rfa7 : BitVec 9) (src : BitVec 8) (s : State) : Res :=
  let a : BitVec 7 := src.setWidth 7
  moveScalar p rfa7 1 (some (moveClass a)) (if src.getLsbD 7 then some .movementClass else none)
    (fun s => (firstRead s a).setWidth 40) (readMark a) s

/-- movss (R834): a 16-bit ARF field, sign-extended to 32 bits, toward an RF register. -/
def moveSigned (p : BitVec 2) (rfa7 : BitVec 9) (src : BitVec 8) (s : State) : Res :=
  let ok := 0x24 ≤ src.toNat && src.toNat < 0x64 && rfa7.getLsbD 8
  moveScalar p rfa7 1 none (if ok then none else some .movementClass)
    (fun s => ((((arfRead s src.toNat).setWidth 16 : BitVec 16).signExtend 32)).setWidth 40) id s

/-- movv (R830): from the four fields of an ARF register. -/
def moveArfSource (p : BitVec 2) (rfa7 : BitVec 9) (src : BitVec 8) (s : State) : Res :=
  if src.getLsbD 7 then moveVector p rfa7 1 (some .movementClass) (fun _ => (0, 0)) s
  else
    match arfVector (src.setWidth 7) with
    | none => moveVector p rfa7 1 (some .vectorFirstBank) (fun _ => (0, 0)) s
    | some j => moveVector p rfa7 1 none (fun s => arfPair s j) s

/-! ## Guarded FLOW operations -/

/-- An operation predicated by G (R340). -/
def flowOp (p : BitVec 2) (f : State → Res) (s : State) : Res := if (gateOf s p).g then f s else .next s

/-! ## Condition stacks (R850 to R867) -/

def stack0 (s : State) : BitVec 16 := s.regs.stkiq.setWidth 16
def stack1 (s : State) : BitVec 16 := s.regs.stkiq.extractLsb' 16 16

/-- One stack after a push (R851). -/
def pushBit (st : BitVec 16) (b : Bool) : BitVec 16 := (st <<< 1) ||| flag 16 0 b
/-- One stack after a pop (R851). -/
def popBit (st : BitVec 16) : BitVec 16 := (st >>> 1) ||| (Config.stackPopFill.setWidth 16 <<< 15)

/-- A stack operation (R852): both stacks take new values for the next bundle. -/
def stackOp (p : BitVec 2) (f : State → BitVec 16 × BitVec 16) (s : State) : Res :=
  flowOp p (fun s => .next (s.later 1 (.stkiq ((f s).2 ++ (f s).1)))) s

def pushOpBits (p : BitVec 2) (f : State → Bool × Bool) (s : State) : Res :=
  stackOp p (fun s => (pushBit (stack0 s) (f s).1, pushBit (stack1 s) (f s).2)) s

/-- Replace the top of both stacks by a function of the first two elements. -/
def topOp (p : BitVec 2) (f : Bool → Bool → Bool) (s : State) : Res :=
  stackOp p (fun s =>
    let t := fun (st : BitVec 16) => putBit st 0 (f (st.getLsbD 0) (st.getLsbD 1))
    (t (stack0 s), t (stack1 s))) s

/-- Exchange the first two elements of a stack (R864). -/
def swapTop (st : BitVec 16) : BitVec 16 := putBit (putBit st 0 (st.getLsbD 1)) 1 (st.getLsbD 0)

/-! ## Predication setting (R870 to R880) -/

/-- setpred(p, c0, c1) (R870), visible to the next bundle (R871). -/
def setPredReg (r : Nat) (c0 c1 : Bool) (s : State) : Res :=
  let mode := (s.regs.pred.extractLsb' 12 3).toNat
  let b := 3 * r
  if 3 < mode then .refused .predmodeUndefined
  else
    let g := if mode = 0 then c0 else if mode = 1 then c0 || c1 else c0 && c1
    let mask := flag 16 b true ||| flag 16 (b + 1) true ||| flag 16 (b + 2) (mode != 3)
    .next (s.later 1 (.pred mask (flag 16 b c0 ||| flag 16 (b + 1) c1 ||| flag 16 (b + 2) g)))

/-- A predicated predicate-setting operation. -/
def predOp (pf r : BitVec 2) (f : State → Bool × Bool) (s : State) : Res :=
  flowOp pf (fun s => setPredReg r.toNat (f s).1 (f s).2 s) s

/-! ## Control (spec 48) -/

/-- jcond(jt) (R901); none where it refuses. -/
def jcond (s : State) (jt : BitVec 8) : Option Bool :=
  if jt = 0x00 then some true
  else if jt = 0x01 then some (s.regs.cond.getLsbD 10)
  else if jt = 0x02 then some (s.regs.cond.getLsbD 8)
  else if jt = 0x04 then some (s.regs.stkiq.getLsbD 0)
  else if jt = 0x08 then some (s.regs.cond.getLsbD 0)
  else if jt = 0x10 then some (s.regs.cond.getLsbD 4)
  else none

/-- A taken control transfer (R902). DESIGN CHOICE (log 19). -/
def transfer (t : BitVec 16) (s : State) : State := { s with npc := some t }

/-- An enabled interrupt service point (R903). -/
def servicePoint (s : State) : State := { s with svc := true }

/-- A conditional operation: `f` when the jump condition holds. -/
def jumpOp (p : BitVec 2) (jt : BitVec 8) (f : State → State) (after : State → State) (s : State) : Res :=
  flowOp p (fun s =>
    match jcond s jt with
    | none => .refused .jumpType
    | some c => .next (after (if c then f s else s))) s

/-- The link register takes the address after the call and its delay slots (R906, D28). -/
def link (s : State) : State := s.later 1 (.stk (s.regs.pc + 1 + BitVec.ofNat 16 Config.branchDelaySlots))

/-- Sleep near the end of a virtual page with the PMU on (R926, U22). -/
def sleepOk (s : State) : Bool := !(s.mode.pmuen && decide (0x3FC < (s.regs.pc.setWidth 10 : BitVec 10).toNat))

/-- writedma and readdma (R932, R933): wake-up on the channel's EOT, start, sleep, in this order. DEDUCED (log 24). -/
def dmaSleep (isRead : Bool) (s : State) : Res :=
  if !sleepOk s then .refused .sleepPageEnd
  else
    let c := s.dma.active
    let s1 := s.setInts (wakeCtrl (bitAt 24 (16 + 2 * c.toNat)) s.ints)
    andThen (dmaStart isRead c s1) fun s2 => .next (enterSleep s2)

/-- sirq (R930): a pulse, or the complement of a line's bit as it stands in this cycle. -/
def sirqLine (n : BitVec 2) (s : State) : State :=
  if n = 0 then s.emit .sirq0 else if n = 1 then s.emit .sirq1
  else
    let m : BitVec 16 := if n = 2 then bitAt 16 12 else bitAt 16 13
    s.later 1 (.cond m (~~~s.regs.cond))

/-- pmucmd (R982): nothing with the PMU off. -/
def pmuCommand (cmd : BitVec 2) (s : State) : Res :=
  if !s.mode.pmuen then .next s
  else if cmd = 1 then .next (pmuFix (pageOf s.regs.branch) true s)
  else if cmd = 2 then .next (pmuFix (pageOf s.regs.branch) false s)
  else .refused .pmuCommand

end Sys2Proof.Machine
end

