-- ==== Sys2Proof/Machine/FlowControl.lean ====
section
/-! DEFINITION. Meanings. FLOW control (spec 48). -/

namespace Sys2Proof.Machine

/-- br, code 0x26 (R904). -/
def execBr (p : BitVec 2) (jt : BitVec 8) (off : BitVec 16) (s : State) : Res :=
  jumpOp p jt (fun s => transfer (s.regs.pc + off) s) servicePoint s

/-- br_reg, code 0x27 (R905). -/
def execBrReg (p : BitVec 2) (jt : BitVec 8) (s : State) : Res :=
  jumpOp p jt (fun s => transfer s.regs.branch s) servicePoint s

/-- call, code 0x28 (R906). -/
def execCall (p : BitVec 2) (jt : BitVec 8) (off : BitVec 16) (s : State) : Res :=
  jumpOp p jt (fun s => link (transfer (s.regs.pc + off) s)) id s

/-- call_reg, code 0x29 (R907). -/
def execCallReg (p : BitVec 2) (jt : BitVec 8) (s : State) : Res :=
  jumpOp p jt (fun s => link (transfer s.regs.branch s)) id s

/-- ret, code 0x2C (R908). -/
def execRet (p : BitVec 2) (s : State) : Res :=
  flowOp p (fun s => .next (servicePoint (transfer s.regs.stk s))) s

/-- reti, code 0x2D (R909). -/
def execReti (p : BitVec 2) (s : State) : Res :=
  flowOp p (fun s => .next (returnFromInterrupt s)) s

/-- repb, code 0x37 (R912). -/
def execRepb (p : BitVec 2) (len : BitVec 16) (s : State) : Res :=
  flowOp p
    (fun s => .next (servicePoint (s.later 1 (.rept ((s.regs.pc + 3) ++ (s.regs.pc + len - 1 + 3)))))) s

/-- swpipe, code 0x3B (R920): MGCLOOPLEN is read in this cycle. -/
def execSwpipe (on : BitVec 1) (k : BitVec 3) (s : State) : Res :=
  if on = 1 && s.mode.interrupt then .refused .swpipeInIsr
  else
    let v := if on = 1 then s.regs.looplen + k.setWidth 32 else s.regs.looplen - k.setWidth 32
    .next (s.later 1 (.swpipe (on == 1) k v))

/-- watchint, code 0x1D (R925). -/
def execWatchint (p : BitVec 2) (s : State) : Res :=
  flowOp p (fun s => .next (servicePoint s)) s

/-- sleepon, code 0x1E (R926). -/
def execSleepon (p : BitVec 2) (s : State) : Res :=
  flowOp p (fun s => if sleepOk s then .next (enterSleep s) else .refused .sleepPageEnd) s

/-- sirq, code 0x1F (R930). -/
def execSirq (p n : BitVec 2) (s : State) : Res :=
  flowOp p (fun s => .next (sirqLine n s)) s

/-- halt, code 0x23 (R931). -/
def execHalt (p : BitVec 2) (s : State) : Res :=
  flowOp p (fun s => .next (s.setMode { s.mode with halt := true })) s

/-- writedma, code 0x24 (R932). -/
def execWritedma (p : BitVec 2) (s : State) : Res :=
  flowOp p (dmaSleep false) s

/-- readdma, code 0x38 (R933). -/
def execReaddma (p : BitVec 2) (s : State) : Res :=
  flowOp p (dmaSleep true) s

end Sys2Proof.Machine
end

