-- ==== Sys2Proof/Machine/FlowMove.lean ====
section
/-! DEFINITION. Meanings. FLOW register movements (spec 46). -/

namespace Sys2Proof.Machine

/-- immv, code 0x01 (R820). -/
def execImmv (p : BitVec 2) (rfa7 : BitVec 9) (immh imml : BitVec 40) (s : State) : Res :=
  moveVector p rfa7 1 none (fun _ => (imml, immh)) s

/-- immvc, code 0x02 (R821). -/
def execImmvc (p : BitVec 2) (rfa7 : BitVec 9) (imm : BitVec 40) (s : State) : Res :=
  moveVector p rfa7 1 none (fun _ => (imm, fneg imm)) s

/-- immsi, code 0x03 (R822). -/
def execImmsi (p : BitVec 2) (rfa7 : BitVec 9) (imm : BitVec 40) (s : State) : Res :=
  moveImm p rfa7 ((imm.setWidth 32).setWidth 40) s

/-- immsf, code 0x04 (R823). -/
def execImmsf (p : BitVec 2) (rfa7 : BitVec 9) (imm : BitVec 40) (s : State) : Res :=
  moveImm p rfa7 imm s

/-- immsic, code 0x05 (R824). -/
def execImmsic (p : BitVec 2) (rfa7 : BitVec 9) (sel : BitVec 2) (s : State) : Res :=
  moveImm p rfa7 (constInt sel) s

/-- immsfc, code 0x06 (R825). -/
def execImmsfc (p : BitVec 2) (rfa7 : BitVec 9) (sel : BitVec 2) (s : State) : Res :=
  moveImm p rfa7 (constFloat sel) s

/-- imm0v, code 0x07 (R826). -/
def execImm0v (p : BitVec 2) (rfa7 : BitVec 9) (s : State) : Res :=
  moveVector p rfa7 1 none (fun _ => (0, 0)) s

/-- imm0s, code 0x08 (R827). -/
def execImm0s (p : BitVec 2) (rfa7 : BitVec 9) (s : State) : Res :=
  moveImm p rfa7 0 s

/-- movv, code 0x09 (R830). -/
def execMovv (p : BitVec 2) (rfa7 : BitVec 9) (src : BitVec 8) (s : State) : Res :=
  moveArfSource p rfa7 src s

/-- movs, code 0x0A (R831). -/
def execMovs (p : BitVec 2) (rfa7 : BitVec 9) (src : BitVec 8) (s : State) : Res :=
  moveFirst p rfa7 src s

/-- movvf, code 0x0B (R832). An RF pair moves to an RF pair too (R813, R832), against the words of R574. DEDUCED (log 38). -/
def execMovvf (p : BitVec 2) (rfa7 : BitVec 9) (src : BitVec 8) (s : State) : Res :=
  moveVector p rfa7 3 (if evenPair src then none else some .oddPair) (fun s => pairAt s src) s

/-- movsf, code 0x0C (R833). RF to RF as for movvf. DEDUCED (log 38). -/
def execMovsf (p : BitVec 2) (rfa7 : BitVec 9) (src : BitVec 8) (s : State) : Res :=
  moveScalar p rfa7 3 none none (fun s => s.rfAt src) id s

/-- movss, code 0x0D (R834). -/
def execMovss (p : BitVec 2) (rfa7 : BitVec 9) (src : BitVec 8) (s : State) : Res :=
  moveSigned p rfa7 src s

end Sys2Proof.Machine
end

