-- ==== Sys2Proof/Machine/FlowPmu.lean ====
section
/-! DEFINITION. Meanings. FLOW operations of the PMU (spec 49 section 3). -/

namespace Sys2Proof.Machine

/-- prefetch_reg, code 0x2B (R980). -/
def execPrefetchReg (p : BitVec 2) (s : State) : Res :=
  flowOp p (fun s => .next (prefetchAt s.regs.branch s)) s

/-- prefetch_off, code 0x3A (R981). -/
def execPrefetchOff (p : BitVec 2) (off : BitVec 16) (s : State) : Res :=
  flowOp p (fun s => .next (prefetchAt (s.regs.pc + off) s)) s

/-- pmucmd, code 0x3D (R982). -/
def execPmucmd (p cmd : BitVec 2) (s : State) : Res :=
  flowOp p (pmuCommand cmd) s

end Sys2Proof.Machine
end

