-- ==== Sys2Proof/Machine/FlowPredicate.lean ====
section
/-! DEFINITION. Meanings. FLOW predication setting (spec 47 section 2). -/

namespace Sys2Proof.Machine

/-- clrp, code 0x2E (R872). -/
def execClrp (p r : BitVec 2) (s : State) : Res :=
  predOp p r (fun _ => (false, false)) s

/-- setp, code 0x2F (R873). -/
def execSetp (r : BitVec 2) (s : State) : Res :=
  setPredReg r.toNat true true s

/-- setpv, code 0x30 (R874). -/
def execSetpv (r imm : BitVec 2) (s : State) : Res :=
  setPredReg r.toNat (imm.getLsbD 0) (imm.getLsbD 1) s

/-- settop, code 0x31 (R875). -/
def execSettop (p r : BitVec 2) (s : State) : Res :=
  predOp p r (fun s => ((stack0 s).getLsbD 0, (stack1 s).getLsbD 0)) s

/-- setop, code 0x32 (R876). -/
def execSetop (p r : BitVec 2) (s : State) : Res :=
  predOp p r (fun s => (fpucond s false, fpucond s true)) s

/-- setagu0, code 0x33 (R877). -/
def execSetagu0 (p r : BitVec 2) (s : State) : Res :=
  predOp p r (fun s => (s.regs.cond.getLsbD 0, s.regs.cond.getLsbD 0)) s

/-- setagu1, code 0x34 (R878). -/
def execSetagu1 (p r : BitVec 2) (s : State) : Res :=
  predOp p r (fun s => (s.regs.cond.getLsbD 4, s.regs.cond.getLsbD 4)) s

/-- setnotp, code 0x35 (R879). -/
def execSetnotp (p r : BitVec 2) (s : State) : Res :=
  flowOp p
    (fun s => if r = 3 then .refused .setnotpRegister else setPredReg (r.toNat + 1) (!(predReg s r).c0) (!(predReg s r).c1) s) s

/-- setnot, code 0x36 (R880). -/
def execSetnot (p r : BitVec 2) (s : State) : Res :=
  predOp p r (fun s => (!(predReg s r).c0, !(predReg s r).c1)) s

end Sys2Proof.Machine
end

