-- ==== Sys2Proof/Machine/FlowStack.lean ====
section
/-! DEFINITION. Meanings. FLOW condition stacks (spec 47 section 1). -/

namespace Sys2Proof.Machine

/-- push_op, code 0x0E (R853). -/
def execPushOp (p : BitVec 2) (s : State) : Res :=
  pushOpBits p (fun s => (fpucond s false, fpucond s true)) s

/-- push_agu0, code 0x0F (R854). -/
def execPushAgu0 (p : BitVec 2) (s : State) : Res :=
  pushOpBits p (fun s => (s.regs.cond.getLsbD 0, s.regs.cond.getLsbD 0)) s

/-- push_agu1, code 0x10 (R855). -/
def execPushAgu1 (p : BitVec 2) (s : State) : Res :=
  pushOpBits p (fun s => (s.regs.cond.getLsbD 4, s.regs.cond.getLsbD 4)) s

/-- pop, code 0x11 (R856). -/
def execPop (p : BitVec 2) (s : State) : Res :=
  stackOp p (fun s => (popBit (stack0 s), popBit (stack1 s))) s

/-- true, code 0x12 (R857). -/
def execFlowTrue (p : BitVec 2) (s : State) : Res :=
  pushOpBits p (fun _ => (true, true)) s

/-- false, code 0x13 (R858). -/
def execFlowFalse (p : BitVec 2) (s : State) : Res :=
  pushOpBits p (fun _ => (false, false)) s

/-- fsnot, code 0x14 (R859). -/
def execFsnot (p : BitVec 2) (s : State) : Res :=
  topOp p (fun a _ => !a) s

/-- fsand, code 0x15 (R860). -/
def execFsand (p : BitVec 2) (s : State) : Res :=
  topOp p (fun a b => a && b) s

/-- fsor, code 0x16 (R861). -/
def execFsor (p : BitVec 2) (s : State) : Res :=
  topOp p (fun a b => a || b) s

/-- fsxor, code 0x17 (R862). -/
def execFsxor (p : BitVec 2) (s : State) : Res :=
  topOp p (fun a b => a ^^ b) s

/-- repush, code 0x18 (R863). -/
def execRepush (p : BitVec 2) (s : State) : Res :=
  pushOpBits p (fun s => ((stack0 s).getLsbD 0, (stack1 s).getLsbD 0)) s

/-- fsswap, code 0x19 (R864). -/
def execFsswap (p : BitVec 2) (s : State) : Res :=
  stackOp p (fun s => (swapTop (stack0 s), swapTop (stack1 s))) s

/-- fsand2, code 0x1A (R865). -/
def execFsand2 (p : BitVec 2) (s : State) : Res :=
  pushOpBits p
    (fun s => ((stack0 s).getLsbD 0 && (stack0 s).getLsbD 1, (stack1 s).getLsbD 0 && (stack1 s).getLsbD 1)) s

/-- fsi2q, code 0x1B (R866). -/
def execFsi2q (p : BitVec 2) (s : State) : Res :=
  pushOpBits p (fun s => ((stack0 s).getLsbD 0, (stack0 s).getLsbD 0)) s

/-- fsq2i, code 0x1C (R867). -/
def execFsq2i (p : BitVec 2) (s : State) : Res :=
  pushOpBits p (fun s => ((stack1 s).getLsbD 0, (stack1 s).getLsbD 0)) s

end Sys2Proof.Machine
end

