-- ==== Sys2Proof/Machine/MulOps.lean ====
section
/-! DEFINITION. Operations shared by the MUL issue's meanings (spec 42): products (R523, R524), shifts and bit
manipulation (R527, R528), seeds (R580), one- and two-source forms. -/

namespace Sys2Proof.Machine

/-! ## Elements -/

def elFmul (nb : Bool) : Elem := fun _ _ a b => fmul a (fsign nb b)
def elImul (nb : Bool) : Elem := fun s o a b => withMsb o a (intVal s (imul32 a nb b))

/-- Rotation of a 40-bit datum left by n (R527). -/
def rotl40 (d : Word40) (n : Nat) : Word40 := d.rotateLeft (n % 40)

/-- The bit position a search returns: the highest or lowest i in 31..0 whose bit is `b` (R527). -/
def encodeBit (w : BitVec 32) (b fromRight : Bool) : Nat :=
  let order := if fromRight then List.range 32 else (List.range 32).reverse
  match order.find? (fun i => w.getLsbD i == b) with
  | some i => i
  | none => Config.encodeNotFound.toNat

/-- shift(d, c) (R527). -/
def shift (d : Word40) (c : BitVec 8) : Word40 :=
  let w : BitVec 32 := d.setWidth 32
  let n := (c.setWidth 5 : BitVec 5).toNat
  if c.getLsbD 7 then
    if c.getLsbD 6 then
      if c.getLsbD 5 then BitVec.ofNat 40 (encodeBit w (c.getLsbD 0) (c.getLsbD 1))
      else (w.rotateLeft n).setWidth 40
    else if c.getLsbD 5 then (w >>> n).setWidth 40
    else ((w <<< n) ||| BitVec.ofNat 32 (2 ^ n - 1)).setWidth 40
  else if c.getLsbD 6 then rotl40 d (c.setWidth 6 : BitVec 6).toNat
  else if c.getLsbD 5 then (w.sshiftRight n).setWidth 40
  else ((w &&& 0x80000000) ||| ((w <<< n) &&& 0x7FFFFFFF)).setWidth 40

/-- shift of S1 by the type in S2, joined to the 32-bit mask by `j` (R562 to R565). -/
def elShift (j : Word40 → Word40 → Word40) : Elem := fun _ _ a b =>
  (j (shift a (b.extractLsb' 32 8)) ((b.setWidth 32).setWidth 40), Ev.none)

/-- The bit S2[37:32] selects of a 40-bit datum; none above 39 (R528). -/
def bitMask (b : Word40) : Word40 := (1 : Word40) <<< (b.extractLsb' 32 6).toNat

def elBitset : Elem := fun _ _ a b => (a ||| bitMask b, Ev.none)
def elBitclr : Elem := fun _ _ a b => (a &&& ~~~(bitMask b), Ev.none)
def elBittgl : Elem := fun _ _ a b => (a ^^^ bitMask b, Ev.none)
def elBittst : Elem := fun _ _ a b => (if a &&& bitMask b = 0 then 0 else 1, Ev.none)

/-- A primitive on one source: of what the destination holds (INT_RESULT_MSB) and of the operand. -/
abbrev Elem1 := Word40 → Word40 → Val

def elFtoi : Elem1 := fun o a => withMsb o a (ftoi a)
def elItof : Elem1 := fun _ a => (itof a, Ev.none)
def elCopy : Elem1 := fun _ a => (a, Ev.none)

/-- A seed (R580): the word and the flags are open, but a zero divides by zero, and a NaN operand (for the square
root also a negative non-zero one) is invalid and gives a NaN. DESIGN CHOICE (log 6). -/
def seedVal (root : Bool) (seed : Word40 → Word40) (fl : Word40 → BitVec 5) : Word40 → Val := fun a =>
  let f := fl a
  let bad := match fpDecode a with
    | .nan => true
    | .inf s => root && s
    | .num s m _ => root && s && m != 0
  let zero := match fpDecode a with
    | .num _ m _ => m == 0
    | _ => false
  (if bad then nanWord else seed a,
    { inex := f.getLsbD 0, udf := f.getLsbD 1, ovf := f.getLsbD 2, dz := f.getLsbD 3 || zero,
      inop := f.getLsbD 4 || bad })

def elInvSeed : Word40 → Val := seedVal false Config.invSeed Config.invSeedFlags
def elInvSqrtSeed : Word40 → Val := seedVal true Config.invSqrtSeed Config.invSqrtSeedFlags

/-! ## Forms -/

/-- One result over pairs, elements on their own. -/
def mulPair (p : BitVec 2) (d s1 s2 : BitVec 8) (u : Unit2) (f : Elem) (s : State) : Res :=
  pairOp .mul Config.mulDelay p [d, s1, s2]
    (fun s =>
      let r0 := f s (pairAt s d).1 (pairAt s s1).1 (pairAt s s2).1
      let r1 := f s (pairAt s d).2 (pairAt s s1).2 (pairAt s s2).2
      { d := d, e0 := r0.1, e1 := r1.1, f0 := flagWord u r0.2, f1 := flagWord u r1.2 }) s

def mulScalar (p : BitVec 2) (d s1 s2 : BitVec 8) (u : Unit2) (f : Elem) (s : State) : Res :=
  scalarOp .mul Config.mulDelay p
    (fun s =>
      let r := f s (s.rfAt d) (s.rfAt s1) (s.rfAt s2)
      { d := d, v := r.1, f := flagWord u r.2 }) s

/-- A complex by a real operand (R536, R544): S2 is a single register. -/
def mulReal (p : BitVec 2) (d s1 s2 : BitVec 8) (f : Elem) (s : State) : Res :=
  pairOp .mul Config.complexMulDelay p [d, s1]
    (fun s =>
      let r0 := f s (pairAt s d).1 (pairAt s s1).1 (s.rfAt s2)
      let r1 := f s (pairAt s d).2 (pairAt s s1).2 (s.rfAt s2)
      { d := d, e0 := r0.1, e1 := r1.1, f0 := flagWord .mul1 r0.2, f1 := flagWord .mul1 r1.2 }) s

/-- A complex product (R524): the four products by `m`, combined by `c0` (P_rr with P_ii) and `c1` (P_ir with P_ri). -/
def mulComplex (p : BitVec 2) (d s1 s2 : BitVec 8) (m c0 c1 : Elem) (s : State) : Res :=
  pairOp .mul Config.complexMulDelay p [d, s1, s2]
    (fun s =>
      let a := pairAt s s1
      let b := pairAt s s2
      let o := pairAt s d
      let rr := m s o.1 a.1 b.1
      let ii := m s o.1 a.2 b.2
      let ir := m s o.2 a.2 b.1
      let ri := m s o.2 b.2 a.1
      let x := c0 s o.1 rr.1 ii.1
      let y := c1 s o.2 ir.1 ri.1
      { d := d, e0 := x.1, e1 := y.1,
        f0 := flagWord .mul1 rr.2 ||| flagWord .mul2 ii.2 ||| flagWord .add2 x.2,
        f1 := flagWord .mul1 ir.2 ||| flagWord .mul2 ri.2 ||| flagWord .add2 y.2 }) s

/-- One source over a pair. -/
def mulPair1 (p : BitVec 2) (d s1 : BitVec 8) (u : Unit2) (f : Elem1) (s : State) : Res :=
  pairOp .mul Config.mulDelay p [d, s1]
    (fun s =>
      let r0 := f (pairAt s d).1 (pairAt s s1).1
      let r1 := f (pairAt s d).2 (pairAt s s1).2
      { d := d, e0 := r0.1, e1 := r1.1, f0 := flagWord u r0.2, f1 := flagWord u r1.2 }) s

def mulScalar1 (p : BitVec 2) (d s1 : BitVec 8) (u : Unit2) (f : Elem1) (s : State) : Res :=
  scalarOp .mul Config.mulDelay p
    (fun s =>
      let r := f (s.rfAt d) (s.rfAt s1)
      { d := d, v := r.1, f := flagWord u r.2 }) s

end Sys2Proof.Machine
end

