-- ==== Sys2Proof/Machine/MulConvert.lean ====
section
/-! DEFINITION. Meanings. MUL issue: conversions, moves, seeds, NOP (spec 42 R570 to R585). -/

namespace Sys2Proof.Machine

/-- VFTOI D S1, code 0x40 (R570). -/
def execVftoi (p : BitVec 2) (d s1 : BitVec 8) (s : State) : Res :=
  mulPair1 p d s1 .conv elFtoi s

/-- VITOF D S1, code 0x41 (R571). -/
def execVitof (p : BitVec 2) (d s1 : BitVec 8) (s : State) : Res :=
  mulPair1 p d s1 .conv elItof s

/-- FTOI D S1, code 0x42 (R572). -/
def execFtoi (p : BitVec 2) (d s1 : BitVec 8) (s : State) : Res :=
  mulScalar1 p d s1 .conv elFtoi s

/-- ITOF D S1, code 0x43 (R573). -/
def execItof (p : BitVec 2) (d s1 : BitVec 8) (s : State) : Res :=
  mulScalar1 p d s1 .conv elItof s

/-- VRF2RF D S1, code 0x44 (R574). -/
def execVrf2rf (p : BitVec 2) (d s1 : BitVec 8) (s : State) : Res :=
  mulPair1 p d s1 .conv elCopy s

/-- RF2RF D S1, code 0x45 (R575). -/
def execRf2rf (p : BitVec 2) (d s1 : BitVec 8) (s : State) : Res :=
  mulScalar1 p d s1 .conv elCopy s

/-- INVSEED D S1, code 0x46 (R581). -/
def execInvseed (p : BitVec 2) (d s1 : BitVec 8) (s : State) : Res :=
  mulScalar1 p d s1 .div (fun _ => elInvSeed) s

/-- INVSQRTSEED D S1, code 0x47 (R582). -/
def execInvsqrtseed (p : BitVec 2) (d s1 : BitVec 8) (s : State) : Res :=
  mulScalar1 p d s1 .div (fun _ => elInvSqrtSeed) s

/-- VINVSEED D S1, code 0x48 (R583). -/
def execVinvseed (p : BitVec 2) (d s1 : BitVec 8) (s : State) : Res :=
  mulPair1 p d s1 .div (fun _ => elInvSeed) s

/-- VINVSQRTSEED D S1, code 0x49 (R584). -/
def execVinvsqrtseed (p : BitVec 2) (d s1 : BitVec 8) (s : State) : Res :=
  mulPair1 p d s1 .div (fun _ => elInvSqrtSeed) s

/-- NOP, code 0x7F (R585). -/
def execMulNop (_p : BitVec 2) (s : State) : Res :=
  .next s

end Sys2Proof.Machine
end

