-- ==== Sys2Proof/Machine/MulProduct.lean ====
section
/-! DEFINITION. Meanings. MUL issue: products (spec 42 R530 to R553). -/

namespace Sys2Proof.Machine

/-- CFMUL D S1 S2, code 0x00 (R530). -/
def execCfmulP (p : BitVec 2) (d s1 s2 : BitVec 8) (s : State) : Res :=
  mulComplex p d s1 s2 (elFmul false) (elFadd false true) (elFadd false false) s

/-- CFMUL D S1 -S2, code 0x01 (R531). -/
def execCfmulN (p : BitVec 2) (d s1 s2 : BitVec 8) (s : State) : Res :=
  mulComplex p d s1 s2 (elFmul false) (elFadd true false) (elFadd true true) s

/-- CFJMUL D S1 S2, code 0x02 (R532). -/
def execCfjmulP (p : BitVec 2) (d s1 s2 : BitVec 8) (s : State) : Res :=
  mulComplex p d s1 s2 (elFmul false) (elFadd false false) (elFadd false true) s

/-- CFJMUL D S1 -S2, code 0x03 (R533). -/
def execCfjmulN (p : BitVec 2) (d s1 s2 : BitVec 8) (s : State) : Res :=
  mulComplex p d s1 s2 (elFmul false) (elFadd true true) (elFadd true false) s

/-- CFJMMUL D S1 S2, code 0x04 (R534). -/
def execCfjmmulP (p : BitVec 2) (d s1 s2 : BitVec 8) (s : State) : Res :=
  mulComplex p d s1 s2 (elFmul false) (elFadd false true) (elFadd true true) s

/-- CFJMMUL D S1 -S2, code 0x05 (R535). -/
def execCfjmmulN (p : BitVec 2) (d s1 s2 : BitVec 8) (s : State) : Res :=
  mulComplex p d s1 s2 (elFmul false) (elFadd true false) (elFadd false false) s

/-- CFRMUL D S1 S2, code 0x06 (R536). -/
def execCfrmulP (p : BitVec 2) (d s1 s2 : BitVec 8) (s : State) : Res :=
  mulReal p d s1 s2 (elFmul false) s

/-- CFRMUL D S1 -S2, code 0x07 (R537). -/
def execCfrmulN (p : BitVec 2) (d s1 s2 : BitVec 8) (s : State) : Res :=
  mulReal p d s1 s2 (elFmul true) s

/-- CIMUL D S1 S2, code 0x08 (R538). -/
def execCimulP (p : BitVec 2) (d s1 s2 : BitVec 8) (s : State) : Res :=
  mulComplex p d s1 s2 (elImul false) (elIadd false true) (elIadd false false) s

/-- CIMUL D S1 -S2, code 0x09 (R539). -/
def execCimulN (p : BitVec 2) (d s1 s2 : BitVec 8) (s : State) : Res :=
  mulComplex p d s1 s2 (elImul false) (elIadd true false) (elIadd true true) s

/-- CIJMUL D S1 S2, code 0x0A (R540). -/
def execCijmulP (p : BitVec 2) (d s1 s2 : BitVec 8) (s : State) : Res :=
  mulComplex p d s1 s2 (elImul false) (elIadd false false) (elIadd false true) s

/-- CIJMUL D S1 -S2, code 0x0B (R541). -/
def execCijmulN (p : BitVec 2) (d s1 s2 : BitVec 8) (s : State) : Res :=
  mulComplex p d s1 s2 (elImul false) (elIadd true true) (elIadd true false) s

/-- CIJMMUL D S1 S2, code 0x0C (R542). -/
def execCijmmulP (p : BitVec 2) (d s1 s2 : BitVec 8) (s : State) : Res :=
  mulComplex p d s1 s2 (elImul false) (elIadd false true) (elIadd true true) s

/-- CIJMMUL D S1 -S2, code 0x0D (R543). -/
def execCijmmulN (p : BitVec 2) (d s1 s2 : BitVec 8) (s : State) : Res :=
  mulComplex p d s1 s2 (elImul false) (elIadd true false) (elIadd false false) s

/-- CIRMUL D S1 S2, code 0x0E (R544). -/
def execCirmulP (p : BitVec 2) (d s1 s2 : BitVec 8) (s : State) : Res :=
  mulReal p d s1 s2 (elImul false) s

/-- CIRMUL D S1 -S2, code 0x0F (R545). -/
def execCirmulN (p : BitVec 2) (d s1 s2 : BitVec 8) (s : State) : Res :=
  mulReal p d s1 s2 (elImul true) s

/-- VFMUL D S1 S2, code 0x20 (R546). -/
def execVfmulP (p : BitVec 2) (d s1 s2 : BitVec 8) (s : State) : Res :=
  mulPair p d s1 s2 .mul1 (elFmul false) s

/-- VFMUL D S1 -S2, code 0x21 (R547). -/
def execVfmulN (p : BitVec 2) (d s1 s2 : BitVec 8) (s : State) : Res :=
  mulPair p d s1 s2 .mul1 (elFmul true) s

/-- VIMUL D S1 S2, code 0x22 (R548). -/
def execVimulP (p : BitVec 2) (d s1 s2 : BitVec 8) (s : State) : Res :=
  mulPair p d s1 s2 .mul1 (elImul false) s

/-- VIMUL D S1 -S2, code 0x23 (R549). -/
def execVimulN (p : BitVec 2) (d s1 s2 : BitVec 8) (s : State) : Res :=
  mulPair p d s1 s2 .mul1 (elImul true) s

/-- FMUL D S1 S2, code 0x28 (R550). -/
def execFmulP (p : BitVec 2) (d s1 s2 : BitVec 8) (s : State) : Res :=
  mulScalar p d s1 s2 .mul1 (elFmul false) s

/-- FMUL D S1 -S2, code 0x29 (R551). -/
def execFmulN (p : BitVec 2) (d s1 s2 : BitVec 8) (s : State) : Res :=
  mulScalar p d s1 s2 .mul1 (elFmul true) s

/-- IMUL D S1 S2, code 0x2A (R552). -/
def execImulP (p : BitVec 2) (d s1 s2 : BitVec 8) (s : State) : Res :=
  mulScalar p d s1 s2 .mul1 (elImul false) s

/-- IMUL D S1 -S2, code 0x2B (R553). -/
def execImulN (p : BitVec 2) (d s1 s2 : BitVec 8) (s : State) : Res :=
  mulScalar p d s1 s2 .mul1 (elImul true) s

end Sys2Proof.Machine
end

