-- ==== Sys2Proof/Machine/MulShift.lean ====
section
/-! DEFINITION. Meanings. MUL issue: shifts and bit manipulation (spec 42 R554 to R569). -/

namespace Sys2Proof.Machine

/-- VSH D S1 S2, code 0x30 (R554). -/
def execVsh (p : BitVec 2) (d s1 s2 : BitVec 8) (s : State) : Res :=
  mulPair p d s1 s2 .mul1 (elShift (fun x _ => x)) s

/-- VSHAND D S1 S2, code 0x31 (R555). -/
def execVshand (p : BitVec 2) (d s1 s2 : BitVec 8) (s : State) : Res :=
  mulPair p d s1 s2 .mul1 (elShift (fun x y => x &&& y)) s

/-- VSHOR D S1 S2, code 0x32 (R556). -/
def execVshor (p : BitVec 2) (d s1 s2 : BitVec 8) (s : State) : Res :=
  mulPair p d s1 s2 .mul1 (elShift (fun x y => x ||| y)) s

/-- VSHXOR D S1 S2, code 0x33 (R557). -/
def execVshxor (p : BitVec 2) (d s1 s2 : BitVec 8) (s : State) : Res :=
  mulPair p d s1 s2 .mul1 (elShift (fun x y => x ^^^ y)) s

/-- VBITSET D S1 S2, code 0x34 (R558). -/
def execVbitset (p : BitVec 2) (d s1 s2 : BitVec 8) (s : State) : Res :=
  mulPair p d s1 s2 .mul1 elBitset s

/-- VBITCLR D S1 S2, code 0x35 (R559). -/
def execVbitclr (p : BitVec 2) (d s1 s2 : BitVec 8) (s : State) : Res :=
  mulPair p d s1 s2 .mul1 elBitclr s

/-- VBITTGL D S1 S2, code 0x36 (R560). -/
def execVbittgl (p : BitVec 2) (d s1 s2 : BitVec 8) (s : State) : Res :=
  mulPair p d s1 s2 .mul1 elBittgl s

/-- VBITTST D S1 S2, code 0x37 (R561). -/
def execVbittst (p : BitVec 2) (d s1 s2 : BitVec 8) (s : State) : Res :=
  mulPair p d s1 s2 .mul1 elBittst s

/-- SH D S1 S2, code 0x38 (R562). -/
def execSh (p : BitVec 2) (d s1 s2 : BitVec 8) (s : State) : Res :=
  mulScalar p d s1 s2 .mul1 (elShift (fun x _ => x)) s

/-- SHAND D S1 S2, code 0x39 (R563). -/
def execShand (p : BitVec 2) (d s1 s2 : BitVec 8) (s : State) : Res :=
  mulScalar p d s1 s2 .mul1 (elShift (fun x y => x &&& y)) s

/-- SHOR D S1 S2, code 0x3A (R564). -/
def execShor (p : BitVec 2) (d s1 s2 : BitVec 8) (s : State) : Res :=
  mulScalar p d s1 s2 .mul1 (elShift (fun x y => x ||| y)) s

/-- SHXOR D S1 S2, code 0x3B (R565). -/
def execShxor (p : BitVec 2) (d s1 s2 : BitVec 8) (s : State) : Res :=
  mulScalar p d s1 s2 .mul1 (elShift (fun x y => x ^^^ y)) s

/-- BITSET D S1 S2, code 0x3C (R566). -/
def execBitset (p : BitVec 2) (d s1 s2 : BitVec 8) (s : State) : Res :=
  mulScalar p d s1 s2 .mul1 elBitset s

/-- BITCLR D S1 S2, code 0x3D (R567). -/
def execBitclr (p : BitVec 2) (d s1 s2 : BitVec 8) (s : State) : Res :=
  mulScalar p d s1 s2 .mul1 elBitclr s

/-- BITTGL D S1 S2, code 0x3E (R568). -/
def execBittgl (p : BitVec 2) (d s1 s2 : BitVec 8) (s : State) : Res :=
  mulScalar p d s1 s2 .mul1 elBittgl s

/-- BITTST D S1 S2, code 0x3F (R569). -/
def execBittst (p : BitVec 2) (d s1 s2 : BitVec 8) (s : State) : Res :=
  mulScalar p d s1 s2 .mul1 elBittst s

end Sys2Proof.Machine
end

