-- ==== Sys2Proof/Machine/Dispatch.lean ====
section
/-! DEFINITION. One arm per instruction. -/

namespace Sys2Proof.Machine

def exec (i : Instr) (s : State) : Host.Outcome State Fault Refusal :=
  match i with
  | .cfaddPP p d s1 s2 => Sys2Proof.Machine.execCfaddPP p d s1 s2 s
  | .cfaddPN p d s1 s2 => Sys2Proof.Machine.execCfaddPN p d s1 s2 s
  | .cfaddNN p d s1 s2 => Sys2Proof.Machine.execCfaddNN p d s1 s2 s
  | .cfaddNP p d s1 s2 => Sys2Proof.Machine.execCfaddNP p d s1 s2 s
  | .cfjaddPP p d s1 s2 => Sys2Proof.Machine.execCfjaddPP p d s1 s2 s
  | .cfjaddPN p d s1 s2 => Sys2Proof.Machine.execCfjaddPN p d s1 s2 s
  | .cfjaddNN p d s1 s2 => Sys2Proof.Machine.execCfjaddNN p d s1 s2 s
  | .cfjaddNP p d s1 s2 => Sys2Proof.Machine.execCfjaddNP p d s1 s2 s
  | .cjjaddPP p d s1 s2 => Sys2Proof.Machine.execCjjaddPP p d s1 s2 s
  | .cjjaddPN p d s1 s2 => Sys2Proof.Machine.execCjjaddPN p d s1 s2 s
  | .cjjaddNN p d s1 s2 => Sys2Proof.Machine.execCjjaddNN p d s1 s2 s
  | .cjjaddNP p d s1 s2 => Sys2Proof.Machine.execCjjaddNP p d s1 s2 s
  | .cfraddPP p d s1 s2 => Sys2Proof.Machine.execCfraddPP p d s1 s2 s
  | .cfraddPN p d s1 s2 => Sys2Proof.Machine.execCfraddPN p d s1 s2 s
  | .cfraddNN p d s1 s2 => Sys2Proof.Machine.execCfraddNN p d s1 s2 s
  | .cfraddNP p d s1 s2 => Sys2Proof.Machine.execCfraddNP p d s1 s2 s
  | .ciaddPP p d s1 s2 => Sys2Proof.Machine.execCiaddPP p d s1 s2 s
  | .ciaddPN p d s1 s2 => Sys2Proof.Machine.execCiaddPN p d s1 s2 s
  | .ciaddNN p d s1 s2 => Sys2Proof.Machine.execCiaddNN p d s1 s2 s
  | .ciaddNP p d s1 s2 => Sys2Proof.Machine.execCiaddNP p d s1 s2 s
  | .cijaddPP p d s1 s2 => Sys2Proof.Machine.execCijaddPP p d s1 s2 s
  | .cijaddPN p d s1 s2 => Sys2Proof.Machine.execCijaddPN p d s1 s2 s
  | .cijaddNN p d s1 s2 => Sys2Proof.Machine.execCijaddNN p d s1 s2 s
  | .cijaddNP p d s1 s2 => Sys2Proof.Machine.execCijaddNP p d s1 s2 s
  | .cijjaddPP p d s1 s2 => Sys2Proof.Machine.execCijjaddPP p d s1 s2 s
  | .cijjaddPN p d s1 s2 => Sys2Proof.Machine.execCijjaddPN p d s1 s2 s
  | .cijjaddNN p d s1 s2 => Sys2Proof.Machine.execCijjaddNN p d s1 s2 s
  | .cijjaddNP p d s1 s2 => Sys2Proof.Machine.execCijjaddNP p d s1 s2 s
  | .ciraddPP p d s1 s2 => Sys2Proof.Machine.execCiraddPP p d s1 s2 s
  | .ciraddPN p d s1 s2 => Sys2Proof.Machine.execCiraddPN p d s1 s2 s
  | .ciraddNN p d s1 s2 => Sys2Proof.Machine.execCiraddNN p d s1 s2 s
  | .ciraddNP p d s1 s2 => Sys2Proof.Machine.execCiraddNP p d s1 s2 s
  | .vfabsaddPP p d s1 s2 => Sys2Proof.Machine.execVfabsaddPP p d s1 s2 s
  | .vfabsaddPN p d s1 s2 => Sys2Proof.Machine.execVfabsaddPN p d s1 s2 s
  | .vfabsaddNN p d s1 s2 => Sys2Proof.Machine.execVfabsaddNN p d s1 s2 s
  | .vfabsaddNP p d s1 s2 => Sys2Proof.Machine.execVfabsaddNP p d s1 s2 s
  | .viabsaddPP p d s1 s2 => Sys2Proof.Machine.execViabsaddPP p d s1 s2 s
  | .viabsaddPN p d s1 s2 => Sys2Proof.Machine.execViabsaddPN p d s1 s2 s
  | .viabsaddNN p d s1 s2 => Sys2Proof.Machine.execViabsaddNN p d s1 s2 s
  | .viabsaddNP p d s1 s2 => Sys2Proof.Machine.execViabsaddNP p d s1 s2 s
  | .vfaddsub p d1 d2 s1 s2 => Sys2Proof.Machine.execVfaddsub p d1 d2 s1 s2 s
  | .faddPP p d s1 s2 => Sys2Proof.Machine.execFaddPP p d s1 s2 s
  | .faddPN p d s1 s2 => Sys2Proof.Machine.execFaddPN p d s1 s2 s
  | .faddNN p d s1 s2 => Sys2Proof.Machine.execFaddNN p d s1 s2 s
  | .faddNP p d s1 s2 => Sys2Proof.Machine.execFaddNP p d s1 s2 s
  | .faddsub p d1 d2 s1 s2 => Sys2Proof.Machine.execFaddsub p d1 d2 s1 s2 s
  | .iaddPP p d s1 s2 => Sys2Proof.Machine.execIaddPP p d s1 s2 s
  | .iaddPN p d s1 s2 => Sys2Proof.Machine.execIaddPN p d s1 s2 s
  | .iaddNN p d s1 s2 => Sys2Proof.Machine.execIaddNN p d s1 s2 s
  | .iaddNP p d s1 s2 => Sys2Proof.Machine.execIaddNP p d s1 s2 s
  | .iaddsub p d1 d2 s1 s2 => Sys2Proof.Machine.execIaddsub p d1 d2 s1 s2 s
  | .fabsaddPP p d s1 s2 => Sys2Proof.Machine.execFabsaddPP p d s1 s2 s
  | .fabsaddPN p d s1 s2 => Sys2Proof.Machine.execFabsaddPN p d s1 s2 s
  | .fabsaddNN p d s1 s2 => Sys2Proof.Machine.execFabsaddNN p d s1 s2 s
  | .fabsaddNP p d s1 s2 => Sys2Proof.Machine.execFabsaddNP p d s1 s2 s
  | .iabsaddPP p d s1 s2 => Sys2Proof.Machine.execIabsaddPP p d s1 s2 s
  | .iabsaddPN p d s1 s2 => Sys2Proof.Machine.execIabsaddPN p d s1 s2 s
  | .iabsaddNN p d s1 s2 => Sys2Proof.Machine.execIabsaddNN p d s1 s2 s
  | .iabsaddNP p d s1 s2 => Sys2Proof.Machine.execIabsaddNP p d s1 s2 s
  | .vfmin p d s1 s2 => Sys2Proof.Machine.execVfmin p d s1 s2 s
  | .vimin p d s1 s2 => Sys2Proof.Machine.execVimin p d s1 s2 s
  | .vfmax p d s1 s2 => Sys2Proof.Machine.execVfmax p d s1 s2 s
  | .vimax p d s1 s2 => Sys2Proof.Machine.execVimax p d s1 s2 s
  | .vfminmax p d1 d2 s1 s2 => Sys2Proof.Machine.execVfminmax p d1 d2 s1 s2 s
  | .viminmax p d1 d2 s1 s2 => Sys2Proof.Machine.execViminmax p d1 d2 s1 s2 s
  | .vswap p d1 d2 s1 s2 => Sys2Proof.Machine.execVswap p d1 d2 s1 s2 s
  | .fmin p d s1 s2 => Sys2Proof.Machine.execFmin p d s1 s2 s
  | .imin p d s1 s2 => Sys2Proof.Machine.execImin p d s1 s2 s
  | .fmax p d s1 s2 => Sys2Proof.Machine.execFmax p d s1 s2 s
  | .imax p d s1 s2 => Sys2Proof.Machine.execImax p d s1 s2 s
  | .fminmax p d1 d2 s1 s2 => Sys2Proof.Machine.execFminmax p d1 d2 s1 s2 s
  | .iminmax p d1 d2 s1 s2 => Sys2Proof.Machine.execIminmax p d1 d2 s1 s2 s
  | .fsel p d s1 s2 => Sys2Proof.Machine.execFsel p d s1 s2 s
  | .isel p d s1 s2 => Sys2Proof.Machine.execIsel p d s1 s2 s
  | .swap p d1 d2 s1 s2 => Sys2Proof.Machine.execSwap p d1 d2 s1 s2 s
  | .viaddsub p d1 d2 s1 s2 => Sys2Proof.Machine.execViaddsub p d1 d2 s1 s2 s
  | .addNop p => Sys2Proof.Machine.execAddNop p s
  | .cfeq p s1 s2 => Sys2Proof.Machine.execCfeq p s1 s2 s
  | .cfne p s1 s2 => Sys2Proof.Machine.execCfne p s1 s2 s
  | .vfeq p s1 s2 => Sys2Proof.Machine.execVfeq p s1 s2 s
  | .vflt p s1 s2 => Sys2Proof.Machine.execVflt p s1 s2 s
  | .vfgt p s1 s2 => Sys2Proof.Machine.execVfgt p s1 s2 s
  | .vfle p s1 s2 => Sys2Proof.Machine.execVfle p s1 s2 s
  | .vfge p s1 s2 => Sys2Proof.Machine.execVfge p s1 s2 s
  | .vfne p s1 s2 => Sys2Proof.Machine.execVfne p s1 s2 s
  | .vieq p s1 s2 => Sys2Proof.Machine.execVieq p s1 s2 s
  | .vilt p s1 s2 => Sys2Proof.Machine.execVilt p s1 s2 s
  | .vigt p s1 s2 => Sys2Proof.Machine.execVigt p s1 s2 s
  | .vile p s1 s2 => Sys2Proof.Machine.execVile p s1 s2 s
  | .vige p s1 s2 => Sys2Proof.Machine.execVige p s1 s2 s
  | .vine p s1 s2 => Sys2Proof.Machine.execVine p s1 s2 s
  | .feq p s1 s2 => Sys2Proof.Machine.execFeq p s1 s2 s
  | .flt p s1 s2 => Sys2Proof.Machine.execFlt p s1 s2 s
  | .fgt p s1 s2 => Sys2Proof.Machine.execFgt p s1 s2 s
  | .fle p s1 s2 => Sys2Proof.Machine.execFle p s1 s2 s
  | .fge p s1 s2 => Sys2Proof.Machine.execFge p s1 s2 s
  | .fne p s1 s2 => Sys2Proof.Machine.execFne p s1 s2 s
  | .ieq p s1 s2 => Sys2Proof.Machine.execIeq p s1 s2 s
  | .ilt p s1 s2 => Sys2Proof.Machine.execIlt p s1 s2 s
  | .igt p s1 s2 => Sys2Proof.Machine.execIgt p s1 s2 s
  | .ile p s1 s2 => Sys2Proof.Machine.execIle p s1 s2 s
  | .ige p s1 s2 => Sys2Proof.Machine.execIge p s1 s2 s
  | .ine p s1 s2 => Sys2Proof.Machine.execIne p s1 s2 s
  | .cieq p s1 s2 => Sys2Proof.Machine.execCieq p s1 s2 s
  | .cine p s1 s2 => Sys2Proof.Machine.execCine p s1 s2 s
  | .cfmulP p d s1 s2 => Sys2Proof.Machine.execCfmulP p d s1 s2 s
  | .cfmulN p d s1 s2 => Sys2Proof.Machine.execCfmulN p d s1 s2 s
  | .cfjmulP p d s1 s2 => Sys2Proof.Machine.execCfjmulP p d s1 s2 s
  | .cfjmulN p d s1 s2 => Sys2Proof.Machine.execCfjmulN p d s1 s2 s
  | .cfjmmulP p d s1 s2 => Sys2Proof.Machine.execCfjmmulP p d s1 s2 s
  | .cfjmmulN p d s1 s2 => Sys2Proof.Machine.execCfjmmulN p d s1 s2 s
  | .cfrmulP p d s1 s2 => Sys2Proof.Machine.execCfrmulP p d s1 s2 s
  | .cfrmulN p d s1 s2 => Sys2Proof.Machine.execCfrmulN p d s1 s2 s
  | .cimulP p d s1 s2 => Sys2Proof.Machine.execCimulP p d s1 s2 s
  | .cimulN p d s1 s2 => Sys2Proof.Machine.execCimulN p d s1 s2 s
  | .cijmulP p d s1 s2 => Sys2Proof.Machine.execCijmulP p d s1 s2 s
  | .cijmulN p d s1 s2 => Sys2Proof.Machine.execCijmulN p d s1 s2 s
  | .cijmmulP p d s1 s2 => Sys2Proof.Machine.execCijmmulP p d s1 s2 s
  | .cijmmulN p d s1 s2 => Sys2Proof.Machine.execCijmmulN p d s1 s2 s
  | .cirmulP p d s1 s2 => Sys2Proof.Machine.execCirmulP p d s1 s2 s
  | .cirmulN p d s1 s2 => Sys2Proof.Machine.execCirmulN p d s1 s2 s
  | .vfmulP p d s1 s2 => Sys2Proof.Machine.execVfmulP p d s1 s2 s
  | .vfmulN p d s1 s2 => Sys2Proof.Machine.execVfmulN p d s1 s2 s
  | .vimulP p d s1 s2 => Sys2Proof.Machine.execVimulP p d s1 s2 s
  | .vimulN p d s1 s2 => Sys2Proof.Machine.execVimulN p d s1 s2 s
  | .fmulP p d s1 s2 => Sys2Proof.Machine.execFmulP p d s1 s2 s
  | .fmulN p d s1 s2 => Sys2Proof.Machine.execFmulN p d s1 s2 s
  | .imulP p d s1 s2 => Sys2Proof.Machine.execImulP p d s1 s2 s
  | .imulN p d s1 s2 => Sys2Proof.Machine.execImulN p d s1 s2 s
  | .vsh p d s1 s2 => Sys2Proof.Machine.execVsh p d s1 s2 s
  | .vshand p d s1 s2 => Sys2Proof.Machine.execVshand p d s1 s2 s
  | .vshor p d s1 s2 => Sys2Proof.Machine.execVshor p d s1 s2 s
  | .vshxor p d s1 s2 => Sys2Proof.Machine.execVshxor p d s1 s2 s
  | .vbitset p d s1 s2 => Sys2Proof.Machine.execVbitset p d s1 s2 s
  | .vbitclr p d s1 s2 => Sys2Proof.Machine.execVbitclr p d s1 s2 s
  | .vbittgl p d s1 s2 => Sys2Proof.Machine.execVbittgl p d s1 s2 s
  | .vbittst p d s1 s2 => Sys2Proof.Machine.execVbittst p d s1 s2 s
  | .sh p d s1 s2 => Sys2Proof.Machine.execSh p d s1 s2 s
  | .shand p d s1 s2 => Sys2Proof.Machine.execShand p d s1 s2 s
  | .shor p d s1 s2 => Sys2Proof.Machine.execShor p d s1 s2 s
  | .shxor p d s1 s2 => Sys2Proof.Machine.execShxor p d s1 s2 s
  | .bitset p d s1 s2 => Sys2Proof.Machine.execBitset p d s1 s2 s
  | .bitclr p d s1 s2 => Sys2Proof.Machine.execBitclr p d s1 s2 s
  | .bittgl p d s1 s2 => Sys2Proof.Machine.execBittgl p d s1 s2 s
  | .bittst p d s1 s2 => Sys2Proof.Machine.execBittst p d s1 s2 s
  | .vftoi p d s1 => Sys2Proof.Machine.execVftoi p d s1 s
  | .vitof p d s1 => Sys2Proof.Machine.execVitof p d s1 s
  | .ftoi p d s1 => Sys2Proof.Machine.execFtoi p d s1 s
  | .itof p d s1 => Sys2Proof.Machine.execItof p d s1 s
  | .vrf2rf p d s1 => Sys2Proof.Machine.execVrf2rf p d s1 s
  | .rf2rf p d s1 => Sys2Proof.Machine.execRf2rf p d s1 s
  | .invseed p d s1 => Sys2Proof.Machine.execInvseed p d s1 s
  | .invsqrtseed p d s1 => Sys2Proof.Machine.execInvsqrtseed p d s1 s
  | .vinvseed p d s1 => Sys2Proof.Machine.execVinvseed p d s1 s
  | .vinvsqrtseed p d s1 => Sys2Proof.Machine.execVinvsqrtseed p d s1 s
  | .mulNop p => Sys2Proof.Machine.execMulNop p s
  | .agu0DirRs p x rfa7 => Sys2Proof.Machine.execAgu0DirRs p x rfa7 s
  | .agu0DirRv p x rfa7 => Sys2Proof.Machine.execAgu0DirRv p x rfa7 s
  | .agu0DirWs p x rfa7 => Sys2Proof.Machine.execAgu0DirWs p x rfa7 s
  | .agu0DirWv p x rfa7 => Sys2Proof.Machine.execAgu0DirWv p x rfa7 s
  | .agu1DirRs p x rfa5 => Sys2Proof.Machine.execAgu1DirRs p x rfa5 s
  | .agu1DirRv p x rfa5 => Sys2Proof.Machine.execAgu1DirRv p x rfa5 s
  | .agu1DirWs p x => Sys2Proof.Machine.execAgu1DirWs p x s
  | .agu1DirWv p x => Sys2Proof.Machine.execAgu1DirWv p x s
  | .agu0PostincRs p x rfa7 => Sys2Proof.Machine.execAgu0PostincRs p x rfa7 s
  | .agu0PostincRv p x rfa7 => Sys2Proof.Machine.execAgu0PostincRv p x rfa7 s
  | .agu0PostincWs p x rfa7 => Sys2Proof.Machine.execAgu0PostincWs p x rfa7 s
  | .agu0PostincWv p x rfa7 => Sys2Proof.Machine.execAgu0PostincWv p x rfa7 s
  | .agu1PostincRs p x rfa5 => Sys2Proof.Machine.execAgu1PostincRs p x rfa5 s
  | .agu1PostincRv p x rfa5 => Sys2Proof.Machine.execAgu1PostincRv p x rfa5 s
  | .agu1PostincWs p x => Sys2Proof.Machine.execAgu1PostincWs p x s
  | .agu1PostincWv p x => Sys2Proof.Machine.execAgu1PostincWv p x s
  | .agu0PostdecRs p x rfa7 => Sys2Proof.Machine.execAgu0PostdecRs p x rfa7 s
  | .agu0PostdecRv p x rfa7 => Sys2Proof.Machine.execAgu0PostdecRv p x rfa7 s
  | .agu0PostdecWs p x rfa7 => Sys2Proof.Machine.execAgu0PostdecWs p x rfa7 s
  | .agu0PostdecWv p x rfa7 => Sys2Proof.Machine.execAgu0PostdecWv p x rfa7 s
  | .agu1PostdecRs p x rfa5 => Sys2Proof.Machine.execAgu1PostdecRs p x rfa5 s
  | .agu1PostdecRv p x rfa5 => Sys2Proof.Machine.execAgu1PostdecRv p x rfa5 s
  | .agu1PostdecWs p x => Sys2Proof.Machine.execAgu1PostdecWs p x s
  | .agu1PostdecWv p x => Sys2Proof.Machine.execAgu1PostdecWv p x s
  | .agu0PreincRs p x rfa7 => Sys2Proof.Machine.execAgu0PreincRs p x rfa7 s
  | .agu0PreincRv p x rfa7 => Sys2Proof.Machine.execAgu0PreincRv p x rfa7 s
  | .agu0PreincWs p x rfa7 => Sys2Proof.Machine.execAgu0PreincWs p x rfa7 s
  | .agu0PreincWv p x rfa7 => Sys2Proof.Machine.execAgu0PreincWv p x rfa7 s
  | .agu1PreincRs p x rfa5 => Sys2Proof.Machine.execAgu1PreincRs p x rfa5 s
  | .agu1PreincRv p x rfa5 => Sys2Proof.Machine.execAgu1PreincRv p x rfa5 s
  | .agu1PreincWs p x => Sys2Proof.Machine.execAgu1PreincWs p x s
  | .agu1PreincWv p x => Sys2Proof.Machine.execAgu1PreincWv p x s
  | .agu0PredecRs p x rfa7 => Sys2Proof.Machine.execAgu0PredecRs p x rfa7 s
  | .agu0PredecRv p x rfa7 => Sys2Proof.Machine.execAgu0PredecRv p x rfa7 s
  | .agu0PredecWs p x rfa7 => Sys2Proof.Machine.execAgu0PredecWs p x rfa7 s
  | .agu0PredecWv p x rfa7 => Sys2Proof.Machine.execAgu0PredecWv p x rfa7 s
  | .agu1PredecRs p x rfa5 => Sys2Proof.Machine.execAgu1PredecRs p x rfa5 s
  | .agu1PredecRv p x rfa5 => Sys2Proof.Machine.execAgu1PredecRv p x rfa5 s
  | .agu1PredecWs p x => Sys2Proof.Machine.execAgu1PredecWs p x s
  | .agu1PredecWv p x => Sys2Proof.Machine.execAgu1PredecWv p x s
  | .agu0Postinc2Rs p x rfa7 => Sys2Proof.Machine.execAgu0Postinc2Rs p x rfa7 s
  | .agu0Postinc2Rv p x rfa7 => Sys2Proof.Machine.execAgu0Postinc2Rv p x rfa7 s
  | .agu0Postinc2Ws p x rfa7 => Sys2Proof.Machine.execAgu0Postinc2Ws p x rfa7 s
  | .agu0Postinc2Wv p x rfa7 => Sys2Proof.Machine.execAgu0Postinc2Wv p x rfa7 s
  | .agu1Postinc2Rs p x rfa5 => Sys2Proof.Machine.execAgu1Postinc2Rs p x rfa5 s
  | .agu1Postinc2Rv p x rfa5 => Sys2Proof.Machine.execAgu1Postinc2Rv p x rfa5 s
  | .agu1Postinc2Ws p x => Sys2Proof.Machine.execAgu1Postinc2Ws p x s
  | .agu1Postinc2Wv p x => Sys2Proof.Machine.execAgu1Postinc2Wv p x s
  | .agu0Postdec2Rs p x rfa7 => Sys2Proof.Machine.execAgu0Postdec2Rs p x rfa7 s
  | .agu0Postdec2Rv p x rfa7 => Sys2Proof.Machine.execAgu0Postdec2Rv p x rfa7 s
  | .agu0Postdec2Ws p x rfa7 => Sys2Proof.Machine.execAgu0Postdec2Ws p x rfa7 s
  | .agu0Postdec2Wv p x rfa7 => Sys2Proof.Machine.execAgu0Postdec2Wv p x rfa7 s
  | .agu1Postdec2Rs p x rfa5 => Sys2Proof.Machine.execAgu1Postdec2Rs p x rfa5 s
  | .agu1Postdec2Rv p x rfa5 => Sys2Proof.Machine.execAgu1Postdec2Rv p x rfa5 s
  | .agu1Postdec2Ws p x => Sys2Proof.Machine.execAgu1Postdec2Ws p x s
  | .agu1Postdec2Wv p x => Sys2Proof.Machine.execAgu1Postdec2Wv p x s
  | .agu0Preinc2Rs p x rfa7 => Sys2Proof.Machine.execAgu0Preinc2Rs p x rfa7 s
  | .agu0Preinc2Rv p x rfa7 => Sys2Proof.Machine.execAgu0Preinc2Rv p x rfa7 s
  | .agu0Preinc2Ws p x rfa7 => Sys2Proof.Machine.execAgu0Preinc2Ws p x rfa7 s
  | .agu0Preinc2Wv p x rfa7 => Sys2Proof.Machine.execAgu0Preinc2Wv p x rfa7 s
  | .agu1Preinc2Rs p x rfa5 => Sys2Proof.Machine.execAgu1Preinc2Rs p x rfa5 s
  | .agu1Preinc2Rv p x rfa5 => Sys2Proof.Machine.execAgu1Preinc2Rv p x rfa5 s
  | .agu1Preinc2Ws p x => Sys2Proof.Machine.execAgu1Preinc2Ws p x s
  | .agu1Preinc2Wv p x => Sys2Proof.Machine.execAgu1Preinc2Wv p x s
  | .agu0IndexRs p x rfa7 => Sys2Proof.Machine.execAgu0IndexRs p x rfa7 s
  | .agu0IndexRv p x rfa7 => Sys2Proof.Machine.execAgu0IndexRv p x rfa7 s
  | .agu0IndexWs p x rfa7 => Sys2Proof.Machine.execAgu0IndexWs p x rfa7 s
  | .agu0IndexWv p x rfa7 => Sys2Proof.Machine.execAgu0IndexWv p x rfa7 s
  | .agu1IndexRs p x rfa5 => Sys2Proof.Machine.execAgu1IndexRs p x rfa5 s
  | .agu1IndexRv p x rfa5 => Sys2Proof.Machine.execAgu1IndexRv p x rfa5 s
  | .agu1IndexWs p x => Sys2Proof.Machine.execAgu1IndexWs p x s
  | .agu1IndexWv p x => Sys2Proof.Machine.execAgu1IndexWv p x s
  | .agu0Base2immuRs p x rfa7 => Sys2Proof.Machine.execAgu0Base2immuRs p x rfa7 s
  | .agu0Base2immuRv p x rfa7 => Sys2Proof.Machine.execAgu0Base2immuRv p x rfa7 s
  | .agu0Base2immuWs p x rfa7 => Sys2Proof.Machine.execAgu0Base2immuWs p x rfa7 s
  | .agu0Base2immuWv p x rfa7 => Sys2Proof.Machine.execAgu0Base2immuWv p x rfa7 s
  | .agu1Base2immuRs p x rfa5 => Sys2Proof.Machine.execAgu1Base2immuRs p x rfa5 s
  | .agu1Base2immuRv p x rfa5 => Sys2Proof.Machine.execAgu1Base2immuRv p x rfa5 s
  | .agu1Base2immuWs p x => Sys2Proof.Machine.execAgu1Base2immuWs p x s
  | .agu1Base2immuWv p x => Sys2Proof.Machine.execAgu1Base2immuWv p x s
  | .agu0BaseimmuRs p x rfa7 => Sys2Proof.Machine.execAgu0BaseimmuRs p x rfa7 s
  | .agu0BaseimmuRv p x rfa7 => Sys2Proof.Machine.execAgu0BaseimmuRv p x rfa7 s
  | .agu0BaseimmuWs p x rfa7 => Sys2Proof.Machine.execAgu0BaseimmuWs p x rfa7 s
  | .agu0BaseimmuWv p x rfa7 => Sys2Proof.Machine.execAgu0BaseimmuWv p x rfa7 s
  | .agu1BaseimmuRs p x rfa5 => Sys2Proof.Machine.execAgu1BaseimmuRs p x rfa5 s
  | .agu1BaseimmuRv p x rfa5 => Sys2Proof.Machine.execAgu1BaseimmuRv p x rfa5 s
  | .agu1BaseimmuWs p x => Sys2Proof.Machine.execAgu1BaseimmuWs p x s
  | .agu1BaseimmuWv p x => Sys2Proof.Machine.execAgu1BaseimmuWv p x s
  | .agu0BaseimmRs p x rfa7 => Sys2Proof.Machine.execAgu0BaseimmRs p x rfa7 s
  | .agu0BaseimmRv p x rfa7 => Sys2Proof.Machine.execAgu0BaseimmRv p x rfa7 s
  | .agu0BaseimmWs p x rfa7 => Sys2Proof.Machine.execAgu0BaseimmWs p x rfa7 s
  | .agu0BaseimmWv p x rfa7 => Sys2Proof.Machine.execAgu0BaseimmWv p x rfa7 s
  | .agu1BaseimmRs p x rfa5 => Sys2Proof.Machine.execAgu1BaseimmRs p x rfa5 s
  | .agu1BaseimmRv p x rfa5 => Sys2Proof.Machine.execAgu1BaseimmRv p x rfa5 s
  | .agu1BaseimmWs p x => Sys2Proof.Machine.execAgu1BaseimmWs p x s
  | .agu1BaseimmWv p x => Sys2Proof.Machine.execAgu1BaseimmWv p x s
  | .agu0AbsRs p x rfa7 => Sys2Proof.Machine.execAgu0AbsRs p x rfa7 s
  | .agu0AbsRv p x rfa7 => Sys2Proof.Machine.execAgu0AbsRv p x rfa7 s
  | .agu0AbsWs p x rfa7 => Sys2Proof.Machine.execAgu0AbsWs p x rfa7 s
  | .agu0AbsWv p x rfa7 => Sys2Proof.Machine.execAgu0AbsWv p x rfa7 s
  | .agu1AbsRs p x rfa5 => Sys2Proof.Machine.execAgu1AbsRs p x rfa5 s
  | .agu1AbsRv p x rfa5 => Sys2Proof.Machine.execAgu1AbsRv p x rfa5 s
  | .agu1AbsWs p x => Sys2Proof.Machine.execAgu1AbsWs p x s
  | .agu1AbsWv p x => Sys2Proof.Machine.execAgu1AbsWv p x s
  | .agu0AbsldRs p x rfa7 => Sys2Proof.Machine.execAgu0AbsldRs p x rfa7 s
  | .agu0AbsldRv p x rfa7 => Sys2Proof.Machine.execAgu0AbsldRv p x rfa7 s
  | .agu0AbsldWs p x rfa7 => Sys2Proof.Machine.execAgu0AbsldWs p x rfa7 s
  | .agu0AbsldWv p x rfa7 => Sys2Proof.Machine.execAgu0AbsldWv p x rfa7 s
  | .agu1AbsldRs p x rfa5 => Sys2Proof.Machine.execAgu1AbsldRs p x rfa5 s
  | .agu1AbsldRv p x rfa5 => Sys2Proof.Machine.execAgu1AbsldRv p x rfa5 s
  | .agu1AbsldWs p x => Sys2Proof.Machine.execAgu1AbsldWs p x s
  | .agu1AbsldWv p x => Sys2Proof.Machine.execAgu1AbsldWv p x s
  | .agu0TmpRs p x rfa7 => Sys2Proof.Machine.execAgu0TmpRs p x rfa7 s
  | .agu0TmpRv p x rfa7 => Sys2Proof.Machine.execAgu0TmpRv p x rfa7 s
  | .agu0TmpWs p x rfa7 => Sys2Proof.Machine.execAgu0TmpWs p x rfa7 s
  | .agu0TmpWv p x rfa7 => Sys2Proof.Machine.execAgu0TmpWv p x rfa7 s
  | .agu1TmpRs p x rfa5 => Sys2Proof.Machine.execAgu1TmpRs p x rfa5 s
  | .agu1TmpRv p x rfa5 => Sys2Proof.Machine.execAgu1TmpRv p x rfa5 s
  | .agu1TmpWs p x => Sys2Proof.Machine.execAgu1TmpWs p x s
  | .agu1TmpWv p x => Sys2Proof.Machine.execAgu1TmpWv p x s
  | .agu0BasetmpRs p x rfa7 => Sys2Proof.Machine.execAgu0BasetmpRs p x rfa7 s
  | .agu0BasetmpRv p x rfa7 => Sys2Proof.Machine.execAgu0BasetmpRv p x rfa7 s
  | .agu0BasetmpWs p x rfa7 => Sys2Proof.Machine.execAgu0BasetmpWs p x rfa7 s
  | .agu0BasetmpWv p x rfa7 => Sys2Proof.Machine.execAgu0BasetmpWv p x rfa7 s
  | .agu1BasetmpRs p x rfa5 => Sys2Proof.Machine.execAgu1BasetmpRs p x rfa5 s
  | .agu1BasetmpRv p x rfa5 => Sys2Proof.Machine.execAgu1BasetmpRv p x rfa5 s
  | .agu1BasetmpWs p x => Sys2Proof.Machine.execAgu1BasetmpWs p x s
  | .agu1BasetmpWv p x => Sys2Proof.Machine.execAgu1BasetmpWv p x s
  | .agu0Nop p => Sys2Proof.Machine.execAgu0Nop p s
  | .agu1Nop p => Sys2Proof.Machine.execAgu1Nop p s
  | .agu0MovAAy p x => Sys2Proof.Machine.execAgu0MovAAy p x s
  | .agu1MovAAy p x => Sys2Proof.Machine.execAgu1MovAAy p x s
  | .agu0SubAAT p x => Sys2Proof.Machine.execAgu0SubAAT p x s
  | .agu1SubAAT p x => Sys2Proof.Machine.execAgu1SubAAT p x s
  | .agu0AddAAT p x => Sys2Proof.Machine.execAgu0AddAAT p x s
  | .agu1AddAAT p x => Sys2Proof.Machine.execAgu1AddAAT p x s
  | .agu0SubAAyT p x => Sys2Proof.Machine.execAgu0SubAAyT p x s
  | .agu1SubAAyT p x => Sys2Proof.Machine.execAgu1SubAAyT p x s
  | .agu0AddAAyT p x => Sys2Proof.Machine.execAgu0AddAAyT p x s
  | .agu1AddAAyT p x => Sys2Proof.Machine.execAgu1AddAAyT p x s
  | .agu0SubTAT p x => Sys2Proof.Machine.execAgu0SubTAT p x s
  | .agu1SubTAT p x => Sys2Proof.Machine.execAgu1SubTAT p x s
  | .agu0AddTAT p x => Sys2Proof.Machine.execAgu0AddTAT p x s
  | .agu1AddTAT p x => Sys2Proof.Machine.execAgu1AddTAT p x s
  | .agu0AddAASimm p x => Sys2Proof.Machine.execAgu0AddAASimm p x s
  | .agu1AddAASimm p x => Sys2Proof.Machine.execAgu1AddAASimm p x s
  | .agu0AddAAySimm p x => Sys2Proof.Machine.execAgu0AddAAySimm p x s
  | .agu1AddAAySimm p x => Sys2Proof.Machine.execAgu1AddAAySimm p x s
  | .agu0AddTASimm p x => Sys2Proof.Machine.execAgu0AddTASimm p x s
  | .agu1AddTASimm p x => Sys2Proof.Machine.execAgu1AddTASimm p x s
  | .agu0AddTTSimm p x => Sys2Proof.Machine.execAgu0AddTTSimm p x s
  | .agu1AddTTSimm p x => Sys2Proof.Machine.execAgu1AddTTSimm p x s
  | .agu0MulTASimm p x => Sys2Proof.Machine.execAgu0MulTASimm p x s
  | .agu1MulTASimm p x => Sys2Proof.Machine.execAgu1MulTASimm p x s
  | .agu0MulTTSimm p x => Sys2Proof.Machine.execAgu0MulTTSimm p x s
  | .agu1MulTTSimm p x => Sys2Proof.Machine.execAgu1MulTTSimm p x s
  | .agu0MulTAMy p x => Sys2Proof.Machine.execAgu0MulTAMy p x s
  | .agu1MulTAMy p x => Sys2Proof.Machine.execAgu1MulTAMy p x s
  | .agu0Eq p x => Sys2Proof.Machine.execAgu0Eq p x s
  | .agu1Eq p x => Sys2Proof.Machine.execAgu1Eq p x s
  | .agu0Neq p x => Sys2Proof.Machine.execAgu0Neq p x s
  | .agu1Neq p x => Sys2Proof.Machine.execAgu1Neq p x s
  | .agu0GeS p x => Sys2Proof.Machine.execAgu0GeS p x s
  | .agu1GeS p x => Sys2Proof.Machine.execAgu1GeS p x s
  | .agu0GtS p x => Sys2Proof.Machine.execAgu0GtS p x s
  | .agu1GtS p x => Sys2Proof.Machine.execAgu1GtS p x s
  | .agu0LeS p x => Sys2Proof.Machine.execAgu0LeS p x s
  | .agu1LeS p x => Sys2Proof.Machine.execAgu1LeS p x s
  | .agu0LtS p x => Sys2Proof.Machine.execAgu0LtS p x s
  | .agu1LtS p x => Sys2Proof.Machine.execAgu1LtS p x s
  | .agu0MovAT p x => Sys2Proof.Machine.execAgu0MovAT p x s
  | .agu1MovAT p x => Sys2Proof.Machine.execAgu1MovAT p x s
  | .agu0MovTA p x => Sys2Proof.Machine.execAgu0MovTA p x s
  | .agu1MovTA p x => Sys2Proof.Machine.execAgu1MovTA p x s
  | .agu0MovTM p x => Sys2Proof.Machine.execAgu0MovTM p x s
  | .agu1MovTM p x => Sys2Proof.Machine.execAgu1MovTM p x s
  | .agu0MovTS p x => Sys2Proof.Machine.execAgu0MovTS p x s
  | .agu1MovTS p x => Sys2Proof.Machine.execAgu1MovTS p x s
  | .agu0MovTL p x => Sys2Proof.Machine.execAgu0MovTL p x s
  | .agu1MovTL p x => Sys2Proof.Machine.execAgu1MovTL p x s
  | .agu0AddltAML p x => Sys2Proof.Machine.execAgu0AddltAML p x s
  | .agu1AddltAML p x => Sys2Proof.Machine.execAgu1AddltAML p x s
  | .agu0SubgtAM p x => Sys2Proof.Machine.execAgu0SubgtAM p x s
  | .agu1SubgtAM p x => Sys2Proof.Machine.execAgu1SubgtAM p x s
  | .agu0SubgtAT p x => Sys2Proof.Machine.execAgu0SubgtAT p x s
  | .agu1SubgtAT p x => Sys2Proof.Machine.execAgu1SubgtAT p x s
  | .agu0AddltATL p x => Sys2Proof.Machine.execAgu0AddltATL p x s
  | .agu1AddltATL p x => Sys2Proof.Machine.execAgu1AddltATL p x s
  | .agu0SubgtASimm p x => Sys2Proof.Machine.execAgu0SubgtASimm p x s
  | .agu1SubgtASimm p x => Sys2Proof.Machine.execAgu1SubgtASimm p x s
  | .agu0MovASimm p x => Sys2Proof.Machine.execAgu0MovASimm p x s
  | .agu1MovASimm p x => Sys2Proof.Machine.execAgu1MovASimm p x s
  | .agu0ClrT p x => Sys2Proof.Machine.execAgu0ClrT p x s
  | .agu1ClrT p x => Sys2Proof.Machine.execAgu1ClrT p x s
  | .agu0AbsA p x => Sys2Proof.Machine.execAgu0AbsA p x s
  | .agu1AbsA p x => Sys2Proof.Machine.execAgu1AbsA p x s
  | .agu0AbsTA p x => Sys2Proof.Machine.execAgu0AbsTA p x s
  | .agu1AbsTA p x => Sys2Proof.Machine.execAgu1AbsTA p x s
  | .agu0NegTM p x => Sys2Proof.Machine.execAgu0NegTM p x s
  | .agu1NegTM p x => Sys2Proof.Machine.execAgu1NegTM p x s
  | .agu0MovTUimm4 p uimm4 => Sys2Proof.Machine.execAgu0MovTUimm4 p uimm4 s
  | .agu1MovTUimm4 p uimm4 => Sys2Proof.Machine.execAgu1MovTUimm4 p uimm4 s
  | .agu0Bittest p x => Sys2Proof.Machine.execAgu0Bittest p x s
  | .agu1Bittest p x => Sys2Proof.Machine.execAgu1Bittest p x s
  | .agu0ShlAT p x => Sys2Proof.Machine.execAgu0ShlAT p x s
  | .agu1ShlAT p x => Sys2Proof.Machine.execAgu1ShlAT p x s
  | .agu0ShrAT p x => Sys2Proof.Machine.execAgu0ShrAT p x s
  | .agu1ShrAT p x => Sys2Proof.Machine.execAgu1ShrAT p x s
  | .agu0SarAT p x => Sys2Proof.Machine.execAgu0SarAT p x s
  | .agu1SarAT p x => Sys2Proof.Machine.execAgu1SarAT p x s
  | .agu0AndAT p x => Sys2Proof.Machine.execAgu0AndAT p x s
  | .agu1AndAT p x => Sys2Proof.Machine.execAgu1AndAT p x s
  | .agu0OrAT p x => Sys2Proof.Machine.execAgu0OrAT p x s
  | .agu1OrAT p x => Sys2Proof.Machine.execAgu1OrAT p x s
  | .agu0XorAT p x => Sys2Proof.Machine.execAgu0XorAT p x s
  | .agu1XorAT p x => Sys2Proof.Machine.execAgu1XorAT p x s
  | .agu0SubuAAT p x => Sys2Proof.Machine.execAgu0SubuAAT p x s
  | .agu1SubuAAT p x => Sys2Proof.Machine.execAgu1SubuAAT p x s
  | .agu0AdduAAT p x => Sys2Proof.Machine.execAgu0AdduAAT p x s
  | .agu1AdduAAT p x => Sys2Proof.Machine.execAgu1AdduAAT p x s
  | .agu0SubuAAyT p x => Sys2Proof.Machine.execAgu0SubuAAyT p x s
  | .agu1SubuAAyT p x => Sys2Proof.Machine.execAgu1SubuAAyT p x s
  | .agu0AdduAAyT p x => Sys2Proof.Machine.execAgu0AdduAAyT p x s
  | .agu1AdduAAyT p x => Sys2Proof.Machine.execAgu1AdduAAyT p x s
  | .agu0SubuTAT p x => Sys2Proof.Machine.execAgu0SubuTAT p x s
  | .agu1SubuTAT p x => Sys2Proof.Machine.execAgu1SubuTAT p x s
  | .agu0AdduTAT p x => Sys2Proof.Machine.execAgu0AdduTAT p x s
  | .agu1AdduTAT p x => Sys2Proof.Machine.execAgu1AdduTAT p x s
  | .agu0AdduAAImm p x => Sys2Proof.Machine.execAgu0AdduAAImm p x s
  | .agu1AdduAAImm p x => Sys2Proof.Machine.execAgu1AdduAAImm p x s
  | .agu0AdduAAyImm p x => Sys2Proof.Machine.execAgu0AdduAAyImm p x s
  | .agu1AdduAAyImm p x => Sys2Proof.Machine.execAgu1AdduAAyImm p x s
  | .agu0AdduTAImm p x => Sys2Proof.Machine.execAgu0AdduTAImm p x s
  | .agu1AdduTAImm p x => Sys2Proof.Machine.execAgu1AdduTAImm p x s
  | .agu0AdduTTImm p x => Sys2Proof.Machine.execAgu0AdduTTImm p x s
  | .agu1AdduTTImm p x => Sys2Proof.Machine.execAgu1AdduTTImm p x s
  | .agu0MuluTAImm p x => Sys2Proof.Machine.execAgu0MuluTAImm p x s
  | .agu1MuluTAImm p x => Sys2Proof.Machine.execAgu1MuluTAImm p x s
  | .agu0MuluTTImm p x => Sys2Proof.Machine.execAgu0MuluTTImm p x s
  | .agu1MuluTTImm p x => Sys2Proof.Machine.execAgu1MuluTTImm p x s
  | .agu0MuluTAMy p x => Sys2Proof.Machine.execAgu0MuluTAMy p x s
  | .agu1MuluTAMy p x => Sys2Proof.Machine.execAgu1MuluTAMy p x s
  | .agu0GeU p x => Sys2Proof.Machine.execAgu0GeU p x s
  | .agu1GeU p x => Sys2Proof.Machine.execAgu1GeU p x s
  | .agu0GtU p x => Sys2Proof.Machine.execAgu0GtU p x s
  | .agu1GtU p x => Sys2Proof.Machine.execAgu1GtU p x s
  | .agu0LeU p x => Sys2Proof.Machine.execAgu0LeU p x s
  | .agu1LeU p x => Sys2Proof.Machine.execAgu1LeU p x s
  | .agu0LtU p x => Sys2Proof.Machine.execAgu0LtU p x s
  | .agu1LtU p x => Sys2Proof.Machine.execAgu1LtU p x s
  | .agu0AddltuAML p x => Sys2Proof.Machine.execAgu0AddltuAML p x s
  | .agu1AddltuAML p x => Sys2Proof.Machine.execAgu1AddltuAML p x s
  | .agu0SubgtuAM p x => Sys2Proof.Machine.execAgu0SubgtuAM p x s
  | .agu1SubgtuAM p x => Sys2Proof.Machine.execAgu1SubgtuAM p x s
  | .immv p rfa7 immh imml => Sys2Proof.Machine.execImmv p rfa7 immh imml s
  | .immvc p rfa7 imm => Sys2Proof.Machine.execImmvc p rfa7 imm s
  | .immsi p rfa7 imm => Sys2Proof.Machine.execImmsi p rfa7 imm s
  | .immsf p rfa7 imm => Sys2Proof.Machine.execImmsf p rfa7 imm s
  | .immsic p rfa7 sel => Sys2Proof.Machine.execImmsic p rfa7 sel s
  | .immsfc p rfa7 sel => Sys2Proof.Machine.execImmsfc p rfa7 sel s
  | .imm0v p rfa7 => Sys2Proof.Machine.execImm0v p rfa7 s
  | .imm0s p rfa7 => Sys2Proof.Machine.execImm0s p rfa7 s
  | .movv p rfa7 src => Sys2Proof.Machine.execMovv p rfa7 src s
  | .movs p rfa7 src => Sys2Proof.Machine.execMovs p rfa7 src s
  | .movvf p rfa7 src => Sys2Proof.Machine.execMovvf p rfa7 src s
  | .movsf p rfa7 src => Sys2Proof.Machine.execMovsf p rfa7 src s
  | .movss p rfa7 src => Sys2Proof.Machine.execMovss p rfa7 src s
  | .pushOp p => Sys2Proof.Machine.execPushOp p s
  | .pushAgu0 p => Sys2Proof.Machine.execPushAgu0 p s
  | .pushAgu1 p => Sys2Proof.Machine.execPushAgu1 p s
  | .pop p => Sys2Proof.Machine.execPop p s
  | .flowTrue p => Sys2Proof.Machine.execFlowTrue p s
  | .flowFalse p => Sys2Proof.Machine.execFlowFalse p s
  | .fsnot p => Sys2Proof.Machine.execFsnot p s
  | .fsand p => Sys2Proof.Machine.execFsand p s
  | .fsor p => Sys2Proof.Machine.execFsor p s
  | .fsxor p => Sys2Proof.Machine.execFsxor p s
  | .repush p => Sys2Proof.Machine.execRepush p s
  | .fsswap p => Sys2Proof.Machine.execFsswap p s
  | .fsand2 p => Sys2Proof.Machine.execFsand2 p s
  | .fsi2q p => Sys2Proof.Machine.execFsi2q p s
  | .fsq2i p => Sys2Proof.Machine.execFsq2i p s
  | .clrp p r => Sys2Proof.Machine.execClrp p r s
  | .setp r => Sys2Proof.Machine.execSetp r s
  | .setpv r imm => Sys2Proof.Machine.execSetpv r imm s
  | .settop p r => Sys2Proof.Machine.execSettop p r s
  | .setop p r => Sys2Proof.Machine.execSetop p r s
  | .setagu0 p r => Sys2Proof.Machine.execSetagu0 p r s
  | .setagu1 p r => Sys2Proof.Machine.execSetagu1 p r s
  | .setnotp p r => Sys2Proof.Machine.execSetnotp p r s
  | .setnot p r => Sys2Proof.Machine.execSetnot p r s
  | .br p jt off => Sys2Proof.Machine.execBr p jt off s
  | .brReg p jt => Sys2Proof.Machine.execBrReg p jt s
  | .call p jt off => Sys2Proof.Machine.execCall p jt off s
  | .callReg p jt => Sys2Proof.Machine.execCallReg p jt s
  | .ret p => Sys2Proof.Machine.execRet p s
  | .reti p => Sys2Proof.Machine.execReti p s
  | .repb p len => Sys2Proof.Machine.execRepb p len s
  | .swpipe on k => Sys2Proof.Machine.execSwpipe on k s
  | .watchint p => Sys2Proof.Machine.execWatchint p s
  | .sleepon p => Sys2Proof.Machine.execSleepon p s
  | .sirq p n => Sys2Proof.Machine.execSirq p n s
  | .halt p => Sys2Proof.Machine.execHalt p s
  | .writedma p => Sys2Proof.Machine.execWritedma p s
  | .readdma p => Sys2Proof.Machine.execReaddma p s
  | .prefetchReg p => Sys2Proof.Machine.execPrefetchReg p s
  | .prefetchOff p off => Sys2Proof.Machine.execPrefetchOff p off s
  | .pmucmd p cmd => Sys2Proof.Machine.execPmucmd p cmd s

end Sys2Proof.Machine
end

