-- ==== Sys2Proof/Machine/Slave.lean ====
section
/-! DEFINITION. The AHB slave port (spec 20 section 3) and the hard reset (spec 70 R1200). -/

namespace Sys2Proof.Machine

/-- The hard reset (R1200): every register takes its reset value; the input lines and the environment go on. DEDUCED (log 3). -/
def hardReset (s : State) : State :=
  { State.reset with
    env := s.env, inp := s.inp, out := s.out, lineSh := s.lineSh, dbgReq := s.dbgReq,
    free := s.free, resetNow := true }

/-- An AHB ERROR response (R178). -/
def slaveFail (s : State) : State := (raise .slverr s).emit .slaveError

/-- The parity flag after a 32-bit part of program word p changed from `old` to `new` (R126): one toggled bit toggles it. DEDUCED (log 15). -/
def parityAfter (p : Nat) (old new : BitVec 32) (l : List Nat) : List Nat :=
  let changed := old ^^^ new
  if changed = 0 then l
  else if changed &&& (changed - 1) = 0 then
    (if l.contains p then l.filter (· ≠ p) else (l.filter (· < p)) ++ p :: l.filter (p < ·))
  else l.filter (· ≠ p)

/-- The PM region (R172). -/
def slavePm (p k : Nat) (wd : Option (BitVec 32)) (s : State) : Res :=
  match wd with
  | none => .next (s.emit (.slaveData (s.mem.pmPart p k)))
  | some v =>
    if nearPc s p then .refused .programNearPc
    else .next ({ s with
      mem := s.mem.setPmPart p k v
      badParity := parityAfter p (s.mem.pmPart p k) v s.badParity }.emit .slaveOk)

/-- The AHB-only PMU registers (R101 to R108) as they read. -/
def pmuRegRead (s : State) (off : Nat) : BitVec 32 :=
  if off < 0x300 then (s.pmu.virtAt (BitVec.ofNat 6 ((off - 0x200) / 4))).setWidth 32
  else if off < 0x320 then s.pmu.mappedAt (BitVec.ofNat 3 ((off - 0x300) / 4))
  else if off = 0x320 then s.pmu.faultAdd.setWidth 32
  else if off = 0x324 then s.pmu.extAdd.setWidth 32
  else if off = 0x328 then pmuStat s
  else if off = 0x32C then s.pmu.missCnt
  else s.pmu.physPt.setWidth 32

/-- Writes to them: ref is read only (R101), bits 15:7 of a physical page descriptor are zero (R102). -/
def pmuRegWrite (off : Nat) (v : BitVec 32) (s : State) : Res :=
  if off < 0x300 then
    let x := BitVec.ofNat 6 ((off - 0x200) / 4)
    .next (s.setPmu (s.pmu.setVirt x (blend (s.pmu.virtAt x) 0x3B (v.setWidth 6))))
  else if off < 0x320 then
    .next (s.setPmu (s.pmu.setMapped (BitVec.ofNat 3 ((off - 0x300) / 4)) (v &&& 0xFFFF007F)))
  else if off = 0x320 then .next (s.setPmu { s.pmu with faultAdd := v.setWidth 16 })
  else if off = 0x324 then .next (s.setPmu { s.pmu with extAdd := v.setWidth 12 })
  else if off = 0x328 then pmuCtl v s
  else if off = 0x32C then .next (s.setPmu { s.pmu with missCnt := v })
  else .next (s.setPmu { s.pmu with physPt := v.setWidth 3 })

/-- The REGS region (R110, R176, R177). -/
def slaveReg (off : Nat) (wd : Option (BitVec 32)) (s : State) : Res :=
  match wd with
  | none =>
    if off < 0x200 then
      let a := BitVec.ofNat 7 (off / 4)
      .next ((readClear a s).emit (.slaveData (firstRead s a)))
    else if off ≤ 0x330 then .next (s.emit (.slaveData (pmuRegRead s off)))
    else if 0x400 ≤ off && off < 0xC00 then
      let v := s.rfAt (BitVec.ofNat 8 ((off - 0x400) / 8))
      .next (s.emit (.slaveData
        (if off % 8 = 0 then v.setWidth 32 else ((v.extractLsb' 32 8 : BitVec 8)).setWidth 32)))
    else if 0xC00 ≤ off && off < 0xC10 then
      .next (s.emit (.slaveData ((vliwWord s).extractLsb' (8 * (off - 0xC00)) 32)))
    else if off = 0xFC0 then .next (s.drawn.emit (.slaveData (s.draw.setWidth 32)))
    else .next (slaveFail s)
  | some v =>
    if off < 0x200 then
      andThen (firstWrite .host (BitVec.ofNat 7 (off / 4)) v s) fun s1 => .next (s1.emit .slaveOk)
    else if off ≤ 0x330 then andThen (pmuRegWrite off v s) fun s1 => .next (s1.emit .slaveOk)
    else if 0xC00 ≤ off && off < 0xC10 then .next (s.emit .slaveOk)
    else if off = 0xFC0 then .next ((if v = 0xAC1CDEAD then hardReset s else s).emit .slaveOk)
    else .next (slaveFail s)

/-- An access outside the data memory regions, before the core step (R170, R178). -/
def slaveEarly (s : State) : Res :=
  match s.inp.slave with
  | none => .next s
  | some x =>
    let n := x.addr.toNat
    if !x.legal then .next (slaveFail s)
    else if 0x600000 ≤ n && n < 0x620000 then slavePm ((n - 0x600000) / 16) (n / 4 % 4) x.wdata s
    else if 0x680000 ≤ n && n < 0x682000 then slaveReg (n - 0x680000) x.wdata s
    else if (slaveDm x.addr).isSome then .next s
    else .next (slaveFail s)

/-- How a P1A access to data word a meets the other ports of this cycle (R188, R189). -/
inductive SlaveMeet where
  | go
  /-- a P0A or P0B write wins, this write fails -/
  | lose
  /-- the read sees the word before the P0B write -/
  | old (v : Word40)
  | clash
  deriving DecidableEq, Repr

def slaveMeet (acc : List Access) (a : Nat) (wr : Bool) : SlaveMeet :=
  let here := acc.filter (fun x => x.addr == a)
  let on := fun (p : MemPort) (w : Bool) => here.any (fun x => x.port == p && x.write == w)
  if (on .p1b true) || (on .p1b false && wr) || (on .p0a true && !wr) || (on .p0a false && wr) then .clash
  else if wr && (on .p0a true || on .p0b true) then .lose
  else match here.find? (fun x => x.port == .p0b && x.write) with
    | some x => .old x.old
    | none => .go

/-- An access to a data memory region, through P1A, after the core step (R173 to R175, R188). -/
def slaveLate (s : State) : Res :=
  match s.inp.slave with
  | none => .next s
  | some x =>
    match slaveDm x.addr with
    | none => .next s
    | some (w, a, part) =>
      if !x.legal then .next s
      else
        match x.wdata with
        | some v =>
          match slaveMeet s.acc a true with
          | .clash => .fault .sameWordAccess
          | .lose => .next (s.emit .slaveOk)
          | _ => .next ((dmStore .p1a a (viewMerge w part (s.mem.dm a) v) s).emit .slaveOk)
        | none =>
          match slaveMeet s.acc a false with
          | .clash => .fault .sameWordAccess
          | .old o => .next ((dmLoad .p1a a s).emit (.slaveData (viewOf w part o)))
          | _ => .next ((dmLoad .p1a a s).emit (.slaveData (s.mem.viewRead w a part)))

end Sys2Proof.Machine
end

