-- ==== Sys2Proof/Machine/Cycle.lean ====
section
/-! DEFINITION. One clock cycle: input lines, the AHB slave, the core step of R330 (landing, fetch, decode, execution,
next program counter), the DMA engine and the PMU, the tick counter. The order of the agents within a cycle is log 4. -/

namespace Sys2Proof.Machine

noncomputable section

/-! ## Inputs (R1080, R1081, R1150) -/

/-- The next environment entry becomes this cycle's input; with none left the outside is quiet. -/
def takeInput (s : State) : State :=
  { s with
    env := s.env.tail, inp := s.env.headD CycleIn.quiet, out := [], acc := [], raised := 0,
    tickWritten := false, resetNow := false }

/-- The interrupt line of shared line j (R1080). -/
def lineOfShared (j : Nat) : Nat := j / 4

/-- The shared lines whose new level is an edge in the programmed direction on an enabled line (R1081). -/
def sharedEdges (old new : BitVec 8) (i : Ints) : BitVec 8 :=
  (List.range 8).foldl
    (fun a j => putBit a j (old.getLsbD j != new.getLsbD j && new.getLsbD j == i.shedge.getLsbD j &&
      i.en.getLsbD (lineOfShared j))) 0

/-- New levels on LINESH0 to LINESH7. -/
def shareLines (new : BitVec 8) (s : State) : State :=
  { s with lineSh := new, ints := { s.ints with shpend := s.ints.shpend ||| sharedEdges s.lineSh new s.ints } }

/-- Some unmasked shared line of interrupt line 0 or 1 is pending (R1081). -/
def sharedActive (i : Ints) (line : Nat) : Bool :=
  (List.range 8).any (fun j => lineOfShared j == line && i.shpend.getLsbD j && !i.mask.getLsbD (8 + j))

/-- An event under a condition. -/
def eventIf (b : Bool) (x : Nat) (s : State) : State := if b then lineEvent x s else s

/-- The input lines of this cycle: reset input, debug request, shared lines, line2, line3. -/
def inputLines (s : State) : State :=
  let s0 := if s.inp.reset then hardReset s else s
  let s1 := { s0 with dbgReq := s0.inp.dbgReq.getD s0.dbgReq }
  let s2 := match s1.inp.shared with
    | some l => shareLines l s1
    | none => s1
  let s3 := eventIf (sharedActive s2.ints 0) 0 s2
  let s4 := eventIf (sharedActive s3.ints 1) 1 s3
  eventIf s4.inp.line3 3 (eventIf s4.inp.line2 2 s4)

/-- R1102: an enabled recorded event ends the sleep. -/
def wake (s : State) : State :=
  if s.mode.asleep && wakeReady s then s.setMode { s.mode with asleep := false } else s

/-! ## Execution of a bundle (R330 steps 3 to 6) -/

/-- One issue: nothing when it is inhibited; an unassigned code raises its exception with the bundle's end. -/
def runSlot (d : Slot) (s : State) : Res :=
  match d with
  | .op i => exec i s
  | .unknown => .next s
  | .off => .next s

/-- The FLOW issue: an unassigned code is refused where it executes (R296, U16). It is predicated as every code that R270 does not
except, and under a false predicate it is not executed and changes nothing (R344). -/
def runFlow (w : Bundle) (d : Slot) (s : State) : Res :=
  match d with
  | .op i => exec i s
  | .unknown => if (gateOf s (FlowF.of w).p).g then .refused .flowCode else .next s
  | .off => .next s

/-- AGU0 holds a store of a first-bank register and FLOW no movs: then AGU0 reads before FLOW acts, so that no issue sees
another's result (R330 step 5). -/
def agu0First (w : Bundle) : Bool :=
  let c := agu0Code w
  let t : BitVec 9 := getField w 104 9
  !c.getLsbD 6 && c.getLsbD 5 && !t.getLsbD 8 && t.getLsbD 7 && flowCode w != 0x0A

/-- The issues in the order in which the model runs them. It shows in one corner: the clearing of the wake-up events by writedma
or readdma comes before the line 6 event of an AGU exception that is not fatal, after it when AGU0 runs first. DESIGN CHOICE
(log 11). -/
def issueList (w : Bundle) (d : Slots) : List (State → Res) :=
  if agu0First w then [runSlot d.agu0, runFlow w d.flow, runSlot d.mul, runSlot d.add, runSlot d.agu1]
  else [runFlow w d.flow, runSlot d.mul, runSlot d.add, runSlot d.agu0, runSlot d.agu1]

/-- The unknown-code exceptions, under any predicate (R295, R342). -/
def raiseUnknown (d : Slots) (s : State) : State :=
  raiseIf (d.agu1 == .unknown) .agu1ukn (raiseIf (d.agu0 == .unknown) .agu0ukn
    (raiseIf (d.mul == .unknown) .mulunkn (raiseIf (d.add == .unknown) .addunkn s)))

/-- What takes effect after the executing bundle with n delay slots: its own entry for none, else that of the bundle n before it
(R334, D2). What the slots do beyond that the spec does not describe: DESIGN CHOICE (log 41). -/
def dueOf {α : Type} (n : Nat) (own : Option α) (past : List (Option α)) : Option α := ((own :: past)[n]?).join

/-- The target of the transfer that takes effect after this bundle (R334 case 3). -/
def taken (s : State) : Option (BitVec 16) := dueOf Config.branchDelaySlots s.npc (s.turns.map Turn.target)

/-- The line that the executing bundle's service point selects: none while an entry still waits for its delay slots. -/
def servedLine (line : Option (Fin 8)) (s : State) : Option (Fin 8) :=
  if s.svc && (s.turns.take Config.branchDelaySlots).all (fun u => u.line.isNone) then line else none

/-- What the executing bundle did to the flow joins what still waits for its delay slots. -/
def shiftTurns (line : Option (Fin 8)) (s : State) : State :=
  { s with turns := (⟨s.npc, servedLine line s⟩ :: s.turns).take Config.branchDelaySlots }

/-- The next program counter without an interrupt: R334 cases 3 to 5, with the loop-back of R914. -/
def advancePc (s : State) : State :=
  let r := s.regs
  match taken s with
  | some t => s.setRegs { r with pc := t }
  | none =>
    if r.pc = r.rept.setWidth 16 && r.loopcnt != 0 then
      s.setRegs { r with
        loopcnt := r.loopcnt - 1
        pc := if r.loopcnt - 1 = 0 then r.pc + 1 else r.rept.extractLsb' 16 16 }
    else s.setRegs { r with pc := r.pc + 1 }

/-- R334 case 2: an enabled service point takes the line selected when the bundle was issued, with the latency of a taken
transfer (R1092). -/
def serve (line : Option (Fin 8)) (s : State) : State :=
  match dueOf Config.branchDelaySlots (servedLine line s) (s.turns.map Turn.line) with
  | some x => enterInterrupt x s.regs.pc s
  | none => s

/-- Step mode's request (R1067). -/
def stepMode (s : State) : State :=
  if s.mode.step then s.setMode { s.mode with stepreq := true } else s

/-- The bundle's own latches are empty. -/
def freshBundle (s : State) : State :=
  { s with mulOut := none, addOut := none, npc := none, svc := false, clears := 0 }

/-- The landing of this core step is over: the next service point sees what landed (R1082). -/
def nextLanding (s : State) : State := { s with landed := false, held := none }

/-- What ends a core step: read-and-clear, unknown codes, next program counter, interrupt entry, step mode. -/
def endBundle (d : Slots) (line : Option (Fin 8)) (s : State) : State :=
  nextLanding (freshBundle (stepMode (shiftTurns line (serve line (advancePc (raiseUnknown d (clearRead s.clears s)))))))

/-- Execute the word w (R330 steps 3 to 7). That the line is selected before the issues act is a DESIGN CHOICE (log 11). -/
def runBundle (w : Bundle) (s : State) : Res :=
  let d := decodeBundle w
  andThen (runAll (issueList w d) (freshBundle s)) fun s1 => .next (endBundle d (takenLine s) s1)

/-! ## Fetch (R331, R1150) -/

/-- What the parity check makes of a fetch: execute, or stop with the word not executed. -/
def parityCheck (p : BitVec 13) (s : State) : Bool × State :=
  if s.mode.pmcheck && s.badParity.contains p.toNat then
    if s.mode.pty2break then (false, s.setMode { s.mode with brk := true })
    else (s.regs.mask.getLsbD 23 || !(fatalNow s).getLsbD 23, raise .ptyerr s)
  else (true, s)

/-- The word at physical address p is fetched (R331, R962); no miss is open any more. -/
def latchWord (p : BitVec 13) (s : State) : State :=
  let s1 := touchPage s.regs.pc s
  { s1 with pmu := { s1.pmu with missAt := none }, vliw := s.mem.pm p.toNat, landed := true }

/-- Fetch and execute: the landing of this core step is done (log 20). A step that stops on wrong parity executes no bundle and
is no run cycle for step mode (R1067): DEDUCED (log 20). -/
def fetchRun (s : State) : Res :=
  match physOf s s.regs.pc with
  | some p =>
    let r := parityCheck p (latchWord p s)
    if r.1 then runBundle r.2.vliw r.2 else .next r.2
  | none =>
    if s.mode.pmuen then .next (fetchMiss s.regs.pc { s with landed := true }) else .refused .fetchRange

/-- The core in one clock cycle (R330, R331, R335): frozen in debug state, asleep, and behind a PMU miss. -/
def coreStep (s : State) : Res :=
  if inDebug s || s.mode.asleep then .next s
  else if s.landed then fetchRun s
  else if s.mode.pmuen && (physOf s s.regs.pc).isNone then .next (fetchMiss s.regs.pc s)
  else andThen (land s) fun s1 => if s1.resetNow then .next s1 else fetchRun s1

/-! ## The clock cycle -/

/-- R1068: the tick counter, for a cycle the core did not begin in debug state. -/
def tick (dbg : Bool) (s : State) : State :=
  if !dbg && s.mode.ticken && !s.tickWritten then
    let s1 := s.setRegs { s.regs with tick := s.regs.tick + 1 }
    if s1.regs.tick = 0xFFFFFFFF then lineEvent 7 (s1.setMode { s1.mode with tickovf := true }) else s1
  else s

/-- The inputs of a clock cycle. -/
def cycleInputs (s : State) : State := inputLines (takeInput s)

/-- What precedes the core in a clock cycle: the inputs, the slave's register and program memory accesses, waking. -/
def beforeCore (s : State) : Res := andThen (slaveEarly (cycleInputs s)) fun s1 => .next (wake s1)

/-- The core in a clock cycle that it begins in debug state (`dbg`) or not: a start or continue written in this cycle acts from
the next one on (R1204). -/
def coreCycle (dbg : Bool) (s : State) : Res := if dbg then .next s else coreStep s

/-- What follows the core: the AHB master side, the slave's data memory access, the tick counter. -/
def afterCore (dbg : Bool) (s : State) : Res :=
  andThen (dmaCycle s) fun s1 => andThen (slaveLate s1) fun s2 => .next (tick dbg s2)

/-- One clock cycle of the whole machine. -/
def clockCycle (s : State) : Res :=
  let dbg := inDebug (cycleInputs s)
  andThen (beforeCore s) fun s1 => andThen (coreCycle dbg s1) fun s2 => afterCore (dbg || inDebug s1) s2

/-! ## Placing one instruction -/

/-- The core is started (R1065) with no break source but an external one. -/
def startCore (s : State) : State :=
  s.setMode { clearBreaks s.mode with start := true, asleep := false, gbreak := false }

/-- A table row's word stands at the program counter of a started core (logs 7 and 8). -/
def placeWord (nbits w : Nat) (s : State) : State :=
  (startCore s).setMem (s.mem.setPm (s.regs.pc.setWidth 13 : BitVec 13).toNat (rowBundle nbits (rowWord nbits w)))

end

end Sys2Proof.Machine
end

