-- ==== Sys2Proof/Machine/Step.lean ====
section
/-! DEFINITION. The step of the machine, one clock cycle, and the placing of one instruction where it fetches. -/

namespace Sys2Proof.Machine

noncomputable section

/-- One step: one clock cycle (R5, R330, R331). -/
def step (s : State) : Host.Outcome State Fault Refusal := clockCycle s

/-- s with a table row's instruction where the next step fetches, and the core started by its host (log 7). -/
def State.withFetchWord (s : State) (nbits w : Nat) : State := placeWord nbits w s

end

end Sys2Proof.Machine
end

