-- ==== Sys2Proof/Safety.lean ====
section
/-! DEFINITION. What counts as a sound state and a sound outcome, in the terms that statements use. -/

namespace Sys2Proof.Machine

/-- The invariant of the machine: memory is in canonical form (log 2); the bits that MGCCONDITION (R48), MGCPRED (R50),
MGCMASK and MGCEXCEPTION (R57, R58) do not have are 0; the two class overrides are never on together (R1122); bits 15:7 of
a physical page descriptor are 0 (R102). -/
structure State.Inv (s : State) : Prop where
  mem : s.mem.wf
  cond : s.regs.cond &&& ~~~condWritable = 0
  pred : s.regs.pred.getLsbD 15 = false
  mask : s.regs.mask &&& ~~~excBits = 0
  exception : s.regs.exception &&& ~~~excBits = 0
  override : (s.mode.allfatal && s.mode.nonefatal) = false
  mapped : ∀ q : BitVec 3, s.pmu.mappedAt q &&& 0x0000FF80 = 0

/-- The step went on. -/
def Sound (r : Res) : Prop := ∃ t, r = .next t

/-- What a disabled or refused write must leave alone: every register, memory and mode (R344). -/
def State.sameMachine (s t : State) : Prop :=
  t.rf = s.rf ∧ t.arf = s.arf ∧ t.tmp0 = s.tmp0 ∧ t.tmp1 = s.tmp1 ∧ t.regs = s.regs ∧ t.mode = s.mode ∧
    t.ints = s.ints ∧ t.dma = s.dma ∧ t.pmu = s.pmu ∧ t.mem = s.mem

end Sys2Proof.Machine
end

