-- ==== Sys2Proof/WellFormed.lean ====
section
/-! DEFINITION. Which instructions the spec gives a meaning by their fields alone: even pair addresses (U13), transfer
types and vector destinations (U2, U20), movement sources (U21), jump types (U14), setnotp (U3), pmucmd (U15). -/

namespace Sys2Proof

/-- The address of a register pair is even (R252). -/
def even (r : BitVec 8) : Bool := !r.getLsbD 0

/-- RFA7[8:7] names a destination (R811): RF, or a first-bank register. -/
def scalarDest (d : BitVec 9) : Bool := d.getLsbD 8 || !d.getLsbD 7

/-- A FLOW movement's destination: not MGCPC (R812). -/
def moveDest (d : BitVec 9) : Bool := scalarDest d && d != 0x008

def rfDest (d : BitVec 9) : Bool := d.getLsbD 8

/-- A vector destination: an even RF pair or an ARF register (R812). -/
def vectorDest (d : BitVec 9) : Bool :=
  if d.getLsbD 8 then even (d.setWidth 8) else decide (0x14 ≤ d.toNat) && decide (d.toNat < 0x24)

/-- A vector store of a first-bank register names an ARF register (R684). -/
def vectorSource (d : BitVec 9) : Bool :=
  if !d.getLsbD 8 && d.getLsbD 7 then
    decide (0x14 ≤ (d.setWidth 7 : BitVec 7).toNat) && decide ((d.setWidth 7 : BitVec 7).toNat < 0x24)
  else true

/-- The source of movv (R830) and of movss (R834). -/
def arfSource (a : BitVec 8) : Bool := decide (0x14 ≤ a.toNat) && decide (a.toNat < 0x24)
def fieldSource (a : BitVec 8) : Bool := decide (0x24 ≤ a.toNat) && decide (a.toNat < 0x64)

def isFlowReg (a : Nat) : Bool := decide (a < 0x14) || decide (0x70 ≤ a)
def isDmaReg (a : Nat) : Bool := decide (0x64 ≤ a) && decide (a < 0x70)

/-- movs: a first-bank source, and no movement within the FLOW or the DMA registers (R813). -/
def movePair (src : BitVec 8) (d : BitVec 9) : Bool :=
  !src.getLsbD 7 && (d.getLsbD 8 || !((isFlowReg src.toNat && isFlowReg (d.setWidth 7 : BitVec 7).toNat) ||
    (isDmaReg src.toNat && isDmaReg (d.setWidth 7 : BitVec 7).toNat)))

/-- A jump type with at most one of bits 4:0 set (R278). -/
def jumpType (j : BitVec 8) : Bool := j = 0 || j = 1 || j = 2 || j = 4 || j = 8 || j = 16

/-- The checks of each instruction. -/
def Instr.wellFormed : Instr → Bool
  | .cfaddPP _ d s1 s2 => even d && even s1 && even s2
  | .cfaddPN _ d s1 s2 => even d && even s1 && even s2
  | .cfaddNN _ d s1 s2 => even d && even s1 && even s2
  | .cfaddNP _ d s1 s2 => even d && even s1 && even s2
  | .cfjaddPP _ d s1 s2 => even d && even s1 && even s2
  | .cfjaddPN _ d s1 s2 => even d && even s1 && even s2
  | .cfjaddNN _ d s1 s2 => even d && even s1 && even s2
  | .cfjaddNP _ d s1 s2 => even d && even s1 && even s2
  | .cjjaddPP _ d s1 s2 => even d && even s1 && even s2
  | .cjjaddPN _ d s1 s2 => even d && even s1 && even s2
  | .cjjaddNN _ d s1 s2 => even d && even s1 && even s2
  | .cjjaddNP _ d s1 s2 => even d && even s1 && even s2
  | .cfraddPP _ d s1 _ => even d && even s1
  | .cfraddPN _ d s1 _ => even d && even s1
  | .cfraddNN _ d s1 _ => even d && even s1
  | .cfraddNP _ d s1 _ => even d && even s1
  | .ciaddPP _ d s1 s2 => even d && even s1 && even s2
  | .ciaddPN _ d s1 s2 => even d && even s1 && even s2
  | .ciaddNN _ d s1 s2 => even d && even s1 && even s2
  | .ciaddNP _ d s1 s2 => even d && even s1 && even s2
  | .cijaddPP _ d s1 s2 => even d && even s1 && even s2
  | .cijaddPN _ d s1 s2 => even d && even s1 && even s2
  | .cijaddNN _ d s1 s2 => even d && even s1 && even s2
  | .cijaddNP _ d s1 s2 => even d && even s1 && even s2
  | .cijjaddPP _ d s1 s2 => even d && even s1 && even s2
  | .cijjaddPN _ d s1 s2 => even d && even s1 && even s2
  | .cijjaddNN _ d s1 s2 => even d && even s1 && even s2
  | .cijjaddNP _ d s1 s2 => even d && even s1 && even s2
  | .ciraddPP _ d s1 _ => even d && even s1
  | .ciraddPN _ d s1 _ => even d && even s1
  | .ciraddNN _ d s1 _ => even d && even s1
  | .ciraddNP _ d s1 _ => even d && even s1
  | .vfabsaddPP _ d s1 s2 => even d && even s1 && even s2
  | .vfabsaddPN _ d s1 s2 => even d && even s1 && even s2
  | .vfabsaddNN _ d s1 s2 => even d && even s1 && even s2
  | .vfabsaddNP _ d s1 s2 => even d && even s1 && even s2
  | .viabsaddPP _ d s1 s2 => even d && even s1 && even s2
  | .viabsaddPN _ d s1 s2 => even d && even s1 && even s2
  | .viabsaddNN _ d s1 s2 => even d && even s1 && even s2
  | .viabsaddNP _ d s1 s2 => even d && even s1 && even s2
  | .vfaddsub _ d1 d2 s1 s2 => even d1 && even d2 && even s1 && even s2
  | .faddPP _ _ _ _ => true
  | .faddPN _ _ _ _ => true
  | .faddNN _ _ _ _ => true
  | .faddNP _ _ _ _ => true
  | .faddsub _ _ _ _ _ => true
  | .iaddPP _ _ _ _ => true
  | .iaddPN _ _ _ _ => true
  | .iaddNN _ _ _ _ => true
  | .iaddNP _ _ _ _ => true
  | .iaddsub _ _ _ _ _ => true
  | .fabsaddPP _ _ _ _ => true
  | .fabsaddPN _ _ _ _ => true
  | .fabsaddNN _ _ _ _ => true
  | .fabsaddNP _ _ _ _ => true
  | .iabsaddPP _ _ _ _ => true
  | .iabsaddPN _ _ _ _ => true
  | .iabsaddNN _ _ _ _ => true
  | .iabsaddNP _ _ _ _ => true
  | .vfmin _ d s1 s2 => even d && even s1 && even s2
  | .vimin _ d s1 s2 => even d && even s1 && even s2
  | .vfmax _ d s1 s2 => even d && even s1 && even s2
  | .vimax _ d s1 s2 => even d && even s1 && even s2
  | .vfminmax _ d1 d2 s1 s2 => even d1 && even d2 && even s1 && even s2
  | .viminmax _ d1 d2 s1 s2 => even d1 && even d2 && even s1 && even s2
  | .vswap _ d1 d2 s1 s2 => even d1 && even d2 && even s1 && even s2
  | .fmin _ _ _ _ => true
  | .imin _ _ _ _ => true
  | .fmax _ _ _ _ => true
  | .imax _ _ _ _ => true
  | .fminmax _ _ _ _ _ => true
  | .iminmax _ _ _ _ _ => true
  | .fsel _ _ _ _ => true
  | .isel _ _ _ _ => true
  | .swap _ _ _ _ _ => true
  | .viaddsub _ d1 d2 s1 s2 => even d1 && even d2 && even s1 && even s2
  | .addNop _ => true
  | .cfeq _ s1 s2 => even s1 && even s2
  | .cfne _ s1 s2 => even s1 && even s2
  | .vfeq _ s1 s2 => even s1 && even s2
  | .vflt _ s1 s2 => even s1 && even s2
  | .vfgt _ s1 s2 => even s1 && even s2
  | .vfle _ s1 s2 => even s1 && even s2
  | .vfge _ s1 s2 => even s1 && even s2
  | .vfne _ s1 s2 => even s1 && even s2
  | .vieq _ s1 s2 => even s1 && even s2
  | .vilt _ s1 s2 => even s1 && even s2
  | .vigt _ s1 s2 => even s1 && even s2
  | .vile _ s1 s2 => even s1 && even s2
  | .vige _ s1 s2 => even s1 && even s2
  | .vine _ s1 s2 => even s1 && even s2
  | .feq _ _ _ => true
  | .flt _ _ _ => true
  | .fgt _ _ _ => true
  | .fle _ _ _ => true
  | .fge _ _ _ => true
  | .fne _ _ _ => true
  | .ieq _ _ _ => true
  | .ilt _ _ _ => true
  | .igt _ _ _ => true
  | .ile _ _ _ => true
  | .ige _ _ _ => true
  | .ine _ _ _ => true
  | .cieq _ s1 s2 => even s1 && even s2
  | .cine _ s1 s2 => even s1 && even s2
  | .cfmulP _ d s1 s2 => even d && even s1 && even s2
  | .cfmulN _ d s1 s2 => even d && even s1 && even s2
  | .cfjmulP _ d s1 s2 => even d && even s1 && even s2
  | .cfjmulN _ d s1 s2 => even d && even s1 && even s2
  | .cfjmmulP _ d s1 s2 => even d && even s1 && even s2
  | .cfjmmulN _ d s1 s2 => even d && even s1 && even s2
  | .cfrmulP _ d s1 _ => even d && even s1
  | .cfrmulN _ d s1 _ => even d && even s1
  | .cimulP _ d s1 s2 => even d && even s1 && even s2
  | .cimulN _ d s1 s2 => even d && even s1 && even s2
  | .cijmulP _ d s1 s2 => even d && even s1 && even s2
  | .cijmulN _ d s1 s2 => even d && even s1 && even s2
  | .cijmmulP _ d s1 s2 => even d && even s1 && even s2
  | .cijmmulN _ d s1 s2 => even d && even s1 && even s2
  | .cirmulP _ d s1 _ => even d && even s1
  | .cirmulN _ d s1 _ => even d && even s1
  | .vfmulP _ d s1 s2 => even d && even s1 && even s2
  | .vfmulN _ d s1 s2 => even d && even s1 && even s2
  | .vimulP _ d s1 s2 => even d && even s1 && even s2
  | .vimulN _ d s1 s2 => even d && even s1 && even s2
  | .fmulP _ _ _ _ => true
  | .fmulN _ _ _ _ => true
  | .imulP _ _ _ _ => true
  | .imulN _ _ _ _ => true
  | .vsh _ d s1 s2 => even d && even s1 && even s2
  | .vshand _ d s1 s2 => even d && even s1 && even s2
  | .vshor _ d s1 s2 => even d && even s1 && even s2
  | .vshxor _ d s1 s2 => even d && even s1 && even s2
  | .vbitset _ d s1 s2 => even d && even s1 && even s2
  | .vbitclr _ d s1 s2 => even d && even s1 && even s2
  | .vbittgl _ d s1 s2 => even d && even s1 && even s2
  | .vbittst _ d s1 s2 => even d && even s1 && even s2
  | .sh _ _ _ _ => true
  | .shand _ _ _ _ => true
  | .shor _ _ _ _ => true
  | .shxor _ _ _ _ => true
  | .bitset _ _ _ _ => true
  | .bitclr _ _ _ _ => true
  | .bittgl _ _ _ _ => true
  | .bittst _ _ _ _ => true
  | .vftoi _ d s1 => even d && even s1
  | .vitof _ d s1 => even d && even s1
  | .ftoi _ _ _ => true
  | .itof _ _ _ => true
  | .vrf2rf _ d s1 => even d && even s1
  | .rf2rf _ _ _ => true
  | .invseed _ _ _ => true
  | .invsqrtseed _ _ _ => true
  | .vinvseed _ d s1 => even d && even s1
  | .vinvsqrtseed _ d s1 => even d && even s1
  | .mulNop _ => true
  | .agu0DirRs _ _ rfa7 => scalarDest rfa7
  | .agu0DirRv _ _ rfa7 => vectorDest rfa7
  | .agu0DirWs _ _ _ => true
  | .agu0DirWv _ _ rfa7 => vectorSource rfa7
  | .agu1DirRs _ _ _ => true
  | .agu1DirRv _ _ rfa5 => even rfa5
  | .agu1DirWs _ _ => true
  | .agu1DirWv _ _ => true
  | .agu0PostincRs _ _ rfa7 => scalarDest rfa7
  | .agu0PostincRv _ _ rfa7 => vectorDest rfa7
  | .agu0PostincWs _ _ _ => true
  | .agu0PostincWv _ _ rfa7 => vectorSource rfa7
  | .agu1PostincRs _ _ _ => true
  | .agu1PostincRv _ _ rfa5 => even rfa5
  | .agu1PostincWs _ _ => true
  | .agu1PostincWv _ _ => true
  | .agu0PostdecRs _ _ rfa7 => scalarDest rfa7
  | .agu0PostdecRv _ _ rfa7 => vectorDest rfa7
  | .agu0PostdecWs _ _ _ => true
  | .agu0PostdecWv _ _ rfa7 => vectorSource rfa7
  | .agu1PostdecRs _ _ _ => true
  | .agu1PostdecRv _ _ rfa5 => even rfa5
  | .agu1PostdecWs _ _ => true
  | .agu1PostdecWv _ _ => true
  | .agu0PreincRs _ _ rfa7 => scalarDest rfa7
  | .agu0PreincRv _ _ rfa7 => vectorDest rfa7
  | .agu0PreincWs _ _ _ => true
  | .agu0PreincWv _ _ rfa7 => vectorSource rfa7
  | .agu1PreincRs _ _ _ => true
  | .agu1PreincRv _ _ rfa5 => even rfa5
  | .agu1PreincWs _ _ => true
  | .agu1PreincWv _ _ => true
  | .agu0PredecRs _ _ rfa7 => scalarDest rfa7
  | .agu0PredecRv _ _ rfa7 => vectorDest rfa7
  | .agu0PredecWs _ _ _ => true
  | .agu0PredecWv _ _ rfa7 => vectorSource rfa7
  | .agu1PredecRs _ _ _ => true
  | .agu1PredecRv _ _ rfa5 => even rfa5
  | .agu1PredecWs _ _ => true
  | .agu1PredecWv _ _ => true
  | .agu0Postinc2Rs _ _ rfa7 => scalarDest rfa7
  | .agu0Postinc2Rv _ _ rfa7 => vectorDest rfa7
  | .agu0Postinc2Ws _ _ _ => true
  | .agu0Postinc2Wv _ _ rfa7 => vectorSource rfa7
  | .agu1Postinc2Rs _ _ _ => true
  | .agu1Postinc2Rv _ _ rfa5 => even rfa5
  | .agu1Postinc2Ws _ _ => true
  | .agu1Postinc2Wv _ _ => true
  | .agu0Postdec2Rs _ _ rfa7 => scalarDest rfa7
  | .agu0Postdec2Rv _ _ rfa7 => vectorDest rfa7
  | .agu0Postdec2Ws _ _ _ => true
  | .agu0Postdec2Wv _ _ rfa7 => vectorSource rfa7
  | .agu1Postdec2Rs _ _ _ => true
  | .agu1Postdec2Rv _ _ rfa5 => even rfa5
  | .agu1Postdec2Ws _ _ => true
  | .agu1Postdec2Wv _ _ => true
  | .agu0Preinc2Rs _ _ rfa7 => scalarDest rfa7
  | .agu0Preinc2Rv _ _ rfa7 => vectorDest rfa7
  | .agu0Preinc2Ws _ _ _ => true
  | .agu0Preinc2Wv _ _ rfa7 => vectorSource rfa7
  | .agu1Preinc2Rs _ _ _ => true
  | .agu1Preinc2Rv _ _ rfa5 => even rfa5
  | .agu1Preinc2Ws _ _ => true
  | .agu1Preinc2Wv _ _ => true
  | .agu0IndexRs _ _ rfa7 => scalarDest rfa7
  | .agu0IndexRv _ _ rfa7 => vectorDest rfa7
  | .agu0IndexWs _ _ _ => true
  | .agu0IndexWv _ _ rfa7 => vectorSource rfa7
  | .agu1IndexRs _ _ _ => true
  | .agu1IndexRv _ _ rfa5 => even rfa5
  | .agu1IndexWs _ _ => true
  | .agu1IndexWv _ _ => true
  | .agu0Base2immuRs _ _ rfa7 => scalarDest rfa7
  | .agu0Base2immuRv _ _ rfa7 => vectorDest rfa7
  | .agu0Base2immuWs _ _ _ => true
  | .agu0Base2immuWv _ _ rfa7 => vectorSource rfa7
  | .agu1Base2immuRs _ _ _ => true
  | .agu1Base2immuRv _ _ rfa5 => even rfa5
  | .agu1Base2immuWs _ _ => true
  | .agu1Base2immuWv _ _ => true
  | .agu0BaseimmuRs _ _ rfa7 => scalarDest rfa7
  | .agu0BaseimmuRv _ _ rfa7 => vectorDest rfa7
  | .agu0BaseimmuWs _ _ _ => true
  | .agu0BaseimmuWv _ _ rfa7 => vectorSource rfa7
  | .agu1BaseimmuRs _ _ _ => true
  | .agu1BaseimmuRv _ _ rfa5 => even rfa5
  | .agu1BaseimmuWs _ _ => true
  | .agu1BaseimmuWv _ _ => true
  | .agu0BaseimmRs _ _ rfa7 => scalarDest rfa7
  | .agu0BaseimmRv _ _ rfa7 => vectorDest rfa7
  | .agu0BaseimmWs _ _ _ => true
  | .agu0BaseimmWv _ _ rfa7 => vectorSource rfa7
  | .agu1BaseimmRs _ _ _ => true
  | .agu1BaseimmRv _ _ rfa5 => even rfa5
  | .agu1BaseimmWs _ _ => true
  | .agu1BaseimmWv _ _ => true
  | .agu0AbsRs _ _ rfa7 => scalarDest rfa7
  | .agu0AbsRv _ _ rfa7 => vectorDest rfa7
  | .agu0AbsWs _ _ _ => true
  | .agu0AbsWv _ _ rfa7 => vectorSource rfa7
  | .agu1AbsRs _ _ _ => true
  | .agu1AbsRv _ _ rfa5 => even rfa5
  | .agu1AbsWs _ _ => true
  | .agu1AbsWv _ _ => true
  | .agu0AbsldRs _ _ rfa7 => scalarDest rfa7
  | .agu0AbsldRv _ _ rfa7 => vectorDest rfa7
  | .agu0AbsldWs _ _ _ => true
  | .agu0AbsldWv _ _ rfa7 => vectorSource rfa7
  | .agu1AbsldRs _ _ _ => true
  | .agu1AbsldRv _ _ rfa5 => even rfa5
  | .agu1AbsldWs _ _ => true
  | .agu1AbsldWv _ _ => true
  | .agu0TmpRs _ _ rfa7 => scalarDest rfa7
  | .agu0TmpRv _ _ rfa7 => vectorDest rfa7
  | .agu0TmpWs _ _ _ => true
  | .agu0TmpWv _ _ rfa7 => vectorSource rfa7
  | .agu1TmpRs _ _ _ => true
  | .agu1TmpRv _ _ rfa5 => even rfa5
  | .agu1TmpWs _ _ => true
  | .agu1TmpWv _ _ => true
  | .agu0BasetmpRs _ _ rfa7 => scalarDest rfa7
  | .agu0BasetmpRv _ _ rfa7 => vectorDest rfa7
  | .agu0BasetmpWs _ _ _ => true
  | .agu0BasetmpWv _ _ rfa7 => vectorSource rfa7
  | .agu1BasetmpRs _ _ _ => true
  | .agu1BasetmpRv _ _ rfa5 => even rfa5
  | .agu1BasetmpWs _ _ => true
  | .agu1BasetmpWv _ _ => true
  | .agu0Nop _ => true
  | .agu1Nop _ => true
  | .agu0MovAAy _ _ => true
  | .agu1MovAAy _ _ => true
  | .agu0SubAAT _ _ => true
  | .agu1SubAAT _ _ => true
  | .agu0AddAAT _ _ => true
  | .agu1AddAAT _ _ => true
  | .agu0SubAAyT _ _ => true
  | .agu1SubAAyT _ _ => true
  | .agu0AddAAyT _ _ => true
  | .agu1AddAAyT _ _ => true
  | .agu0SubTAT _ _ => true
  | .agu1SubTAT _ _ => true
  | .agu0AddTAT _ _ => true
  | .agu1AddTAT _ _ => true
  | .agu0AddAASimm _ _ => true
  | .agu1AddAASimm _ _ => true
  | .agu0AddAAySimm _ _ => true
  | .agu1AddAAySimm _ _ => true
  | .agu0AddTASimm _ _ => true
  | .agu1AddTASimm _ _ => true
  | .agu0AddTTSimm _ _ => true
  | .agu1AddTTSimm _ _ => true
  | .agu0MulTASimm _ _ => true
  | .agu1MulTASimm _ _ => true
  | .agu0MulTTSimm _ _ => true
  | .agu1MulTTSimm _ _ => true
  | .agu0MulTAMy _ _ => true
  | .agu1MulTAMy _ _ => true
  | .agu0Eq _ _ => true
  | .agu1Eq _ _ => true
  | .agu0Neq _ _ => true
  | .agu1Neq _ _ => true
  | .agu0GeS _ _ => true
  | .agu1GeS _ _ => true
  | .agu0GtS _ _ => true
  | .agu1GtS _ _ => true
  | .agu0LeS _ _ => true
  | .agu1LeS _ _ => true
  | .agu0LtS _ _ => true
  | .agu1LtS _ _ => true
  | .agu0MovAT _ _ => true
  | .agu1MovAT _ _ => true
  | .agu0MovTA _ _ => true
  | .agu1MovTA _ _ => true
  | .agu0MovTM _ _ => true
  | .agu1MovTM _ _ => true
  | .agu0MovTS _ _ => true
  | .agu1MovTS _ _ => true
  | .agu0MovTL _ _ => true
  | .agu1MovTL _ _ => true
  | .agu0AddltAML _ _ => true
  | .agu1AddltAML _ _ => true
  | .agu0SubgtAM _ _ => true
  | .agu1SubgtAM _ _ => true
  | .agu0SubgtAT _ _ => true
  | .agu1SubgtAT _ _ => true
  | .agu0AddltATL _ _ => true
  | .agu1AddltATL _ _ => true
  | .agu0SubgtASimm _ _ => true
  | .agu1SubgtASimm _ _ => true
  | .agu0MovASimm _ _ => true
  | .agu1MovASimm _ _ => true
  | .agu0ClrT _ _ => true
  | .agu1ClrT _ _ => true
  | .agu0AbsA _ _ => true
  | .agu1AbsA _ _ => true
  | .agu0AbsTA _ _ => true
  | .agu1AbsTA _ _ => true
  | .agu0NegTM _ _ => true
  | .agu1NegTM _ _ => true
  | .agu0MovTUimm4 _ _ => true
  | .agu1MovTUimm4 _ _ => true
  | .agu0Bittest _ _ => true
  | .agu1Bittest _ _ => true
  | .agu0ShlAT _ _ => true
  | .agu1ShlAT _ _ => true
  | .agu0ShrAT _ _ => true
  | .agu1ShrAT _ _ => true
  | .agu0SarAT _ _ => true
  | .agu1SarAT _ _ => true
  | .agu0AndAT _ _ => true
  | .agu1AndAT _ _ => true
  | .agu0OrAT _ _ => true
  | .agu1OrAT _ _ => true
  | .agu0XorAT _ _ => true
  | .agu1XorAT _ _ => true
  | .agu0SubuAAT _ _ => true
  | .agu1SubuAAT _ _ => true
  | .agu0AdduAAT _ _ => true
  | .agu1AdduAAT _ _ => true
  | .agu0SubuAAyT _ _ => true
  | .agu1SubuAAyT _ _ => true
  | .agu0AdduAAyT _ _ => true
  | .agu1AdduAAyT _ _ => true
  | .agu0SubuTAT _ _ => true
  | .agu1SubuTAT _ _ => true
  | .agu0AdduTAT _ _ => true
  | .agu1AdduTAT _ _ => true
  | .agu0AdduAAImm _ _ => true
  | .agu1AdduAAImm _ _ => true
  | .agu0AdduAAyImm _ _ => true
  | .agu1AdduAAyImm _ _ => true
  | .agu0AdduTAImm _ _ => true
  | .agu1AdduTAImm _ _ => true
  | .agu0AdduTTImm _ _ => true
  | .agu1AdduTTImm _ _ => true
  | .agu0MuluTAImm _ _ => true
  | .agu1MuluTAImm _ _ => true
  | .agu0MuluTTImm _ _ => true
  | .agu1MuluTTImm _ _ => true
  | .agu0MuluTAMy _ _ => true
  | .agu1MuluTAMy _ _ => true
  | .agu0GeU _ _ => true
  | .agu1GeU _ _ => true
  | .agu0GtU _ _ => true
  | .agu1GtU _ _ => true
  | .agu0LeU _ _ => true
  | .agu1LeU _ _ => true
  | .agu0LtU _ _ => true
  | .agu1LtU _ _ => true
  | .agu0AddltuAML _ _ => true
  | .agu1AddltuAML _ _ => true
  | .agu0SubgtuAM _ _ => true
  | .agu1SubgtuAM _ _ => true
  | .immv _ rfa7 _ _ => vectorDest rfa7
  | .immvc _ rfa7 _ => vectorDest rfa7
  | .immsi _ rfa7 _ => moveDest rfa7
  | .immsf _ rfa7 _ => moveDest rfa7
  | .immsic _ rfa7 _ => moveDest rfa7
  | .immsfc _ rfa7 _ => moveDest rfa7
  | .imm0v _ rfa7 => vectorDest rfa7
  | .imm0s _ rfa7 => moveDest rfa7
  | .movv _ rfa7 src => vectorDest rfa7 && arfSource src
  | .movs _ rfa7 src => moveDest rfa7 && movePair src rfa7
  | .movvf _ rfa7 src => vectorDest rfa7 && even src
  | .movsf _ rfa7 _ => moveDest rfa7
  | .movss _ rfa7 src => rfDest rfa7 && fieldSource src
  | .pushOp _ => true
  | .pushAgu0 _ => true
  | .pushAgu1 _ => true
  | .pop _ => true
  | .flowTrue _ => true
  | .flowFalse _ => true
  | .fsnot _ => true
  | .fsand _ => true
  | .fsor _ => true
  | .fsxor _ => true
  | .repush _ => true
  | .fsswap _ => true
  | .fsand2 _ => true
  | .fsi2q _ => true
  | .fsq2i _ => true
  | .clrp _ _ => true
  | .setp _ => true
  | .setpv _ _ => true
  | .settop _ _ => true
  | .setop _ _ => true
  | .setagu0 _ _ => true
  | .setagu1 _ _ => true
  | .setnotp _ r => r != 3
  | .setnot _ _ => true
  | .br _ jt _ => jumpType jt
  | .brReg _ jt => jumpType jt
  | .call _ jt _ => jumpType jt
  | .callReg _ jt => jumpType jt
  | .ret _ => true
  | .reti _ => true
  | .repb _ _ => true
  | .swpipe _ _ => true
  | .watchint _ => true
  | .sleepon _ => true
  | .sirq _ _ => true
  | .halt _ => true
  | .writedma _ => true
  | .readdma _ => true
  | .prefetchReg _ => true
  | .prefetchOff _ _ => true
  | .pmucmd _ cmd => cmd = 1 || cmd = 2

end Sys2Proof
end

