-- ==== Sys2Proof/Certificates/Slice0/Obligations.lean ====
section
/-! DEFINITION. The statements for the provers, in the terms of the numbered rules of spec/. Part one gives the names the
statements are written with; part two the statements, one `def Obligations.<Name>` each. -/

namespace Sys2Proof.Claims

open Sys2Proof Sys2Proof.Machine

noncomputable section

/-! ## Gating, operands, outcomes -/

/-- The element enables of an ADD or MUL operation under predicate p (R340, R343). -/
def c0 (s : State) (i : Issue) (p : BitVec 2) : Bool := (issueGate s i p).c0
def c1 (s : State) (i : Issue) (p : BitVec 2) : Bool := (issueGate s i p).c1

/-- Some element of a vector operation is enabled. -/
abbrev PairOn (i : Issue) (p : BitVec 2) (s : State) : Prop := c0 s i p = true ∨ c1 s i p = true
/-- No element is. -/
abbrev PairOff (i : Issue) (p : BitVec 2) (s : State) : Prop := c0 s i p = false ∧ c1 s i p = false
/-- A scalar operation is enabled (R341). -/
abbrev ScalarOn (i : Issue) (p : BitVec 2) (s : State) : Prop := c0 s i p = true ∧ c1 s i p = true
/-- An address that names a register pair (R252). -/
abbrev IsEven (r : BitVec 8) : Prop := r.getLsbD 0 = false

/-- x when b holds, as a list and as an option. -/
def only {α : Type} (b : Bool) (x : α) : List α := if b then [x] else []
def opt {α : Type} (b : Bool) (x : α) : Option α := if b then some x else none

/-- A vector operation over these pairs: t when enabled and every pair address is even, refused when one is odd, no change
when no element is enabled (R252, R340, R344). That an odd pair changes nothing too when no element is enabled is the model's
choice (log 46). -/
def OnPairs (i : Issue) (p : BitVec 2) (s : State) (pairs : List (BitVec 8)) (r : Res) (t : State) : Prop :=
  (PairOn i p s → (∀ x ∈ pairs, IsEven x) → r = .next t) ∧
    (PairOn i p s → (∃ x ∈ pairs, ¬IsEven x) → r = .refused .oddPair) ∧
    (PairOff i p s → r = .next s)

/-- A scalar operation: t when enabled, no change when disabled, a fault when C0 and C1 differ (R341, R344). -/
def OnScalar (i : Issue) (p : BitVec 2) (s : State) (r : Res) (t : State) : Prop :=
  (ScalarOn i p s → r = .next t) ∧ (PairOff i p s → r = .next s) ∧
    (c0 s i p ≠ c1 s i p → r = .fault .scalarPredicate)

/-! ## Next states of ADD and MUL operations (R336, R640, R686) -/

/-- Results x0, x1 for the pair d through the issue's port in `lat` steps, the flags of the enabled paths with them, the
unit's output latched for a store; nothing else. -/
def pairNext (i : Issue) (lat : Nat) (s : State) (p : BitVec 2) (d : BitVec 8) (x0 x1 : Word40)
    (f0 f1 : BitVec 32) : State :=
  latch i (some ⟨true, lat, opt (c0 s i p) x0, opt (c1 s i p) x1⟩)
    { s with pend := s.pend ++
      ([⟨lat, .rf (mainPort i) (only (c0 s i p) (d, x0) ++ only (c1 s i p) (d + 1, x1))⟩] ++
        only (c0 s i p) ⟨lat, .sticky false f0⟩ ++ only (c1 s i p) ⟨lat, .sticky true f1⟩) }

/-- The same with a second result y0, y1 for the pair d2 through port 5 (R385). -/
def pairNext2 (i : Issue) (lat : Nat) (s : State) (p : BitVec 2) (d d2 : BitVec 8) (x0 x1 y0 y1 : Word40)
    (f0 f1 : BitVec 32) : State :=
  latch i (some ⟨true, lat, opt (c0 s i p) x0, opt (c1 s i p) x1⟩)
    { s with pend := s.pend ++
      ([⟨lat, .rf (mainPort i) (only (c0 s i p) (d, x0) ++ only (c1 s i p) (d + 1, x1))⟩] ++
        [⟨lat, .rf .p5 (only (c0 s i p) (d2, y0) ++ only (c1 s i p) (d2 + 1, y1))⟩] ++
        only (c0 s i p) ⟨lat, .sticky false f0⟩ ++ only (c1 s i p) ⟨lat, .sticky true f1⟩) }

/-- One result x for register d, the flags on the path that bit 0 of d names (R640). -/
def scalarNext (i : Issue) (lat : Nat) (s : State) (d : BitVec 8) (x : Word40) (f : BitVec 32) : State :=
  latch i (some ⟨false, lat, some x, none⟩)
    { s with pend := s.pend ++ [⟨lat, .rf (mainPort i) [(d, x)]⟩, ⟨lat, .sticky (d.getLsbD 0) f⟩] }

def scalarNext2 (i : Issue) (lat : Nat) (s : State) (d d2 : BitVec 8) (x y : Word40) (f : BitVec 32) : State :=
  latch i (some ⟨false, lat, some x, none⟩)
    { s with pend := s.pend ++
      [⟨lat, .rf (mainPort i) [(d, x)]⟩, ⟨lat, .rf .p5 [(d2, y)]⟩, ⟨lat, .sticky (d.getLsbD 0) f⟩] }

/-! ## Rows -/

/-- What one element becomes: a function of the state (fpucond, intovfen) and the two operands. -/
abbrev Fn := State → Word40 → Word40 → Val

/-- A two-source operation with destination d. -/
structure Row where
  op : BitVec 2 → BitVec 8 → BitVec 8 → BitVec 8 → Instr
  unit : Unit2
  e0 : Fn
  e1 : Fn

/-- A two-source operation with two destinations. -/
structure Row2 where
  op : BitVec 2 → BitVec 8 → BitVec 8 → BitVec 8 → BitVec 8 → Instr
  unit : Unit2
  unit2 : Unit2
  e0 : Fn
  e1 : Fn
  x0 : Fn
  x1 : Fn

/-- The signs a mnemonic puts on S1 and S2, for floating and integer sums (R381, R613, R631). -/
def fPP : Fn := fun _ a b => fadd a b
def fPN : Fn := fun _ a b => fadd a (fneg b)
def fNN : Fn := fun _ a b => fadd (fneg a) (fneg b)
def fNP : Fn := fun _ a b => fadd (fneg a) b
def iPP : Fn := fun s a b => intVal s (iadd32 false a false b)
def iPN : Fn := fun s a b => intVal s (iadd32 false a true b)
def iNN : Fn := fun s a b => intVal s (iadd32 true a true b)
def iNP : Fn := fun s a b => intVal s (iadd32 true a false b)

/-- The absolute value of a floating sum, with the sum's flags (R418), and of an integer sum (R633). -/
def fAbs (f : Fn) : Fn := fun s a b => (fabs (f s a b).1, (f s a b).2)
def iAbs (na nb : Bool) : Fn := fun s a b => intVal s (iabsadd32 na a nb b)

/-- Minimum, maximum (R618, R634), selections and swaps on fpucond0 and fpucond1 (R451, R458 to R460). -/
def fMin : Fn := fun _ a b => fmin a b
def fMax : Fn := fun _ a b => fmax a b
def iMin : Fn := fun _ a b => (iword (if xi a ≤ xi b then xi a else xi b), Ev.none)
def iMax : Fn := fun _ a b => (iword (if xi b ≤ xi a then xi a else xi b), Ev.none)
def pick0 : Fn := fun s a b => (if s.regs.cond.getLsbD 8 then a else b, Ev.none)
def pick1 : Fn := fun s a b => (if s.regs.cond.getLsbD 9 then a else b, Ev.none)
def swap0 : Fn := fun s a b => (if s.regs.cond.getLsbD 8 then b else a, Ev.none)
def swap1 : Fn := fun s a b => (if s.regs.cond.getLsbD 9 then b else a, Ev.none)
def pickInt : Fn := fun s a b => (((if s.regs.cond.getLsbD 8 then a else b).setWidth 32).setWidth 40, Ev.none)

/-- Every row gives its two elements over pairs. -/
def PairRows (i : Issue) (lat : Nat) (rows : List Row) : Prop :=
  ∀ r ∈ rows, ∀ (p : BitVec 2) (d a b : BitVec 8) (s : State),
    let x := r.e0 s (s.rfAt a) (s.rfAt b)
    let y := r.e1 s (s.rfAt (a + 1)) (s.rfAt (b + 1))
    OnPairs i p s [d, a, b] (exec (r.op p d a b) s)
      (pairNext i lat s p d x.1 y.1 (flagWord r.unit x.2) (flagWord r.unit y.2))

/-- Every row gives its element `e0` over single registers. -/
def ScalarRows (i : Issue) (lat : Nat) (rows : List Row) : Prop :=
  ∀ r ∈ rows, ∀ (p : BitVec 2) (d a b : BitVec 8) (s : State),
    let x := r.e0 s (s.rfAt a) (s.rfAt b)
    OnScalar i p s (exec (r.op p d a b) s) (scalarNext i lat s d x.1 (flagWord r.unit x.2))

def floatComplexRows : List Row := [
  ⟨.cfaddPP, .add1, fPP, fPP⟩, ⟨.cfaddPN, .add1, fPN, fPN⟩, ⟨.cfaddNN, .add1, fNN, fNN⟩, ⟨.cfaddNP, .add1, fNP, fNP⟩,
  ⟨.cfjaddPP, .add1, fPP, fPN⟩, ⟨.cfjaddPN, .add1, fPN, fPP⟩, ⟨.cfjaddNN, .add1, fNN, fNP⟩,
  ⟨.cfjaddNP, .add1, fNP, fNN⟩, ⟨.cjjaddPP, .add1, fPP, fNN⟩, ⟨.cjjaddPN, .add1, fPN, fNP⟩,
  ⟨.cjjaddNN, .add1, fNN, fPP⟩, ⟨.cjjaddNP, .add1, fNP, fPN⟩]

def integerComplexRows : List Row := [
  ⟨.ciaddPP, .add1, iPP, iPP⟩, ⟨.ciaddPN, .add1, iPN, iPN⟩, ⟨.ciaddNN, .add1, iNN, iNN⟩, ⟨.ciaddNP, .add1, iNP, iNP⟩,
  ⟨.cijaddPP, .add1, iPP, iPN⟩, ⟨.cijaddPN, .add1, iPN, iPP⟩, ⟨.cijaddNN, .add1, iNN, iNP⟩,
  ⟨.cijaddNP, .add1, iNP, iNN⟩, ⟨.cijjaddPP, .add1, iPP, iNN⟩, ⟨.cijjaddPN, .add1, iPN, iNP⟩,
  ⟨.cijjaddNN, .add1, iNN, iPP⟩, ⟨.cijjaddNP, .add1, iNP, iPN⟩]

def pairSelectRows : List Row := [
  ⟨.vfabsaddPP, .add1, fAbs fPP, fAbs fPP⟩, ⟨.vfabsaddPN, .add1, fAbs fPN, fAbs fPN⟩,
  ⟨.vfabsaddNN, .add1, fAbs fNN, fAbs fNN⟩, ⟨.vfabsaddNP, .add1, fAbs fNP, fAbs fNP⟩,
  ⟨.viabsaddPP, .add1, iAbs false false, iAbs false false⟩, ⟨.viabsaddPN, .add1, iAbs false true, iAbs false true⟩,
  ⟨.viabsaddNN, .add1, iAbs true true, iAbs true true⟩, ⟨.viabsaddNP, .add1, iAbs true false, iAbs true false⟩,
  ⟨.vfmin, .minmax, fMin, fMin⟩, ⟨.vfmax, .minmax, fMax, fMax⟩, ⟨.vimin, .minmax, iMin, iMin⟩,
  ⟨.vimax, .minmax, iMax, iMax⟩]

def scalarAddRows : List Row := [
  ⟨.faddPP, .add1, fPP, fPP⟩, ⟨.faddPN, .add1, fPN, fPN⟩, ⟨.faddNN, .add1, fNN, fNN⟩, ⟨.faddNP, .add1, fNP, fNP⟩,
  ⟨.iaddPP, .add1, iPP, iPP⟩, ⟨.iaddPN, .add1, iPN, iPN⟩, ⟨.iaddNN, .add1, iNN, iNN⟩, ⟨.iaddNP, .add1, iNP, iNP⟩,
  ⟨.fabsaddPP, .add1, fAbs fPP, fPP⟩, ⟨.fabsaddPN, .add1, fAbs fPN, fPN⟩, ⟨.fabsaddNN, .add1, fAbs fNN, fNN⟩,
  ⟨.fabsaddNP, .add1, fAbs fNP, fNP⟩, ⟨.iabsaddPP, .add1, iAbs false false, iPP⟩,
  ⟨.iabsaddPN, .add1, iAbs false true, iPN⟩, ⟨.iabsaddNN, .add1, iAbs true true, iNN⟩,
  ⟨.iabsaddNP, .add1, iAbs true false, iNP⟩, ⟨.fmin, .minmax, fMin, fMin⟩, ⟨.fmax, .minmax, fMax, fMax⟩,
  ⟨.imin, .minmax, iMin, iMin⟩, ⟨.imax, .minmax, iMax, iMax⟩, ⟨.fsel, .minmax, pick0, pick0⟩,
  ⟨.isel, .minmax, pickInt, pickInt⟩]

/-- A complex with a real operand: the real part joins S2, the imaginary part is S1's with the sign of S1 (R398). -/
structure RealRow where
  op : BitVec 2 → BitVec 8 → BitVec 8 → BitVec 8 → Instr
  e0 : Fn
  im : State → Word40 → Val

def complexRealRows : List RealRow := [
  ⟨.cfraddPP, fPP, fun _ a => (a, Ev.none)⟩, ⟨.cfraddPN, fPN, fun _ a => (a, Ev.none)⟩,
  ⟨.cfraddNN, fNN, fun _ a => (fneg a, Ev.none)⟩, ⟨.cfraddNP, fNP, fun _ a => (fneg a, Ev.none)⟩,
  ⟨.ciraddPP, iPP, fun _ a => (iword (xi a), Ev.none)⟩, ⟨.ciraddPN, iPN, fun _ a => (iword (xi a), Ev.none)⟩,
  ⟨.ciraddNN, iNN, fun s a => intVal s (iadd32 true a false 0)⟩,
  ⟨.ciraddNP, iNP, fun s a => intVal s (iadd32 true a false 0)⟩]

def pairRows2 : List Row2 := [
  ⟨.vfaddsub, .add1, .sub, fPP, fPP, fPN, fPN⟩, ⟨.viaddsub, .add1, .sub, iPP, iPP, iPN, iPN⟩,
  ⟨.vfminmax, .minmax, .minmax, fMin, fMin, fMax, fMax⟩, ⟨.viminmax, .minmax, .minmax, iMin, iMin, iMax, iMax⟩,
  ⟨.vswap, .minmax, .minmax, swap0, swap1, pick0, pick1⟩]

def scalarRows2 : List Row2 := [
  ⟨.faddsub, .add1, .sub, fPP, fPP, fPN, fPN⟩, ⟨.iaddsub, .add1, .sub, iPP, iPP, iPN, iPN⟩,
  ⟨.fminmax, .minmax, .minmax, fMin, fMin, fMax, fMax⟩, ⟨.iminmax, .minmax, .minmax, iMin, iMin, iMax, iMax⟩,
  ⟨.swap, .minmax, .minmax, swap0, swap0, pick0, pick0⟩]

/-- The predicates of R617 on the outcome of a comparison. -/
def isEq (c : Cmp) : Bool := c == .equal
def isNe (c : Cmp) : Bool := c == .less || c == .greater || c == .unordered
def isLt (c : Cmp) : Bool := c == .less
def isGt (c : Cmp) : Bool := c == .greater
def isLe (c : Cmp) : Bool := c == .less || c == .equal
def isGe (c : Cmp) : Bool := c == .greater || c == .equal

/-- A compare: its operation, the comparison, the condition of element 0 and of element 1. -/
structure CmpRow where
  op : BitVec 2 → BitVec 8 → BitVec 8 → Instr
  cmp : Word40 → Word40 → Cmp
  j0 : Cmp → Cmp → Bool
  j1 : Cmp → Cmp → Bool

/-- Each element on its own; both elements joined. -/
def each (op : BitVec 2 → BitVec 8 → BitVec 8 → Instr) (c : Word40 → Word40 → Cmp) (q : Cmp → Bool) : CmpRow :=
  ⟨op, c, fun x _ => q x, fun _ y => q y⟩
def both (op : BitVec 2 → BitVec 8 → BitVec 8 → Instr) (c : Word40 → Word40 → Cmp) (j : Cmp → Cmp → Bool) : CmpRow :=
  ⟨op, c, j, j⟩

def pairCompareRows : List CmpRow := [
  both .cfeq fcmp (fun x y => isEq x && isEq y), both .cfne fcmp (fun x y => isNe x || isNe y),
  both .cieq icmp (fun x y => isEq x && isEq y), both .cine icmp (fun x y => isNe x || isNe y),
  each .vfeq fcmp isEq, each .vfne fcmp isNe, each .vflt fcmp isLt, each .vfgt fcmp isGt, each .vfle fcmp isLe,
  each .vfge fcmp isGe, each .vieq icmp isEq, each .vine icmp isNe, each .vilt icmp isLt, each .vigt icmp isGt,
  each .vile icmp isLe, each .vige icmp isGe]

def scalarCompareRows : List CmpRow := [
  each .feq fcmp isEq, each .fne fcmp isNe, each .flt fcmp isLt, each .fgt fcmp isGt, each .fle fcmp isLe,
  each .fge fcmp isGe, each .ieq icmp isEq, each .ine icmp isNe, each .ilt icmp isLt, each .igt icmp isGt,
  each .ile icmp isLe, each .ige icmp isGe]

/-- A complex product: how P_rr and P_ii, and P_ir and P_ri, are combined (R524). -/
structure ProductRow where
  op : BitVec 2 → BitVec 8 → BitVec 8 → BitVec 8 → Instr
  mul : Fn
  re : Fn
  im : Fn

def fTimes : Fn := fun _ a b => fmul a b
def fTimesNeg : Fn := fun _ a b => fmul a (fneg b)
def iTimes : Fn := fun s a b => intVal s (imul32 a false b)
def iTimesNeg : Fn := fun s a b => intVal s (imul32 a true b)

def complexProductRows : List ProductRow := [
  ⟨.cfmulP, fTimes, fPN, fPP⟩, ⟨.cfmulN, fTimes, fNP, fNN⟩, ⟨.cfjmulP, fTimes, fPP, fPN⟩, ⟨.cfjmulN, fTimes, fNN, fNP⟩,
  ⟨.cfjmmulP, fTimes, fPN, fNN⟩, ⟨.cfjmmulN, fTimes, fNP, fPP⟩, ⟨.cimulP, iTimes, iPN, iPP⟩,
  ⟨.cimulN, iTimes, iNP, iNN⟩, ⟨.cijmulP, iTimes, iPP, iPN⟩, ⟨.cijmulN, iTimes, iNN, iNP⟩,
  ⟨.cijmmulP, iTimes, iPN, iNN⟩, ⟨.cijmmulN, iTimes, iNP, iPP⟩]

/-- A complex by a real (R536, R544). -/
def complexRealProducts : List (( BitVec 2 → BitVec 8 → BitVec 8 → BitVec 8 → Instr) × Fn) := [
  (.cfrmulP, fTimes), (.cfrmulN, fTimesNeg), (.cirmulP, iTimes), (.cirmulN, iTimesNeg)]

/-- The datum shifted as the eight high bits of S2 say, and the 32 low bits of S2 (R527); the bit S2[37:32] selects (R528). -/
def shifted (a b : Word40) : Word40 := shift a (b.extractLsb' 32 8)
def maskOf (b : Word40) : Word40 := (b.setWidth 32).setWidth 40
def selected (b : Word40) : Word40 := if (b.extractLsb' 32 6).toNat < 40 then BitVec.twoPow 40 (b.extractLsb' 32 6).toNat else 0
def silent (f : Word40 → Word40 → Word40) : Fn := fun _ a b => (f a b, Ev.none)

def shSet : Fn := silent fun a b => a ||| selected b
def shClr : Fn := silent fun a b => a &&& ~~~(selected b)
def shTgl : Fn := silent fun a b => a ^^^ selected b
def shTst : Fn := silent fun a b => if a &&& selected b = 0 then 0 else 1
def shPlain : Fn := silent shifted
def shAnd : Fn := silent fun a b => shifted a b &&& maskOf b
def shOr : Fn := silent fun a b => shifted a b ||| maskOf b
def shXor : Fn := silent fun a b => shifted a b ^^^ maskOf b

def mulPairRows : List Row := [
  ⟨.vfmulP, .mul1, fTimes, fTimes⟩, ⟨.vfmulN, .mul1, fTimesNeg, fTimesNeg⟩, ⟨.vimulP, .mul1, iTimes, iTimes⟩,
  ⟨.vimulN, .mul1, iTimesNeg, iTimesNeg⟩, ⟨.vsh, .mul1, shPlain, shPlain⟩, ⟨.vshand, .mul1, shAnd, shAnd⟩,
  ⟨.vshor, .mul1, shOr, shOr⟩, ⟨.vshxor, .mul1, shXor, shXor⟩, ⟨.vbitset, .mul1, shSet, shSet⟩,
  ⟨.vbitclr, .mul1, shClr, shClr⟩, ⟨.vbittgl, .mul1, shTgl, shTgl⟩, ⟨.vbittst, .mul1, shTst, shTst⟩]

def mulScalarRows : List Row := [
  ⟨.fmulP, .mul1, fTimes, fTimes⟩, ⟨.fmulN, .mul1, fTimesNeg, fTimesNeg⟩, ⟨.imulP, .mul1, iTimes, iTimes⟩,
  ⟨.imulN, .mul1, iTimesNeg, iTimesNeg⟩, ⟨.sh, .mul1, shPlain, shPlain⟩, ⟨.shand, .mul1, shAnd, shAnd⟩,
  ⟨.shor, .mul1, shOr, shOr⟩, ⟨.shxor, .mul1, shXor, shXor⟩, ⟨.bitset, .mul1, shSet, shSet⟩,
  ⟨.bitclr, .mul1, shClr, shClr⟩, ⟨.bittgl, .mul1, shTgl, shTgl⟩, ⟨.bittst, .mul1, shTst, shTst⟩]

/-- A one-source operation over pairs, its scalar twin, the unit and the function (R570 to R575, R580 to R584). -/
structure OneRow where
  pair : BitVec 2 → BitVec 8 → BitVec 8 → Instr
  single : BitVec 2 → BitVec 8 → BitVec 8 → Instr
  unit : Unit2
  f : Word40 → Val

def oneSourceRows : List OneRow := [
  ⟨.vftoi, .ftoi, .conv, ftoi⟩, ⟨.vitof, .itof, .conv, fun a => (itof a, Ev.none)⟩,
  ⟨.vrf2rf, .rf2rf, .conv, fun a => (a, Ev.none)⟩, ⟨.vinvseed, .invseed, .div, elInvSeed⟩,
  ⟨.vinvsqrtseed, .invsqrtseed, .div, elInvSqrtSeed⟩]

/-! ## AGU accesses -/

/-- One addressing mode with its eight operations (R691 to R706). -/
structure AccessRow where
  mode : AguMode
  rs0 : BitVec 2 → BitVec 4 → BitVec 9 → Instr
  rv0 : BitVec 2 → BitVec 4 → BitVec 9 → Instr
  ws0 : BitVec 2 → BitVec 4 → BitVec 9 → Instr
  wv0 : BitVec 2 → BitVec 4 → BitVec 9 → Instr
  rs1 : BitVec 2 → BitVec 4 → BitVec 8 → Instr
  rv1 : BitVec 2 → BitVec 4 → BitVec 8 → Instr
  ws1 : BitVec 2 → BitVec 4 → Instr
  wv1 : BitVec 2 → BitVec 4 → Instr

def accessRows : List AccessRow := [
  ⟨.dir, .agu0DirRs, .agu0DirRv, .agu0DirWs, .agu0DirWv, .agu1DirRs, .agu1DirRv, .agu1DirWs, .agu1DirWv⟩,
  ⟨.postinc, .agu0PostincRs, .agu0PostincRv, .agu0PostincWs, .agu0PostincWv, .agu1PostincRs, .agu1PostincRv, .agu1PostincWs, .agu1PostincWv⟩,
  ⟨.postdec, .agu0PostdecRs, .agu0PostdecRv, .agu0PostdecWs, .agu0PostdecWv, .agu1PostdecRs, .agu1PostdecRv, .agu1PostdecWs, .agu1PostdecWv⟩,
  ⟨.preinc, .agu0PreincRs, .agu0PreincRv, .agu0PreincWs, .agu0PreincWv, .agu1PreincRs, .agu1PreincRv, .agu1PreincWs, .agu1PreincWv⟩,
  ⟨.predec, .agu0PredecRs, .agu0PredecRv, .agu0PredecWs, .agu0PredecWv, .agu1PredecRs, .agu1PredecRv, .agu1PredecWs, .agu1PredecWv⟩,
  ⟨.postinc2, .agu0Postinc2Rs, .agu0Postinc2Rv, .agu0Postinc2Ws, .agu0Postinc2Wv, .agu1Postinc2Rs, .agu1Postinc2Rv, .agu1Postinc2Ws, .agu1Postinc2Wv⟩,
  ⟨.postdec2, .agu0Postdec2Rs, .agu0Postdec2Rv, .agu0Postdec2Ws, .agu0Postdec2Wv, .agu1Postdec2Rs, .agu1Postdec2Rv, .agu1Postdec2Ws, .agu1Postdec2Wv⟩,
  ⟨.preinc2, .agu0Preinc2Rs, .agu0Preinc2Rv, .agu0Preinc2Ws, .agu0Preinc2Wv, .agu1Preinc2Rs, .agu1Preinc2Rv, .agu1Preinc2Ws, .agu1Preinc2Wv⟩,
  ⟨.index, .agu0IndexRs, .agu0IndexRv, .agu0IndexWs, .agu0IndexWv, .agu1IndexRs, .agu1IndexRv, .agu1IndexWs, .agu1IndexWv⟩,
  ⟨.base2immu, .agu0Base2immuRs, .agu0Base2immuRv, .agu0Base2immuWs, .agu0Base2immuWv, .agu1Base2immuRs, .agu1Base2immuRv, .agu1Base2immuWs, .agu1Base2immuWv⟩,
  ⟨.baseimmu, .agu0BaseimmuRs, .agu0BaseimmuRv, .agu0BaseimmuWs, .agu0BaseimmuWv, .agu1BaseimmuRs, .agu1BaseimmuRv, .agu1BaseimmuWs, .agu1BaseimmuWv⟩,
  ⟨.baseimm, .agu0BaseimmRs, .agu0BaseimmRv, .agu0BaseimmWs, .agu0BaseimmWv, .agu1BaseimmRs, .agu1BaseimmRv, .agu1BaseimmWs, .agu1BaseimmWv⟩,
  ⟨.abs, .agu0AbsRs, .agu0AbsRv, .agu0AbsWs, .agu0AbsWv, .agu1AbsRs, .agu1AbsRv, .agu1AbsWs, .agu1AbsWv⟩,
  ⟨.absld, .agu0AbsldRs, .agu0AbsldRv, .agu0AbsldWs, .agu0AbsldWv, .agu1AbsldRs, .agu1AbsldRv, .agu1AbsldWs, .agu1AbsldWv⟩,
  ⟨.tmp, .agu0TmpRs, .agu0TmpRv, .agu0TmpWs, .agu0TmpWv, .agu1TmpRs, .agu1TmpRv, .agu1TmpWs, .agu1TmpWv⟩,
  ⟨.basetmp, .agu0BasetmpRs, .agu0BasetmpRv, .agu0BasetmpWs, .agu0BasetmpWv, .agu1BasetmpRs, .agu1BasetmpRv, .agu1BasetmpWs, .agu1BasetmpWv⟩]

/-- What the mode generates from the operands of unit u (R670, R690). -/
def generated (m : AguMode) (u : AguUnit) (x : BitVec 4) (s : State) : AguAddress := aguAddress m (aguIn s u x)
def addrOf (m : AguMode) (u : AguUnit) (x : BitVec 4) (s : State) : BitVec 16 := (generated m u x s).addr

/-- The address is legal for one word, or for a pair (R680). -/
abbrev LegalOne (m : AguMode) (u : AguUnit) (x : BitVec 4) (s : State) : Prop := (addrOf m u x s).toNat ≤ 0x3FFF
abbrev LegalTwo (m : AguMode) (u : AguUnit) (x : BitVec 4) (s : State) : Prop :=
  (addrOf m u x s).toNat ≤ 0x3FFF ∧ (addrOf m u x s).getLsbD 0 = false

/-- The bit of the boundary flag of unit u in MGCCONDITION (R48). -/
def bndBit : AguUnit → BitVec 16
  | .agu0 => 0x0002
  | .agu1 => 0x0020

/-- The pointer and the boundary flag, one step later (R673); then the port accesses `o`. -/
def accessNext (m : AguMode) (u : AguUnit) (x : BitVec 4) (s : State) (o : List PortEntry) : State :=
  let r := generated m u x s
  { s with
    pend := s.pend ++
      ((match r.newA with
        | some v => [⟨1, .aguA u x v⟩]
        | none => []) ++
       (match r.bnd with
        | some b => [⟨1, .cond (bndBit u) (if b then bndBit u else 0)⟩]
        | none => []))
    ports := s.ports ++ o }

/-- The gate of an AGU operation (R340). -/
def aguGate (u : AguUnit) (p : BitVec 2) (s : State) : Gate := issueGate s (aguIssue u) p
/-- It generates its address: G = 1. -/
abbrev AguOn (u : AguUnit) (p : BitVec 2) (s : State) : Prop := (aguGate u p s).g = true

/-- RFA7 for RF register n, for first-bank register a as a read's destination, for a as a store's source (R811). -/
def toRf (n : BitVec 8) : BitVec 9 := 1#1 ++ n
def toFirst (a : BitVec 7) : BitVec 9 := 0#2 ++ a
def fromFirst (a : BitVec 7) : BitVec 9 := 1#2 ++ a
/-- The first-bank address of the vector view of ARF register k (R38). -/
def arfAM (k : BitVec 4) : BitVec 7 := 0x14#7 + k.setWidth 7

/-- Two 16-bit fields as a 40-bit datum (R38). -/
def joined (hi lo : BitVec 16) : Word40 := (hi ++ lo : BitVec 32).setWidth 40

/-- The data a store takes from the bundle's producer for the enabled elements (R686); none when it lacks one. -/
def produced (vec : Bool) (o : Option OpOut) (e0 e1 : Bool) : Option (Nat × Option Word40 × Option Word40) :=
  match o with
  | none => none
  | some r =>
    if r.vec = vec ∧ (e0 = true → r.e0.isSome) ∧ (e1 = true → r.e1.isSome) then
      some (r.lat + 1, if e0 then r.e0 else none, if e1 then r.e1 else none)
    else none

/-- A store of the producer `o` through unit u: the enabled elements in L + 1 steps, refused without data, only the pointer
update when no element is enabled. -/
def StoresResult (m : AguMode) (u : AguUnit) (x : BitVec 4) (vec : Bool) (o : Option OpOut) (e0 e1 : Bool) (s : State)
    (r : Res) : Prop :=
  (e0 = false ∧ e1 = false → r = .next (accessNext m u x s [])) ∧
    (e0 = true ∨ e1 = true →
      match produced vec o e0 e1 with
      | some (n, v0, v1) => r = .next (accessNext m u x s [⟨u, n, .write (addrOf m u x s) v0 v1⟩])
      | none => r = .refused .storeNoProducer)

/-! ## AGU arithmetic -/

structure ArithRow where
  op0 : BitVec 2 → BitVec 4 → Instr
  op1 : BitVec 2 → BitVec 4 → Instr
  f : BitVec 4 → AguIn → AguOut

/-- The rows of Table 3-25 (R731 to R791): what each delivers from its operands (R720 to R725). -/
def arithRows : List ArithRow := [
  ⟨.agu0MovAAy, .agu1MovAAy, fun _ i => copyA i.ay⟩,
  ⟨.agu0SubAAT, .agu1SubAAT, fun _ i => signedOut true (s16 i.a - s16 i.t)⟩,
  ⟨.agu0AddAAT, .agu1AddAAT, fun _ i => signedOut true (s16 i.a + s16 i.t)⟩,
  ⟨.agu0SubAAyT, .agu1SubAAyT, fun _ i => signedOut true (s16 i.ay - s16 i.t)⟩,
  ⟨.agu0AddAAyT, .agu1AddAAyT, fun _ i => signedOut true (s16 i.ay + s16 i.t)⟩,
  ⟨.agu0SubTAT, .agu1SubTAT, fun _ i => signedOut false (s16 i.a - s16 i.t)⟩,
  ⟨.agu0AddTAT, .agu1AddTAT, fun _ i => signedOut false (s16 i.a + s16 i.t)⟩,
  ⟨.agu0AddAASimm, .agu1AddAASimm, fun _ i => signedOut true (s16 i.a + s16 i.imm)⟩,
  ⟨.agu0AddAAySimm, .agu1AddAAySimm, fun _ i => signedOut true (s16 i.ay + s16 i.imm)⟩,
  ⟨.agu0AddTASimm, .agu1AddTASimm, fun _ i => signedOut false (s16 i.a + s16 i.imm)⟩,
  ⟨.agu0AddTTSimm, .agu1AddTTSimm, fun _ i => signedOut false (s16 i.t + s16 i.imm)⟩,
  ⟨.agu0MulTASimm, .agu1MulTASimm, fun _ i => signedOut false (s16 i.a * s16 i.imm)⟩,
  ⟨.agu0MulTTSimm, .agu1MulTTSimm, fun _ i => signedOut false (s16 i.t * s16 i.imm)⟩,
  ⟨.agu0MulTAMy, .agu1MulTAMy, fun _ i => signedOut false (s16 i.a * s16 i.my)⟩,
  ⟨.agu0Eq, .agu1Eq, fun _ i => condOut (i.a == i.t)⟩,
  ⟨.agu0Neq, .agu1Neq, fun _ i => condOut (i.a != i.t)⟩,
  ⟨.agu0GeS, .agu1GeS, fun _ i => condOut (decide (s16 i.a ≥ s16 i.t))⟩,
  ⟨.agu0GtS, .agu1GtS, fun _ i => condOut (decide (s16 i.a > s16 i.t))⟩,
  ⟨.agu0LeS, .agu1LeS, fun _ i => condOut (decide (s16 i.a ≤ s16 i.t))⟩,
  ⟨.agu0LtS, .agu1LtS, fun _ i => condOut (decide (s16 i.a < s16 i.t))⟩,
  ⟨.agu0MovAT, .agu1MovAT, fun _ i => copyA i.t⟩,
  ⟨.agu0MovTA, .agu1MovTA, fun _ i => copyT i.a⟩,
  ⟨.agu0MovTM, .agu1MovTM, fun _ i => copyT i.m⟩,
  ⟨.agu0MovTS, .agu1MovTS, fun _ i => copyT i.s⟩,
  ⟨.agu0MovTL, .agu1MovTL, fun _ i => copyT i.l⟩,
  ⟨.agu0AddltAML, .agu1AddltAML, fun _ i => (signedOut true (s16 i.a + s16 i.m)).bound (decide (s16 i.a + s16 i.m < s16 i.l))⟩,
  ⟨.agu0SubgtAM, .agu1SubgtAM, fun _ i => (signedOut true (s16 i.a - s16 i.m)).bound (decide (s16 i.a - s16 i.m > 0))⟩,
  ⟨.agu0SubgtAT, .agu1SubgtAT, fun _ i => (signedOut true (s16 i.a - s16 i.t)).bound (decide (s16 i.a - s16 i.t > 0))⟩,
  ⟨.agu0AddltATL, .agu1AddltATL, fun _ i => (signedOut true (s16 i.a + s16 i.t)).bound (decide (s16 i.a + s16 i.t < s16 i.l))⟩,
  ⟨.agu0SubgtASimm, .agu1SubgtASimm, fun _ i => (signedOut true (s16 i.a - s16 i.imm)).bound (decide (s16 i.a - s16 i.imm > 0))⟩,
  ⟨.agu0MovASimm, .agu1MovASimm, fun _ i => copyA i.imm⟩,
  ⟨.agu0ClrT, .agu1ClrT, fun _ _ => copyT 0⟩,
  ⟨.agu0AbsA, .agu1AbsA, fun _ i => copyA (abs16 i.a)⟩,
  ⟨.agu0AbsTA, .agu1AbsTA, fun _ i => copyT (abs16 i.a)⟩,
  ⟨.agu0NegTM, .agu1NegTM, fun _ i => copyT (-i.m)⟩,
  ⟨.agu0Bittest, .agu1Bittest, fun _ i => condOut (i.a.getLsbD i.t.toNat)⟩,
  ⟨.agu0ShlAT, .agu1ShlAT, fun _ i => logicOut (i.a <<< i.t.toNat)⟩,
  ⟨.agu0ShrAT, .agu1ShrAT, fun _ i => logicOut (i.a >>> i.t.toNat)⟩,
  ⟨.agu0SarAT, .agu1SarAT, fun _ i => logicOut (i.a.sshiftRight i.t.toNat)⟩,
  ⟨.agu0AndAT, .agu1AndAT, fun _ i => logicOut (i.a &&& i.t)⟩,
  ⟨.agu0OrAT, .agu1OrAT, fun _ i => logicOut (i.a ||| i.t)⟩,
  ⟨.agu0XorAT, .agu1XorAT, fun _ i => logicOut (i.a ^^^ i.t)⟩,
  ⟨.agu0SubuAAT, .agu1SubuAAT, fun _ i => unsignedOut true (u16 i.a - u16 i.t)⟩,
  ⟨.agu0AdduAAT, .agu1AdduAAT, fun _ i => unsignedOut true (u16 i.a + u16 i.t)⟩,
  ⟨.agu0SubuAAyT, .agu1SubuAAyT, fun _ i => unsignedOut true (u16 i.ay - u16 i.t)⟩,
  ⟨.agu0AdduAAyT, .agu1AdduAAyT, fun _ i => unsignedOut true (u16 i.ay + u16 i.t)⟩,
  ⟨.agu0SubuTAT, .agu1SubuTAT, fun _ i => unsignedOut false (u16 i.a - u16 i.t)⟩,
  ⟨.agu0AdduTAT, .agu1AdduTAT, fun _ i => unsignedOut false (u16 i.a + u16 i.t)⟩,
  ⟨.agu0AdduAAImm, .agu1AdduAAImm, fun _ i => unsignedOut true (u16 i.a + u16 i.imm)⟩,
  ⟨.agu0AdduAAyImm, .agu1AdduAAyImm, fun _ i => unsignedOut true (u16 i.ay + u16 i.imm)⟩,
  ⟨.agu0AdduTAImm, .agu1AdduTAImm, fun _ i => unsignedOut false (u16 i.a + u16 i.imm)⟩,
  ⟨.agu0AdduTTImm, .agu1AdduTTImm, fun _ i => unsignedOut false (u16 i.t + u16 i.imm)⟩,
  ⟨.agu0MuluTAImm, .agu1MuluTAImm, fun _ i => unsignedOut false (u16 i.a * u16 i.imm)⟩,
  ⟨.agu0MuluTTImm, .agu1MuluTTImm, fun _ i => unsignedOut false (u16 i.t * u16 i.imm)⟩,
  ⟨.agu0MuluTAMy, .agu1MuluTAMy, fun _ i => unsignedOut false (u16 i.a * u16 i.my)⟩,
  ⟨.agu0GeU, .agu1GeU, fun _ i => condOut (decide (u16 i.a ≥ u16 i.t))⟩,
  ⟨.agu0GtU, .agu1GtU, fun _ i => condOut (decide (u16 i.a > u16 i.t))⟩,
  ⟨.agu0LeU, .agu1LeU, fun _ i => condOut (decide (u16 i.a ≤ u16 i.t))⟩,
  ⟨.agu0LtU, .agu1LtU, fun _ i => condOut (decide (u16 i.a < u16 i.t))⟩,
  ⟨.agu0AddltuAML, .agu1AddltuAML, fun _ i => (unsignedOut true (u16 i.a + u16 i.m)).bound (decide (u16 i.a + u16 i.m < u16 i.l))⟩,
  ⟨.agu0SubgtuAM, .agu1SubgtuAM, fun _ i => (unsignedOut true (u16 i.a - u16 i.m)).bound (decide (u16 i.a - u16 i.m > 0))⟩,
  ⟨.agu0MovTUimm4, .agu1MovTUimm4, fun x _ => copyT (x.setWidth 16)⟩]

/-- The bits of the unit's flags in MGCCONDITION: C, B, Z, N (R48). -/
def flagMask (u : AguUnit) (f : AguFlags) : BitVec 16 :=
  let n : BitVec 16 := (if f.cond.isSome then 1 else 0) ||| (if f.bnd.isSome then 2 else 0) |||
    (if f.zero.isSome then 4 else 0) ||| (if f.neg.isSome then 8 else 0)
  match u with
  | .agu0 => n
  | .agu1 => n <<< 4

/-- What the operands and the results of the rows are made of (R670, R720 to R725): where each operand comes from; the result modulo
2^16 in A or in TMP; overflow of a signed one alone; Z when it is zero, N its bit 15, C and B the condition; the bits of C, B, Z, N
(the order in `AguFlags`). -/
def AguParts : Prop :=
  (∀ (s : State) (u : AguUnit) (x : BitVec 4),
    let ext := Config.aguExt s.vliw (u == .agu1)
    let t := match u with
      | .agu0 => s.tmp0
      | .agu1 => s.tmp1
    aguIn s u x = { a := (s.arfAt x).a, m := (s.arfAt x).m, s := (s.arfAt x).s, l := (s.arfAt x).l, t := t,
                    ay := (s.arfAt ext.1).a, my := (s.arfAt ext.1).m, imm := ext.2 }) ∧
  (∀ v : BitVec 16, s16 v = v.toInt ∧ u16 v = v.toNat ∧ ((abs16 v).toNat : Int) = v.toInt.natAbs) ∧
  (∀ (toA : Bool) (e : Int), ∃ r : BitVec 16, (r.toNat : Int) = e % 2 ^ 16 ∧
    signedOut toA e = ⟨opt toA r, opt (!toA) r, ⟨none, none, some (decide (e % 2 ^ 16 = 0)), some (r.getLsbD 15)⟩,
      decide (e < -(2 ^ 15) ∨ 2 ^ 15 - 1 < e)⟩ ∧
    unsignedOut toA e = ⟨opt toA r, opt (!toA) r, ⟨none, none, some (decide (e % 2 ^ 16 = 0)), none⟩, false⟩) ∧
  (∀ r : BitVec 16,
    logicOut r = ⟨some r, none, ⟨none, none, some (decide (r = 0)), some (r.getLsbD 15)⟩, false⟩ ∧
    copyA r = ⟨some r, none, ⟨none, none, none, none⟩, false⟩ ∧ copyT r = ⟨none, some r, ⟨none, none, none, none⟩, false⟩) ∧
  (∀ b : Bool, condOut b = ⟨none, none, ⟨some b, none, none, none⟩, false⟩ ∧
    ∀ o : AguOut, o.bound b = { o with flags := { o.flags with bnd := some b } }) ∧
  ∀ (f : AguFlags) (i : Nat), i < 16 →
    let at_ := fun (b : Nat) => (i == b && f.cond == some true) || (i == b + 1 && f.bnd == some true) ||
      (i == b + 2 && f.zero == some true) || (i == b + 3 && f.neg == some true)
    (f.val .agu0).getLsbD i = at_ 0 ∧ (f.val .agu1).getLsbD i = at_ 4

/-- An arithmetic operation's next state: A, TMP and the listed flags one step later, aguUaovf at once on overflow. -/
def arithNext (u : AguUnit) (x : BitVec 4) (o : AguOut) (s : State) : State :=
  let s1 := if o.ovf then raise (aovfExc u) s else s
  { s1 with pend := s1.pend ++
      ((match o.a with
        | some v => [⟨1, .aguA u x v⟩]
        | none => []) ++
       (match o.t with
        | some v => [⟨1, .aguTmp u v⟩]
        | none => []) ++
       (if flagMask u o.flags = 0 then [] else [⟨1, .cond (flagMask u o.flags) (o.flags.val u)⟩])) }

/-! ## FLOW -/

/-- The FLOW gate (R340, R343). -/
abbrev FlowOn (p : BitVec 2) (s : State) : Prop := (gateOf s p).g = true
abbrev FlowOff (p : BitVec 2) (s : State) : Prop := (gateOf s p).g = false
/-- A scalar movement toward RF is enabled; a vector one has an enabled element (R814). -/
abbrev MoveOn (p : BitVec 2) (s : State) : Prop := (gateOf s p).c0 = true ∧ (gateOf s p).c1 = true
abbrev MoveSome (p : BitVec 2) (s : State) : Prop := (gateOf s p).c0 = true ∨ (gateOf s p).c1 = true
abbrev MoveNone (p : BitVec 2) (s : State) : Prop := (gateOf s p).c0 = false ∧ (gateOf s p).c1 = false

/-- s with one more pending write. -/
def plus (s : State) (d : Nat) (e : Effect) : State := { s with pend := s.pend ++ [⟨d, e⟩] }

/-- The scalar movements of an immediate or an RF register: operation, latency, value (R822 to R827, R833). -/
def scalarMoves (imm : BitVec 40) (sel : BitVec 2) (src : BitVec 8) (s : State) :
    List ((BitVec 2 → BitVec 9 → Instr) × Nat × Word40) := [
  (fun p d => .immsi p d imm, 1, (imm.setWidth 32).setWidth 40),
  (fun p d => .immsf p d imm, 1, imm),
  (fun p d => .immsic p d sel, 1,
    if sel = 0 then 0x0000000001 else if sel = 1 then 0x00FFFFFFFF else if sel = 2 then 0x0000000002 else 0x00FFFFFFFE),
  (fun p d => .immsfc p d sel, 1,
    if sel = 0 then 0x3F80000000 else if sel = 1 then 0xBF80000000 else if sel = 2 then 0x4000000000 else 0xC000000000),
  (fun p d => .imm0s p d, 1, 0),
  (fun p d => .movsf p d src, 3, s.rfAt src)]

/-- The vector movements: operation, latency, elements (R820, R821, R826, R830, R832); t names an even pair, k an ARF
register. -/
def vectorMoves (immh imml : BitVec 40) (t : BitVec 7) (k : BitVec 4) (s : State) :
    List ((BitVec 2 → BitVec 9 → Instr) × Nat × Word40 × Word40) := [
  (fun p d => .immv p d immh imml, 1, imml, immh),
  (fun p d => .immvc p d imml, 1, imml, fneg imml),
  (fun p d => .imm0v p d, 1, 0, 0),
  (fun p d => .movvf p d (t ++ 0#1), 3, s.rfAt (t ++ 0#1), s.rfAt (t ++ 1#1)),
  (fun p d => .movv p d (0#1 ++ arfAM k), 1,
    joined (s.arfAt k).a (s.arfAt k).m, joined (s.arfAt k).s (s.arfAt k).l)]

/-- The stack primitives of R851 and R864 on one 16-bit stack. -/
def pushed (st : BitVec 16) (b : Bool) : BitVec 16 := (st.setWidth 15 : BitVec 15) ++ BitVec.ofBool b
def popped (st : BitVec 16) : BitVec 16 := 0#1 ++ (st.extractLsb' 1 15 : BitVec 15)
def topped (st : BitVec 16) (b : Bool) : BitVec 16 := (st.extractLsb' 1 15 : BitVec 15) ++ BitVec.ofBool b
def swapped (st : BitVec 16) : BitVec 16 :=
  (st.extractLsb' 2 14 : BitVec 14) ++ BitVec.ofBool (st.getLsbD 0) ++ BitVec.ofBool (st.getLsbD 1)

/-- The fifteen stack operations (R853 to R867): the new stacks 0 and 1 from the old ones and MGCCONDITION. -/
def stackRows : List ((BitVec 2 → Instr) × (BitVec 16 → BitVec 16 → BitVec 16 → BitVec 16 × BitVec 16)) := [
  (.pushOp, fun c a b => (pushed a (c.getLsbD 8), pushed b (c.getLsbD 9))),
  (.pushAgu0, fun c a b => (pushed a (c.getLsbD 0), pushed b (c.getLsbD 0))),
  (.pushAgu1, fun c a b => (pushed a (c.getLsbD 4), pushed b (c.getLsbD 4))),
  (.pop, fun _ a b => (popped a, popped b)),
  (.flowTrue, fun _ a b => (pushed a true, pushed b true)),
  (.flowFalse, fun _ a b => (pushed a false, pushed b false)),
  (.fsnot, fun _ a b => (topped a (!a.getLsbD 0), topped b (!b.getLsbD 0))),
  (.fsand, fun _ a b => (topped a (a.getLsbD 0 && a.getLsbD 1), topped b (b.getLsbD 0 && b.getLsbD 1))),
  (.fsor, fun _ a b => (topped a (a.getLsbD 0 || a.getLsbD 1), topped b (b.getLsbD 0 || b.getLsbD 1))),
  (.fsxor, fun _ a b => (topped a (a.getLsbD 0 != a.getLsbD 1), topped b (b.getLsbD 0 != b.getLsbD 1))),
  (.repush, fun _ a b => (pushed a (a.getLsbD 0), pushed b (b.getLsbD 0))),
  (.fsswap, fun _ a b => (swapped a, swapped b)),
  (.fsand2, fun _ a b => (pushed a (a.getLsbD 0 && a.getLsbD 1), pushed b (b.getLsbD 0 && b.getLsbD 1))),
  (.fsi2q, fun _ a b => (pushed a (a.getLsbD 0), pushed b (a.getLsbD 0))),
  (.fsq2i, fun _ a b => (pushed a (b.getLsbD 0), pushed b (b.getLsbD 0)))]

/-- The predicated predicate-setting operations with destination r (R872, R875 to R878, R880): the new C0 and C1. -/
def predRows : List ((BitVec 2 → BitVec 2 → Instr) × (State → BitVec 2 → Bool × Bool)) := [
  (.clrp, fun _ _ => (false, false)),
  (.settop, fun s _ => (s.regs.stkiq.getLsbD 0, s.regs.stkiq.getLsbD 16)),
  (.setop, fun s _ => (s.regs.cond.getLsbD 8, s.regs.cond.getLsbD 9)),
  (.setagu0, fun s _ => (s.regs.cond.getLsbD 0, s.regs.cond.getLsbD 0)),
  (.setagu1, fun s _ => (s.regs.cond.getLsbD 4, s.regs.cond.getLsbD 4)),
  (.setnot, fun s r => (!(predReg s r).c0, !(predReg s r).c1))]

/-- MGCPRED.predmode (R50). -/
def predmode (s : State) : BitVec 3 := s.regs.pred.extractLsb' 12 3

/-- setpred(r, x0, x1) (R870), visible to the next bundle (R871): one pending update of MGCPRED. Where it lands alone it gives
register r the new bits, G by predmode, leaves the other registers and predmode, and changes nothing else; refused for modes 4
to 7. -/
def SetsPred (s : State) (r : BitVec 2) (x0 x1 : Bool) (res : Res) : Prop :=
  (predmode s ≤ 3 → ∃ m v : BitVec 16, res = .next (plus s 1 (.pred m v)) ∧
    ∀ u : State, u.pend = [⟨1, .pred m v⟩] → u.ports = [] → ∃ t, land u = .next t ∧
      t = { u with pend := [], regs := { u.regs with pred := t.regs.pred } } ∧
      (predReg t r).c0 = x0 ∧ (predReg t r).c1 = x1 ∧
      (predReg t r).g =
        (if predmode s = 0 then x0 else if predmode s = 1 then x0 || x1 else if predmode s = 2 then x0 && x1
          else (predReg u r).g) ∧
      (∀ q, q ≠ r → predReg t q = predReg u q) ∧ predmode t = predmode u) ∧
  (3 < predmode s → res = .refused .predmodeUndefined)

/-- The jump condition of R901; none for a jump type the spec refuses. -/
def jumpHolds (s : State) (jt : BitVec 8) : Option Bool :=
  if jt = 0x00 then some true else if jt = 0x01 then some (s.regs.cond.getLsbD 10)
  else if jt = 0x02 then some (s.regs.cond.getLsbD 8) else if jt = 0x04 then some (s.regs.stkiq.getLsbD 0)
  else if jt = 0x08 then some (s.regs.cond.getLsbD 0) else if jt = 0x10 then some (s.regs.cond.getLsbD 4) else none

/-- A jump: `taken` or `fallen` by the condition, refused for an undefined jump type, nothing when disabled. -/
def Jumps (p : BitVec 2) (jt : BitVec 8) (s : State) (r : Res) (taken fallen : State) : Prop :=
  (FlowOn p s → match jumpHolds s jt with
    | some b => r = .next (if b then taken else fallen)
    | none => r = .refused .jumpType) ∧ (FlowOff p s → r = .next s)

/-- s with the MGCSTAT bits m. -/
def withMode (s : State) (m : Mode) : State := { s with mode := m }

/-! ## Numbers (R610 to R612, R630) -/

/-- Sign, exponent and mantissa fields of a floating point word (R610). -/
def negOf (v : Word40) : Bool := v.getLsbD 39
def expOf (v : Word40) : Nat := (v.extractLsb' 31 8).toNat
def mantOf (v : Word40) : Nat := (v.extractLsb' 0 31).toNat

/-- A zero or a normal number; an infinity; a NaN (R611). A denormal pattern, which the spec leaves open (log 5), is none. -/
abbrev Finite (v : Word40) : Prop := expOf v ≠ 255 ∧ (expOf v = 0 → mantOf v = 0)
abbrev IsInf (v : Word40) : Prop := expOf v = 255 ∧ mantOf v = 0
abbrev IsNan (v : Word40) : Prop := expOf v = 255 ∧ mantOf v ≠ 0

/-- The value of a zero or normal number in units of 2^-157: 2^(e-127) * (1 + m * 2^-31) is (2^31 + m) * 2^(e-1) of them. -/
def units (v : Word40) : Int :=
  let m : Int := if expOf v = 0 then 0 else (2 ^ 31 + mantOf v : Nat) * 2 ^ (expOf v - 1)
  if negOf v then -m else m

/-- The words of the two zeros and the two infinities (R644). -/
def zeroOf (neg : Bool) : Word40 := if neg then 0x8000000000 else 0
def infOf (neg : Bool) : Word40 := if neg then 0xFF80000000 else 0x7F80000000

/-- What R612 delivers for the real number x * 2^-(157+k), x not 0: the nearest normal number, among two the one with an even
mantissa, inexact when it differs; from the middle between the largest number and 2^128 on the overflow word, and below the
middle under 2^-126 the underflow word, both free (log 5). -/
def Delivered (k : Nat) (x : Int) (r : Val) : Prop :=
  let neg := decide (x < 0)
  if (2 ^ 33 - 1) * 2 ^ (252 + k) ≤ x.natAbs then r = (Config.fpOverflowResult neg, { ovf := true, inex := true })
  else if 4 * x.natAbs < (2 ^ 33 - 1) * 2 ^ k then r = (Config.fpUnderflowResult neg, { udf := true, inex := true })
  else
    let far := fun (w : Word40) => (x - units w * 2 ^ k).natAbs
    1 ≤ expOf r.1 ∧ expOf r.1 ≤ 254 ∧ negOf r.1 = neg ∧ r.2 = { inex := decide (far r.1 ≠ 0) } ∧
      ∀ w : Word40, 1 ≤ expOf w → expOf w ≤ 254 → far r.1 ≤ far w ∧ (far r.1 = far w → w = r.1 ∨ mantOf r.1 % 2 = 0)

/-- The place of a word that is no NaN in the order of R617: an infinity lies beyond every number. -/
def rank (v : Word40) : Int := if expOf v = 255 then (if negOf v then -(2 ^ 300) else 2 ^ 300) else units v

/-- The bits of a sticky register that the events of each unit set (R51, R641). -/
def eventBits : Unit2 → List (Nat × (Ev → Bool))
  | .mul1 => [(0, (·.inex)), (1, (·.udf)), (2, (·.ovf)), (3, (·.inop))]
  | .mul2 => [(4, (·.inex)), (5, (·.udf)), (6, (·.ovf)), (7, (·.inop))]
  | .add2 => [(8, (·.inex)), (9, (·.udf)), (10, (·.carry)), (11, (·.ovf)), (12, (·.inop))]
  | .sub => [(13, (·.inex)), (14, (·.udf)), (15, (·.carry)), (16, (·.ovf)), (17, (·.inop))]
  | .add1 => [(18, (·.inex)), (19, (·.udf)), (20, (·.carry)), (21, (·.ovf)), (22, (·.inop))]
  | .div => [(23, (·.inex)), (24, (·.udf)), (25, (·.ovf)), (26, (·.dz)), (27, (·.inop))]
  | .conv => [(28, (·.inex)), (29, (·.ovf)), (30, (·.inop))]
  | .minmax => [(31, (·.inop))]

/-! ## Views of data memory (R172 to R175, R1004) -/

/-- How many 32-bit parts a view has, where the slave port finds part k of word a, the view's segment and internal address. -/
def partsOf : DmView → Nat
  | .int => 1
  | .float => 1
  | .full => 2
def busAddr : DmView → Nat → Nat → BitVec 32
  | .int, a, _ => BitVec.ofNat 32 (0x620000 + 4 * a)
  | .float, a, _ => BitVec.ofNat 32 (0x640000 + 4 * a)
  | .full, a, k => BitVec.ofNat 32 (0x660000 + 8 * a + 4 * k)
def segOf : DmView → BitVec 4
  | .int => 2
  | .float => 4
  | .full => 8
def internal : DmView → Nat → BitVec 16
  | .int, a => BitVec.ofNat 16 a
  | .float, a => BitVec.ofNat 16 a
  | .full, a => BitVec.ofNat 16 (2 * a)

/-- What part k of a view shows of a word, and what writing v there leaves of it. -/
def seen : DmView → Nat → Word40 → BitVec 32
  | .int, _, x => x.extractLsb' 0 32
  | .float, _, x => x.extractLsb' 8 32
  | .full, k, x => if k = 0 then x.extractLsb' 0 32 else 0#24 ++ (x.extractLsb' 32 8 : BitVec 8)
def stored : DmView → Nat → Word40 → BitVec 32 → Word40
  | .int, _, _, v => 0#8 ++ v
  | .float, _, _, v => v ++ 0#8
  | .full, k, x, v => if k = 0 then (x.extractLsb' 32 8 : BitVec 8) ++ v else (v.extractLsb' 0 8 : BitVec 8) ++ (x.extractLsb' 0 32 : BitVec 32)

/-- Part k of a program word (R172). -/
def partOf (k : Nat) (w : Bundle) : BitVec 32 := w.extractLsb' (32 * k) 32

/-- A host read of the register at offset off shows d and changes nothing. -/
def Shows (s : State) (off : Nat) (d : BitVec 32) : Prop :=
  s.inp.slave = some ⟨BitVec.ofNat 32 (0x680000 + off), none, true⟩ →
    slaveEarly s = .next { s with out := s.out ++ [.slaveData d] } ∧ slaveLate s = .next s

/-- A host write of v to the register at offset off leaves t, with its answer. -/
def Leaves (s : State) (off : Nat) (v : BitVec 32) (t : State) : Prop :=
  s.inp.slave = some ⟨BitVec.ofNat 32 (0x680000 + off), some v, true⟩ →
    slaveEarly s = .next { t with out := s.out ++ [.slaveOk] } ∧ slaveLate s = .next s

/-- The PMU registers, which the host alone reaches (R101 to R108, R983): what a read shows and what a write leaves. -/
def PmuTransfers (s : State) : Prop :=
  (∀ x : BitVec 6, Shows s (0x200 + 4 * x.toNat) (0#26 ++ s.pmu.virtAt x)) ∧
  (∀ q : BitVec 3, Shows s (0x300 + 4 * q.toNat) (s.pmu.mappedAt q)) ∧
  Shows s 0x320 (0#16 ++ s.pmu.faultAdd) ∧ Shows s 0x324 (0#20 ++ s.pmu.extAdd) ∧ Shows s 0x328 (pmuStat s) ∧
  Shows s 0x32C s.pmu.missCnt ∧ Shows s 0x330 (0#29 ++ s.pmu.physPt) ∧
  ∀ v : BitVec 32,
    (∀ x : BitVec 6, ∃ t, Leaves s (0x200 + 4 * x.toNat) v t ∧
      t.pmu.virtAt x =
        (v.extractLsb' 3 3 : BitVec 3) ++ ((s.pmu.virtAt x).extractLsb' 2 1 : BitVec 1) ++ (v.extractLsb' 0 2 : BitVec 2) ∧
      (∀ y, y ≠ x → t.pmu.virtAt y = s.pmu.virtAt y) ∧ t = { s with pmu := { s.pmu with virt := t.pmu.virt } }) ∧
    (∀ q : BitVec 3, ∃ t, Leaves s (0x300 + 4 * q.toNat) v t ∧
      t.pmu.mappedAt q = (v.extractLsb' 16 16 : BitVec 16) ++ 0#9 ++ (v.extractLsb' 0 7 : BitVec 7) ∧
      (∀ y, y ≠ q → t.pmu.mappedAt y = s.pmu.mappedAt y) ∧ t = { s with pmu := { s.pmu with mapped := t.pmu.mapped } }) ∧
    Leaves s 0x320 v { s with pmu := { s.pmu with faultAdd := v.extractLsb' 0 16 } } ∧
    Leaves s 0x324 v { s with pmu := { s.pmu with extAdd := v.extractLsb' 0 12 } } ∧
    Leaves s 0x32C v { s with pmu := { s.pmu with missCnt := v } } ∧
    Leaves s 0x330 v { s with pmu := { s.pmu with physPt := v.extractLsb' 0 3 } } ∧
    (v.getLsbD 1 = true → v.getLsbD 2 = true →
      s.inp.slave = some ⟨0x680328, some v, true⟩ → slaveEarly s = .refused .controlPair) ∧
    (¬(v.getLsbD 1 = true ∧ v.getLsbD 2 = true) →
      let mask := fun old => if v.getLsbD 1 then true else if v.getLsbD 2 then false else old
      (v.getLsbD 0 = false → Leaves s 0x328 v { s with pmu := { s.pmu with maskPrefetch := mask s.pmu.maskPrefetch } }) ∧
      (v.getLsbD 0 = true → Leaves s 0x328 v { s with
        pmu := { s.pmu with job := none, missAt := none, maskPrefetch := mask false }
        dma := { s.dma with running := s.dma.running.filter (· ≠ .chunk) } }))

/-- Every byte of memory outside the n from b on reads as before. -/
def SameOutside (b n : Nat) (m m' : Mem) : Prop := ∀ x, x < b ∨ b + n ≤ x → m'.read x = m.read x

/-- Program word p is the one at MGCPC (that it counts is the model's choice, log 43) or at most 3 words ahead of it while the core
runs (R195, U12). -/
abbrev Near (s : State) (p : Nat) : Prop :=
  inDebug s = false ∧ s.mode.asleep = false ∧
    ∃ i, i < 4 ∧ ∃ q, physOf s (s.regs.pc + BitVec.ofNat 16 i) = some q ∧ q.toNat = p

/-- No port of the core touched word a in this cycle; the core did not write or read it through P0B. -/
abbrev Untouched (s : State) (a : Nat) : Prop := ∀ y ∈ s.acc, y.addr ≠ a
abbrev NoP0b (s : State) (a : Nat) : Prop := ∀ y ∈ s.acc, y.addr = a → y.port ≠ .p0b

/-- What the watch makes of writes to the data words `ws` of one cycle (R1086, R1152): when MGCWATCH names one of them, the bit watch
while watchen is 1, else an event on line 5; nothing otherwise. -/
def Watched (ws : List Nat) (s t : State) : Prop :=
  let hit := s.regs.watch.toNat ∈ ws
  t.mode = (if hit ∧ s.mode.watchen = true then { s.mode with watch := true } else s.mode) ∧
    t.ints = if hit ∧ s.mode.watchen = false then (lineEvent 5 s).ints else s.ints

/-! ## The core and the other agents -/

/-- Two effects that land together through one port or toward one register class, and the exception (R337). -/
def clashes : List ((Effect → Bool) × Exc) := [
  (Effect.onPort .p7, .writerf7), (Effect.onPort .p5, .writerf5), (fun e => e.moveClass == some .arf, .writearf),
  (fun e => e.moveClass == some .flow, .writeflow), (fun e => e.moveClass == some .dma, .writedma)]

/-- First-bank registers that are written and read back whole: address and the bits that exist (R110). -/
def plainRegisters : List (BitVec 7 × BitVec 32) :=
  [(0x02, 0x1FFFFFFF), (0x07, 0xFFFFFFFF), (0x09, 0xFFFF), (0x0A, 0xFFFF), (0x0B, 0x7FFF), (0x0C, 0xFFFFFFFF),
   (0x0D, 0xFFFF), (0x0F, 0xFFFFFFFF), (0x10, 0xFFFFFFFF), (0x11, 0xFFFFFFFF), (0x12, 0xFFFFFFFF), (0x13, 0xFFFFFFFF),
   (0x70, 0xFFFFFFFF), (0x71, 0xFFFF), (0x72, 0xFFFF), (0x73, 0xFFFF), (0x74, 0xFFFF), (0x75, 0xFFFF), (0x76, 0xFFFF),
   (0x77, 0xFFFF), (0x78, 0xFFFF), (0x79, 0xFFFF), (0x7F, 0xFFFFFF)] ++
  (List.range 16).map (fun k => (BitVec.ofNat 7 (0x14 + k), 0xFFFFFFFF)) ++
  (List.range 64).map (fun k => (BitVec.ofNat 7 (0x24 + k), 0xFFFF))

/-- The registers of the active DMA channel (R85 to R93). -/
def channelRegisters : List (BitVec 7 × BitVec 32) :=
  [(0x64, 0xFFFFFFFF), (0x65, 0xFFFFFF), (0x66, 0xFFFF), (0x67, 0xFFFF), (0x68, 0xFFFF), (0x69, 0xFFFF), (0x6A, 0xFFFF),
   (0x6B, 0xF)]

/-- Register values after reset (R110, R130), by first-bank address. -/
def resetRegisters : List (BitVec 7 × BitVec 32) :=
  [(0x00, 0), (0x01, 0x00000204), (0x02, 0), (0x03, 0), (0x04, 0), (0x05, 0), (0x06, 0), (0x08, 0), (0x09, 0),
   (0x0B, 0x007), (0x0C, 0), (0x0E, 0), (0x0F, 0), (0x10, 0), (0x6C, 0), (0x6F, 0), (0x70, 0), (0x79, 0xFFFF),
   (0x7A, 0), (0x7B, 0), (0x7D, 0), (0x7F, 0)]

/-- A set/clear pair of a write-mask register (R113): bit k of w sets, bit k + 1 clears; `Both` is the write U4 refuses. -/
def setClear (w : BitVec 32) (k : Nat) (old : Bool) : Bool := if w.getLsbD k then true else if w.getLsbD (k + 1) then false else old
abbrev Both (w : BitVec 32) (k : Nat) : Prop := w.getLsbD k = true ∧ w.getLsbD (k + 1) = true

/-- The interrupt registers change by f, and with them what the service point of this core step still sees of them (R1082). -/
def byInts (s : State) (f : Ints → Ints) : State := { s with ints := f s.ints, held := s.held.map f }

/-- The bits 0 to 29 of MGCSTAT (R56). sleep, run, debug, intdbgreq and clken follow from the rest (R1060, R1063, R1150); that
sleep and run are off in debug state, and what clken shows, is DEDUCED (log 31). -/
def statBits (s : State) : List Bool :=
  let m := s.mode
  let inner := m.stop || m.gbreak || m.brk || m.watch || m.halt || m.stepreq || (s.regs.exception &&& fatalNow s) != 0
  let debug := inner || (m.ct && s.dbgReq)
  [m.asleep && !debug, !debug && !m.asleep, debug, m.start, m.step, s.regs.exception != 0, m.interrupt, m.halt, m.ct, m.stop,
   s.dbgReq, m.brk, m.watch, m.gbreak, m.ct && inner, m.decopen, m.pmuen, m.softpipe, m.pty2break, m.pmcheck, m.rptsingle, m.lock,
   m.allfatal, m.nonefatal, m.tickovf, m.intovfen, m.watchen, m.ticken,
   !debug && !m.asleep && (!m.pmuen || (physOf s s.regs.pc).isSome), m.stepreq]

/-- The bits 0 to 20 of MGCDMASTAT (R95). -/
def dmaBits (s : State) : List Bool :=
  let d := s.dma
  let busy := fun c : BitVec 2 => (d.chan c).busy || (c == 3 && s.pmu.job.any (·.asked))
  let run := fun c : BitVec 2 => d.running.any (fun t => t.channelOf == c)
  let all : List (BitVec 2) := [0, 1, 2, 3]
  all.map busy ++ all.map run ++ [all.any busy, all.any run, d.active.getLsbD 0, d.active.getLsbD 1, (d.chan d.active).prsvInt,
    (d.chan d.active).prsvExt, d.err, false] ++ (List.range 4).map (fun c => d.eot.getLsbD c) ++ [d.lock]

/-- The tested positions of MGCDMACTRL, each with its bit of MGCDMASTAT (R1012). -/
def watPairs : List (Nat × Nat) := [(12, 0), (13, 1), (14, 2), (15, 3), (16, 4), (17, 5), (18, 6), (19, 7), (20, 8), (21, 9),
  (24, 14), (26, 16), (27, 17), (28, 18), (29, 19)]

/-- Only WATcond of MGCCONDITION takes a new value, for the core; none does for the host (R112). -/
def WatBecomes (who : Writer) (b : Bool) (old new : BitVec 16) : Prop :=
  ∀ i, i < 16 → new.getLsbD i = if i = 10 && who == .core then b else old.getLsbD i

/-- t is s after steps 1 to 6 of R1010 and step 9 for a write of w to MGCDMACTRL: WATcond, lock, clreot, the aborts of R1011 (of
an idle channel too: DEDUCED, log 17), the modes of the active channel, chgchan; nothing else. -/
structure DmaCommand (who : Writer) (w : BitVec 32) (s t : State) : Prop where
  wat : WatBecomes who (watPairs.all fun x => !w.getLsbD x.1 || (dmaBits s).getD x.2 false) s.regs.cond t.regs.cond
  lock : t.dma.lock = setClear w 22 s.dma.lock
  eot : t.dma.eot = if w.getLsbD 3 then 0 else s.dma.eot
  chan : ∀ x,
    let c := s.dma.chan x
    let gone := w.getLsbD 11 || (w.getLsbD 2 && x == s.dma.active)
    t.dma.chan x = { c with
      busy := c.busy && !gone
      savedExt := if gone then none else c.savedExt
      savedInt := if gone then none else c.savedInt
      prsvInt := if x = s.dma.active then (if w.getLsbD 5 then true else c.prsvInt && !w.getLsbD 4) else c.prsvInt
      prsvExt := if x = s.dma.active then (if w.getLsbD 7 then true else c.prsvExt && !w.getLsbD 6) else c.prsvExt }
  running : t.dma.running = s.dma.running.filter fun r => !(w.getLsbD 11 || (w.getLsbD 2 && r.channelOf == s.dma.active))
  job : t.pmu = { s.pmu with job := s.pmu.job.map fun j =>
    { j with asked := j.asked && !(w.getLsbD 11 || (w.getLsbD 2 && s.dma.active == 3)) } }
  active : t.dma.active = if w.getLsbD 8 then w.extractLsb' 9 2 else s.dma.active
  rest : t = { s with
    regs := { s.regs with cond := t.regs.cond }
    pmu := t.pmu
    dma := { t.dma with err := s.dma.err, curLen := s.dma.curLen, curExt := s.dma.curExt, curInt := s.dma.curInt, part := s.dma.part } }

/-- The registers with a reset value have it (R130), PMU registers included; the core is in debug state. -/
def HasResetValues (s : State) : Prop :=
  (∀ r ∈ resetRegisters, firstRead s r.1 = r.2) ∧ (∀ q : BitVec 3, s.pmu.mappedAt q = 0) ∧ pmuRegRead s 0x324 = 0x200 ∧
    pmuStat s = 0 ∧ pmuRegRead s 0x32C = 0 ∧ pmuRegRead s 0x330 = 7 ∧ inDebug s = true

/-- The codes of each issue that the spec assigns (R256, R258, R260, R271), as what is left out. -/
def addUnassigned (c : BitVec 7) : Bool := (0x4A ≤ c && c ≤ 0x60 && c != 0x5A) || c == 0x7E
def mulUnassigned (c : BitVec 7) : Bool := (0x10 ≤ c && c ≤ 0x1F) || (0x24 ≤ c && c ≤ 0x27) || (0x2C ≤ c && c ≤ 0x2F) ||
  (0x4A ≤ c && c ≤ 0x7E)
def flowUnassigned (c : BitVec 6) : Bool := c == 0x00 || (0x20 ≤ c && c ≤ 0x22) || c == 0x25 || c == 0x2A || c == 0x39 ||
  c == 0x3C || c == 0x3E || c == 0x3F

/-- The issues that a FLOW code inhibits (R332): bit 0 ADD, bit 1 AGU1, bit 2 MUL, bit 3 AGU0. -/
def flowTakes (c : BitVec 6) : BitVec 4 :=
  if c = 0x01 then 0b1111
  else if c ∈ [0x02, 0x03, 0x04] then 0b1100
  else if c ∈ [0x0B, 0x0C, 0x26, 0x27, 0x28, 0x29, 0x37, 0x3A] then 0b0100
  else 0

/-- The AGU codes that take a second ARF index or a 16-bit immediate, addressing and arithmetic (R262). -/
def needsMore (c : BitVec 7) : Bool :=
  if c.getLsbD 6 then
    c.extractLsb' 0 6 ∈ [0x01#6, 0x04, 0x05, 0x08, 0x09, 0x0A, 0x0B, 0x0C, 0x0D, 0x0E, 0x1E, 0x1F, 0x2E, 0x2F, 0x32, 0x33, 0x34,
      0x35, 0x36, 0x37, 0x38]
  else c.extractLsb' 0 4 ∈ [0x5#4, 0x6, 0x7, 0x9, 0xA, 0xB, 0xC, 0xD]

end

end Sys2Proof.Claims

section

open Sys2Proof Sys2Proof.Machine Sys2Proof.Claims

/-! ## ADD and MUL operations -/

/-- The 24 complex sums with their signs and conjugations, floating (R386 to R397) and integer (R402 to R413); absolute sums,
minimum and maximum over pairs (R418 to R425, R445 to R448). That the minima and maxima leave fpucond0 and fpucond1 is DEDUCED,
against the delay table R1210 (log 35). -/
def Obligations.PairResults : Prop := PairRows .add 3 (floatComplexRows ++ integerComplexRows ++ pairSelectRows)

/-- The integer sums, absolute sums and products of the rows above, in plain integers (R630 to R635): modulo 2^32 with bits 39:32
zero, carry out of the two patterns, overflow flagged under intovfen alone, no other event. -/
def Obligations.IntegerArithmetic : Prop :=
  ∀ (na nb : Bool) (a b : Word40) (s : State),
    let x : Int := if na then -(a.extractLsb' 0 32).toInt else (a.extractLsb' 0 32).toInt
    let y : Int := if nb then -(b.extractLsb' 0 32).toInt else (b.extractLsb' 0 32).toInt
    let big := fun (n : Int) => decide (n < -(2 ^ 31) ∨ 2 ^ 31 - 1 < n)
    let carry := decide (2 ^ 32 ≤ x % 2 ^ 32 + y % 2 ^ 32)
    let sum := intVal s (iadd32 na a nb b)
    let abs := intVal s (iabsadd32 na a nb b)
    let prod := intVal s (imul32 a nb b)
    ((sum.1.toNat : Int) = (x + y) % 2 ^ 32 ∧ sum.2 = { carry := carry, ovf := big (x + y) && s.mode.intovfen }) ∧
    ((abs.1.toNat : Int) = ((x + y).natAbs : Int) % 2 ^ 32 ∧
      abs.2 = { carry := carry, ovf := big (x + y).natAbs && s.mode.intovfen }) ∧
    ((prod.1.toNat : Int) = ((a.extractLsb' 0 32).toInt * y) % 2 ^ 32 ∧
      prod.2 = { ovf := big ((a.extractLsb' 0 32).toInt * y) && s.mode.intovfen })

/-- A complex with a real operand (R398 to R401, R414 to R417): S2 may be odd. -/
def Obligations.ComplexWithRealSums : Prop :=
  ∀ r ∈ complexRealRows, ∀ (p : BitVec 2) (d a b : BitVec 8) (s : State),
    let x := r.e0 s (s.rfAt a) (s.rfAt b)
    let y := r.im s (s.rfAt (a + 1))
    OnPairs .add p s [d, a] (exec (r.op p d a b) s)
      (pairNext .add 3 s p d x.1 y.1 (flagWord .add1 x.2) (flagWord .add1 y.2))

/-- The 22 scalar ADD operations with one result (R427 to R430, R432 to R435, R437 to R444, R452 to R455, R458, R459). That the
minima and maxima change no flag of MGCCONDITION is DEDUCED, against the delay table R1210 (log 35). -/
def Obligations.ScalarAddResults : Prop := ScalarRows .add 3 scalarAddRows

/-- The ten operations with two results, over pairs (R426, R449 to R451, R461) and single registers (R431, R436, R456, R457,
R460): the second through port 5, the flags of both units together. That the minima and maxima leave fpucond0 and fpucond1 is
DEDUCED, against the delay table R1210 (log 35). -/
def Obligations.TwoResultOperations : Prop :=
  (∀ r ∈ pairRows2, ∀ (p : BitVec 2) (d e a b : BitVec 8) (s : State),
    let x := r.e0 s (s.rfAt a) (s.rfAt b)
    let y := r.e1 s (s.rfAt (a + 1)) (s.rfAt (b + 1))
    let v := r.x0 s (s.rfAt a) (s.rfAt b)
    let w := r.x1 s (s.rfAt (a + 1)) (s.rfAt (b + 1))
    OnPairs .add p s [d, e, a, b] (exec (r.op p d e a b) s)
      (pairNext2 .add 3 s p d e x.1 y.1 v.1 w.1 (flagWord r.unit x.2 ||| flagWord r.unit2 v.2)
        (flagWord r.unit y.2 ||| flagWord r.unit2 w.2))) ∧
  (∀ r ∈ scalarRows2, ∀ (p : BitVec 2) (d e a b : BitVec 8) (s : State),
    let x := r.e0 s (s.rfAt a) (s.rfAt b)
    let v := r.x0 s (s.rfAt a) (s.rfAt b)
    OnScalar .add p s (exec (r.op p d e a b) s)
      (scalarNext2 .add 3 s d e x.1 v.1 (flagWord r.unit x.2 ||| flagWord r.unit2 v.2)))

/-- The sixteen compares of pairs (R470 to R483, R496, R497): fpucond0 and fpucond1 of the enabled elements, nothing else; the
twelve scalar compares (R484 to R495): the same condition in both flags. The order of integers is that of the signed values of their
32 low bits, never unordered (R630, R634); what an integer reads as and is written as (R630). -/
def Obligations.Compares : Prop :=
  (∀ a b : Word40,
    let x := (a.extractLsb' 0 32).toInt
    let y := (b.extractLsb' 0 32).toInt
    icmp a b = (if x < y then .less else if x = y then .equal else .greater) ∧ xi a = x) ∧
  (∀ n : Int, ((iword n).toNat : Int) = n % 2 ^ 32) ∧
  (∀ r ∈ pairCompareRows, ∀ (p : BitVec 2) (a b : BitVec 8) (s : State),
    let x := r.cmp (s.rfAt a) (s.rfAt b)
    let y := r.cmp (s.rfAt (a + 1)) (s.rfAt (b + 1))
    OnPairs .add p s [a, b] (exec (r.op p a b) s)
      (plus s 3 (.cond ((if c0 s .add p then 0x0100 else 0) ||| (if c1 s .add p then 0x0200 else 0))
        ((if r.j0 x y then 0x0100 else 0) ||| (if r.j1 x y then 0x0200 else 0))))) ∧
  ∀ r ∈ scalarCompareRows, ∀ (p : BitVec 2) (a b : BitVec 8) (s : State),
    let x := r.cmp (s.rfAt a) (s.rfAt b)
    OnScalar .add p s (exec (r.op p a b) s) (plus s 3 (.cond 0x0300 (if r.j0 x x then 0x0300 else 0)))

/-- The sum of two floating point words (R612, R614): of numbers the exact sum, rounded; zeros and infinities. -/
def Obligations.FloatSums : Prop :=
  ∀ a b : Word40,
    (Finite a → Finite b → units a + units b ≠ 0 → Delivered 0 (units a + units b) (fadd a b)) ∧
    (Finite a → Finite b → units a + units b = 0 →
      fadd a b = (zeroOf (decide (units a = 0) && negOf a && negOf b), Ev.none)) ∧
    (IsInf a → ¬IsNan b → (IsInf b → negOf a = negOf b) → fadd a b = (a, Ev.none)) ∧
    (IsInf b → ¬IsNan a → ¬IsInf a → fadd a b = (b, Ev.none)) ∧
    (IsInf a → IsInf b → negOf a ≠ negOf b → IsNan (fadd a b).1 ∧ (fadd a b).2 = Ev.invalid)

/-- The four no-operations change nothing under any predicate (R342). -/
def Obligations.NoOperations : Prop :=
  ∀ (p : BitVec 2) (s : State), exec (.addNop p) s = .next s ∧ exec (.mulNop p) s = .next s ∧
    exec (.agu0Nop p) s = .next s ∧ exec (.agu1Nop p) s = .next s

/-- The twelve complex products (R530 to R535, R538 to R543): four products, two sums, the flags of their units (R524); the
four products of a complex by a real (R536, R537, R544, R545). -/
def Obligations.ComplexProducts : Prop :=
  (∀ r ∈ complexRealProducts, ∀ (p : BitVec 2) (d a b : BitVec 8) (s : State),
    let x := r.2 s (s.rfAt a) (s.rfAt b)
    let y := r.2 s (s.rfAt (a + 1)) (s.rfAt b)
    OnPairs .mul p s [d, a] (exec (r.1 p d a b) s)
      (pairNext .mul 5 s p d x.1 y.1 (flagWord .mul1 x.2) (flagWord .mul1 y.2))) ∧
  ∀ r ∈ complexProductRows, ∀ (p : BitVec 2) (d a b : BitVec 8) (s : State),
    let rr := r.mul s (s.rfAt a) (s.rfAt b)
    let ii := r.mul s (s.rfAt (a + 1)) (s.rfAt (b + 1))
    let ir := r.mul s (s.rfAt (a + 1)) (s.rfAt b)
    let ri := r.mul s (s.rfAt (b + 1)) (s.rfAt a)
    let x := r.re s rr.1 ii.1
    let y := r.im s ir.1 ri.1
    OnPairs .mul p s [d, a, b] (exec (r.op p d a b) s)
      (pairNext .mul 5 s p d x.1 y.1 (flagWord .mul1 rr.2 ||| flagWord .mul2 ii.2 ||| flagWord .add2 x.2)
        (flagWord .mul1 ir.2 ||| flagWord .mul2 ri.2 ||| flagWord .add2 y.2))

/-- Products, shifts and bit operations over pairs (R546 to R549, R554 to R561) and single registers (R550 to R553, R562 to
R569). -/
def Obligations.ProductsAndShifts : Prop := PairRows .mul 3 mulPairRows ∧ ScalarRows .mul 3 mulScalarRows

/-- The eight shift types (R527), with the rotation count taken modulo 40 and the encode of an absent value 0. -/
def Obligations.ShiftTypes : Prop :=
  ∀ (d : Word40) (n : BitVec 5),
    let w : BitVec 32 := d.setWidth 32
    shift d (0b000#3 ++ n) = (BitVec.ofBool (w.getLsbD 31) ++ ((w <<< n.toNat).setWidth 31 : BitVec 31)).setWidth 40 ∧
    shift d (0b001#3 ++ n) = (w.sshiftRight n.toNat).setWidth 40 ∧
    (∀ m : BitVec 6, ∀ k : Nat, k < 40 →
      (shift d (0b01#2 ++ m)).getLsbD ((k + m.toNat) % 40) = d.getLsbD k) ∧
    shift d (0b100#3 ++ n) = ((w <<< n.toNat) ||| BitVec.ofNat 32 (2 ^ n.toNat - 1)).setWidth 40 ∧
    shift d (0b101#3 ++ n) = (w >>> n.toNat).setWidth 40 ∧
    shift d (0b110#3 ++ n) = (w.rotateLeft n.toNat).setWidth 40 ∧
    (∀ (x : BitVec 3) (b : Bool) (i : Nat), i < 32 → w.getLsbD i = b →
      ((∀ j, j < 32 → i < j → w.getLsbD j = !b) →
        shift d (0b111#3 ++ x ++ 0#1 ++ BitVec.ofBool b) = BitVec.ofNat 40 i) ∧
      ((∀ j, j < i → w.getLsbD j = !b) →
        shift d (0b111#3 ++ x ++ 1#1 ++ BitVec.ofBool b) = BitVec.ofNat 40 i)) ∧
    (∀ (x : BitVec 3) (f b : Bool), (∀ j, j < 32 → w.getLsbD j = !b) →
      shift d (0b111#3 ++ x ++ BitVec.ofBool f ++ BitVec.ofBool b) = 0)

/-- Conversions, moves and seeds over pairs and single registers (R570 to R575, R580 to R584). -/
def Obligations.OneSourceOperations : Prop :=
  ∀ r ∈ oneSourceRows, ∀ (p : BitVec 2) (d a : BitVec 8) (s : State),
    let x := r.f (s.rfAt a)
    let y := r.f (s.rfAt (a + 1))
    OnPairs .mul p s [d, a] (exec (r.pair p d a) s)
      (pairNext .mul 3 s p d x.1 y.1 (flagWord r.unit x.2) (flagWord r.unit y.2)) ∧
    OnScalar .mul p s (exec (r.single p d a) s) (scalarNext .mul 3 s d x.1 (flagWord r.unit x.2))

/-- Conversions and order: an integer converts exactly (R620); a number is truncated, with the events of R619; compares, minimum
and maximum follow the order of the values (R617, R618). -/
def Obligations.FloatConversionsAndOrder : Prop :=
  (∀ v : Word40, Finite (itof v) ∧ units (itof v) = (v.extractLsb' 0 32).toInt * 2 ^ 157) ∧
  (∀ v : Word40,
    let n := (units v).tdiv (2 ^ 157)
    (Finite v → -(2 ^ 31) ≤ n → n < 2 ^ 31 →
      ((ftoi v).1.toNat : Int) = n % 2 ^ 32 ∧ (ftoi v).2 = { inex := decide (n * 2 ^ 157 ≠ units v) }) ∧
    (IsInf v ∨ (Finite v ∧ (n < -(2 ^ 31) ∨ 2 ^ 31 ≤ n)) →
      ftoi v = ((Config.ftoiOverflow (negOf v)).setWidth 40, { ovf := true })) ∧
    (IsNan v → ftoi v = (Config.ftoiNan.setWidth 40, Ev.invalid))) ∧
  ∀ a b : Word40, Finite a ∨ IsInf a → Finite b ∨ IsInf b →
    fcmp a b = (if rank a < rank b then .less else if rank a = rank b then .equal else .greater) ∧
    fmin a b = (if rank a ≤ rank b then a else b, Ev.none) ∧ fmax a b = (if rank b ≤ rank a then a else b, Ev.none)

/-- The product of two floating point words (R612, R616): of numbers the exact product, rounded; zeros and infinities. -/
def Obligations.FloatProducts : Prop :=
  ∀ a b : Word40,
    let neg := negOf a != negOf b
    (Finite a → Finite b → units a * units b ≠ 0 → Delivered 157 (units a * units b) (fmul a b)) ∧
    (Finite a → Finite b → units a * units b = 0 → fmul a b = (zeroOf neg, Ev.none)) ∧
    (IsInf a → IsInf b ∨ (Finite b ∧ units b ≠ 0) → fmul a b = (infOf neg, Ev.none)) ∧
    (IsInf b → Finite a → units a ≠ 0 → fmul a b = (infOf neg, Ev.none)) ∧
    ((IsInf a ∧ Finite b ∧ units b = 0) ∨ (IsInf b ∧ Finite a ∧ units a = 0) →
      IsNan (fmul a b).1 ∧ (fmul a b).2 = Ev.invalid)

/-- fneg inverts bit 39, fabs clears it, all other bits stay (R613). A NaN operand of a floating sum, product, minimum, maximum or
compare (R614 to R618): a NaN with the invalid event, or unordered. What the seed generators' names force (R580): a zero divides
by zero; a NaN, and for the square root a negative number that is not zero, is invalid and gives a NaN. -/
def Obligations.SignsNansAndSeeds : Prop :=
  (∀ (v : Word40) (i : Nat), i < 40 →
    (fneg v).getLsbD i = (if i = 39 then !v.getLsbD i else v.getLsbD i) ∧
    (fabs v).getLsbD i = (if i = 39 then false else v.getLsbD i)) ∧
  (∀ a b : Word40, IsNan a ∨ IsNan b →
    (∀ r ∈ [fadd a b, fmul a b, fmin a b, fmax a b], IsNan r.1 ∧ r.2 = Ev.invalid) ∧ fcmp a b = .unordered) ∧
  ∀ v : Word40,
    (fpExp v = 0 → fpMant v = 0 → (elInvSeed v).2.dz = true ∧ (elInvSqrtSeed v).2.dz = true) ∧
    (fpExp v = 255 → fpMant v ≠ 0 → (elInvSeed v).2.inop = true ∧ (elInvSqrtSeed v).2.inop = true ∧
      fpDecode (elInvSeed v).1 = .nan ∧ fpDecode (elInvSqrtSeed v).1 = .nan) ∧
    (0 < fpExp v → fpExp v < 255 → fpSign v = true → (elInvSqrtSeed v).2.inop = true ∧ fpDecode (elInvSqrtSeed v).1 = .nan)

/-! ## AGU operations -/

/-- The sixteen addressing modes (R690) and the circular update (R676). -/
def Obligations.AddressModeTable : Prop :=
  (∀ (b a l : BitVec 16) (d : Int), l = 0 → circ b a l d = (BitVec.ofInt 16 (a.toNat + d), none)) ∧
  (∀ (b a l : BitVec 16) (d : Int), l ≠ 0 →
    let e : Int := a.toNat + d
    circ b a l d =
      (BitVec.ofInt 16
        (if 0 ≤ d then (if e - b.toNat < l.toNat then e else e - l.toNat) else (if (b.toNat : Int) ≤ e then e else e + l.toNat)),
       some (decide ((b.toNat : Int) + l.toNat ≤ e ∨ e < b.toNat)))) ∧
  (∀ i : AguIn,
    let up := circ i.s i.a i.l i.m.toInt
    let dn := circ i.s i.a i.l (-i.m.toInt)
    let up2 := circ i.s i.a i.l i.my.toInt
    let dn2 := circ i.s i.a i.l (-i.my.toInt)
    aguAddress .dir i = ⟨i.a, none, none⟩ ∧
    aguAddress .postinc i = ⟨i.a, some up.1, up.2⟩ ∧
    aguAddress .postdec i = ⟨i.a, some dn.1, dn.2⟩ ∧
    aguAddress .preinc i = ⟨up.1, some up.1, up.2⟩ ∧
    aguAddress .predec i = ⟨dn.1, some dn.1, dn.2⟩ ∧
    aguAddress .postinc2 i = ⟨i.a, some up2.1, up2.2⟩ ∧
    aguAddress .postdec2 i = ⟨i.a, some dn2.1, dn2.2⟩ ∧
    aguAddress .preinc2 i = ⟨up2.1, some up2.1, up2.2⟩ ∧
    aguAddress .index i = ⟨up.1, none, up.2⟩ ∧
    aguAddress .base2immu i = ⟨i.ay + i.imm, some (i.ay + i.imm), none⟩ ∧
    aguAddress .baseimmu i = ⟨i.a + i.imm, some (i.a + i.imm), none⟩ ∧
    aguAddress .baseimm i = ⟨i.a + i.imm, none, none⟩ ∧
    aguAddress .abs i = ⟨i.imm, none, none⟩ ∧
    aguAddress .absld i = ⟨i.imm, some i.imm, none⟩ ∧
    aguAddress .tmp i = ⟨i.t, none, none⟩ ∧
    aguAddress .basetmp i = ⟨i.a + i.t, none, none⟩)

/-- Reads toward the Register File, AGU0 through port 7 (R682), AGU1 through port 5 (R683): the memory port in the next step,
the enabled elements; refused for an odd pair. That a scalar form with C0 and C1 different faults whatever its address, and that
a read with no element enabled takes its port, is the model's choice (logs 22 and 34). -/
def Obligations.ReadsIntoRegisterFile : Prop :=
  (∀ r ∈ accessRows, ∀ (p : BitVec 2) (x : BitVec 4) (n : BitVec 8) (s : State), AguOn .agu1 p s →
    let g := aguGate .agu1 p s
    (LegalOne r.mode .agu1 x s → g.c0 = g.c1 →
      exec (r.rs1 p x n) s =
        .next (accessNext r.mode .agu1 x s [⟨.agu1, 1, .read (addrOf r.mode .agu1 x s) false (.rf .p5 n g.c0 false)⟩])) ∧
    (g.c0 ≠ g.c1 → exec (r.rs1 p x n) s = .fault .scalarPredicate) ∧
    (LegalTwo r.mode .agu1 x s → IsEven n →
      exec (r.rv1 p x n) s =
        .next (accessNext r.mode .agu1 x s [⟨.agu1, 1, .read (addrOf r.mode .agu1 x s) true (.rf .p5 n g.c0 g.c1)⟩])) ∧
    (LegalTwo r.mode .agu1 x s → ¬IsEven n → exec (r.rv1 p x n) s = .refused .oddPair)) ∧
  ∀ r ∈ accessRows, ∀ (p : BitVec 2) (x : BitVec 4) (n : BitVec 8) (s : State), AguOn .agu0 p s →
    let g := aguGate .agu0 p s
    (LegalOne r.mode .agu0 x s → g.c0 = g.c1 →
      exec (r.rs0 p x (toRf n)) s =
        .next (accessNext r.mode .agu0 x s [⟨.agu0, 1, .read (addrOf r.mode .agu0 x s) false (.rf .p7 n g.c0 false)⟩])) ∧
    (g.c0 ≠ g.c1 → exec (r.rs0 p x (toRf n)) s = .fault .scalarPredicate) ∧
    (LegalTwo r.mode .agu0 x s → IsEven n →
      exec (r.rv0 p x (toRf n)) s =
        .next (accessNext r.mode .agu0 x s [⟨.agu0, 1, .read (addrOf r.mode .agu0 x s) true (.rf .p7 n g.c0 g.c1)⟩])) ∧
    (LegalTwo r.mode .agu0 x s → ¬IsEven n → exec (r.rv0 p x (toRf n)) s = .refused .oddPair)

/-- AGU0 reads toward first-bank registers (R682): scalar anywhere, vector toward ARF registers alone; refused for transfer
type 01. -/
def Obligations.Agu0ReadsIntoFirstBank : Prop :=
  ∀ r ∈ accessRows, ∀ (p : BitVec 2) (x : BitVec 4) (a : BitVec 7) (s : State), AguOn .agu0 p s →
    (LegalOne r.mode .agu0 x s →
      exec (r.rs0 p x (toFirst a)) s =
        .next (accessNext r.mode .agu0 x s [⟨.agu0, 1, .read (addrOf r.mode .agu0 x s) false (.first a)⟩]) ∧
      exec (r.rs0 p x (fromFirst a)) s = .refused .transferType) ∧
    (LegalTwo r.mode .agu0 x s →
      (∀ k, exec (r.rv0 p x (toFirst (arfAM k))) s =
        .next (accessNext r.mode .agu0 x s [⟨.agu0, 1, .read (addrOf r.mode .agu0 x s) true (.arf k)⟩])) ∧
      ((∀ k, a ≠ arfAM k) → exec (r.rv0 p x (toFirst a)) s = .refused .vectorFirstBank) ∧
      exec (r.rv0 p x (fromFirst a)) s = .refused .transferType)

/-- Stores of an operator result (R686): the MUL result through AGU0, for every transfer type but 01, the ADD result through
AGU1. That a scalar form with C0 and C1 different faults whatever its address, and that a store with no element enabled uses no
port while its pointer and flag are updated, is the model's choice (logs 22 and 34). -/
def Obligations.StoresOfResults : Prop :=
  (∀ r ∈ accessRows, ∀ (p : BitVec 2) (x : BitVec 4) (s : State), AguOn .agu1 p s →
    let g := aguGate .agu1 p s
    (LegalOne r.mode .agu1 x s → g.c0 = g.c1 →
      StoresResult r.mode .agu1 x false s.addOut g.c0 false s (exec (r.ws1 p x) s)) ∧
    (g.c0 ≠ g.c1 → exec (r.ws1 p x) s = .fault .scalarPredicate) ∧
    (LegalTwo r.mode .agu1 x s → StoresResult r.mode .agu1 x true s.addOut g.c0 g.c1 s (exec (r.wv1 p x) s))) ∧
  ∀ r ∈ accessRows, ∀ (p : BitVec 2) (x : BitVec 4) (t : BitVec 9) (s : State), AguOn .agu0 p s →
    (∀ a, t ≠ fromFirst a) →
    let g := aguGate .agu0 p s
    (LegalOne r.mode .agu0 x s → g.c0 = g.c1 →
      StoresResult r.mode .agu0 x false s.mulOut g.c0 false s (exec (r.ws0 p x t) s)) ∧
    (g.c0 ≠ g.c1 → exec (r.ws0 p x t) s = .fault .scalarPredicate) ∧
    (LegalTwo r.mode .agu0 x s → StoresResult r.mode .agu0 x true s.mulOut g.c0 g.c1 s (exec (r.wv0 p x t) s))

/-- AGU0 stores of a first-bank register (R684): the register as it reads now, the port in the next step. That G alone enables
these stores, whatever C0 and C1 are, is DEDUCED (log 23). -/
def Obligations.Agu0StoresOfFirstBank : Prop :=
  ∀ r ∈ accessRows, ∀ (p : BitVec 2) (x : BitVec 4) (a : BitVec 7) (s : State), AguOn .agu0 p s →
    (LegalOne r.mode .agu0 x s →
      exec (r.ws0 p x (fromFirst a)) s =
        .next (readMark a (accessNext r.mode .agu0 x s
          [⟨.agu0, 1, .write (addrOf r.mode .agu0 x s) (some ((firstRead s a).setWidth 40)) none⟩]))) ∧
    (¬LegalOne r.mode .agu0 x s → exec (r.ws0 p x (fromFirst a)) s = .next (raise .agu0ovf s)) ∧
    (LegalTwo r.mode .agu0 x s → ∀ k,
      exec (r.wv0 p x (fromFirst (arfAM k))) s =
        .next (accessNext r.mode .agu0 x s [⟨.agu0, 1, .write (addrOf r.mode .agu0 x s)
          (some (joined (s.arfAt k).a (s.arfAt k).m)) (some (joined (s.arfAt k).s (s.arfAt k).l))⟩])) ∧
    (LegalTwo r.mode .agu0 x s → (∀ k, a ≠ arfAM k) →
      exec (r.wv0 p x (fromFirst a)) s = .refused .vectorFirstBank)

/-- An address above 0x3FFF, or odd for a pair, raises the unit's exceptions and does nothing else (R680); G = 0 does
nothing at all (R344). -/
def Obligations.AddressExceptions : Prop :=
  ∀ r ∈ accessRows, ∀ (p : BitVec 2) (x : BitVec 4) (t : BitVec 9) (n : BitVec 8) (s : State),
    (∀ i ∈ [r.rs0 p x t, r.rv0 p x t, r.ws0 p x t, r.wv0 p x t], (aguGate .agu0 p s).g = false → exec i s = .next s) ∧
    (∀ i ∈ [r.rs1 p x n, r.rv1 p x n, r.ws1 p x, r.wv1 p x], (aguGate .agu1 p s).g = false → exec i s = .next s) ∧
    (AguOn .agu0 p s → (aguGate .agu0 p s).c0 = (aguGate .agu0 p s).c1 → ¬LegalOne r.mode .agu0 x s →
      exec (r.rs0 p x t) s = .next (raise .agu0ovf s) ∧ exec (r.ws0 p x t) s = .next (raise .agu0ovf s)) ∧
    (AguOn .agu1 p s → (aguGate .agu1 p s).c0 = (aguGate .agu1 p s).c1 → ¬LegalOne r.mode .agu1 x s →
      exec (r.rs1 p x n) s = .next (raise .agu1ovf s) ∧ exec (r.ws1 p x) s = .next (raise .agu1ovf s)) ∧
    (AguOn .agu0 p s → ¬LegalTwo r.mode .agu0 x s → ∀ i ∈ [r.rv0 p x t, r.wv0 p x t],
      exec i s = .next (
        let s1 := if (addrOf r.mode .agu0 x s).toNat ≤ 0x3FFF then s else raise .agu0ovf s
        if (addrOf r.mode .agu0 x s).getLsbD 0 then raise .agu0pty s1 else s1)) ∧
    (AguOn .agu1 p s → ¬LegalTwo r.mode .agu1 x s → ∀ i ∈ [r.rv1 p x n, r.wv1 p x],
      exec i s = .next (
        let s1 := if (addrOf r.mode .agu1 x s).toNat ≤ 0x3FFF then s else raise .agu1ovf s
        if (addrOf r.mode .agu1 x s).getLsbD 0 then raise .agu1pty s1 else s1))

/-- The 62 arithmetic operations of both units (R731 to R792), each as its row of Table 3-25, and what the rows are made of (R721,
R722, R724, R725). -/
def Obligations.AguArithmetic : Prop :=
  AguParts ∧ ∀ r ∈ arithRows, ∀ (p : BitVec 2) (x : BitVec 4) (s : State),
    (AguOn .agu0 p s → exec (r.op0 p x) s = .next (arithNext .agu0 x (r.f x (aguIn s .agu0 x)) s)) ∧
    (AguOn .agu1 p s → exec (r.op1 p x) s = .next (arithNext .agu1 x (r.f x (aguIn s .agu1 x)) s)) ∧
    ((aguGate .agu0 p s).g = false → exec (r.op0 p x) s = .next s) ∧
    ((aguGate .agu1 p s).g = false → exec (r.op1 p x) s = .next s)

/-! ## FLOW operations -/

/-- Scalar immediates and movsf (R822 to R827, R833): toward RF under C0 = C1, toward the first bank under G. That
movsf copies an RF register to an RF register is DEDUCED, against a sentence of R574 (log 38). -/
def Obligations.ScalarMovements : Prop :=
  ∀ (imm : BitVec 40) (sel : BitVec 2) (src : BitVec 8) (s : State), ∀ r ∈ scalarMoves imm sel src s,
    ∀ p : BitVec 2,
      (MoveOn p s → ∀ n, exec (r.1 p (toRf n)) s = .next (plus s r.2.1 (.rf .p7 [(n, r.2.2)]))) ∧
      (MoveNone p s → ∀ n, exec (r.1 p (toRf n)) s = .next s) ∧
      ((gateOf s p).c0 ≠ (gateOf s p).c1 → ∀ n, exec (r.1 p (toRf n)) s = .fault .scalarPredicate) ∧
      (FlowOn p s → ∀ a, a ≠ 0x08 → exec (r.1 p (toFirst a)) s = .next (plus s r.2.1 (.move a r.2.2 (r.2.1 == 1)))) ∧
      (FlowOn p s → exec (r.1 p (toFirst 0x08)) s = .refused .movePc) ∧
      (FlowOn p s → ∀ a, exec (r.1 p (fromFirst a)) s = .refused .transferType) ∧
      (FlowOff p s → ∀ a, exec (r.1 p (toFirst a)) s = .next s)

/-- Vector immediates, movv and movvf (R820, R821, R826, R830, R832): element by element toward an even RF pair, all four
fields toward an ARF register; a source the spec does not give movv or movvf is refused. That movvf copies an RF pair to an RF
pair is DEDUCED, against a sentence of R574 (log 38). That a disabled one is not refused, whatever its fields, is the model's choice
(log 46). -/
def Obligations.VectorMovements : Prop :=
  (∀ (p : BitVec 2) (n src : BitVec 8) (s : State), MoveSome p s → IsEven n →
    (¬IsEven src → exec (.movvf p (toRf n) src) s = .refused .oddPair) ∧
    (src.toNat < 0x80 → (∀ k, src ≠ 0#1 ++ arfAM k) → exec (.movv p (toRf n) src) s = .refused .vectorFirstBank) ∧
    (0x80 ≤ src.toNat → exec (.movv p (toRf n) src) s = .refused .movementClass)) ∧
  ∀ (immh imml : BitVec 40) (t : BitVec 7) (k : BitVec 4) (s : State), ∀ r ∈ vectorMoves immh imml t k s,
    ∀ p : BitVec 2,
      (MoveSome p s → ∀ n, IsEven n → exec (r.1 p (toRf n)) s = .next (plus s r.2.1 (.rf .p7
        (only (gateOf s p).c0 (n, r.2.2.1) ++ only (gateOf s p).c1 (n + 1, r.2.2.2))))) ∧
      (MoveSome p s → ∀ n, ¬IsEven n → exec (r.1 p (toRf n)) s = .refused .oddPair) ∧
      (MoveNone p s → ∀ n, exec (r.1 p (toRf n)) s = .next s) ∧
      (FlowOn p s → ∀ j, exec (r.1 p (toFirst (arfAM j))) s = .next (plus s r.2.1 (.moveArf j r.2.2.1 r.2.2.2))) ∧
      (FlowOn p s → ∀ a, (∀ j, a ≠ arfAM j) → exec (r.1 p (toFirst a)) s = .refused .vectorFirstBank) ∧
      (FlowOn p s → ∀ a, exec (r.1 p (fromFirst a)) s = .refused .transferType) ∧
      (FlowOff p s → ∀ a, exec (r.1 p (toFirst a)) s = .next s)

/-- movs and movss (R831, R834): the register as it reads, marked when it is read and clear; the class restrictions of
R813, the other restrictions (U2, U20, U21), and the fault of C0 different from C1 toward RF (R341, U17).That a disabled one is
not refused, whatever its fields, is the model's choice (log 46). -/
def Obligations.RegisterMovements : Prop :=
  ∀ (p : BitVec 2) (b : BitVec 7) (s : State),
    let v : Word40 := (firstRead s b).setWidth 40
    (MoveOn p s → ∀ n, exec (.movs p (toRf n) (0#1 ++ b)) s = .next (readMark b (plus s 1 (.rf .p7 [(n, v)])))) ∧
    (MoveOn p s → ∀ n, exec (.movs p (toRf n) (1#1 ++ b)) s = .refused .movementClass) ∧
    (FlowOn p s → ∀ a, moveClass a = .arf ∨ moveClass a ≠ moveClass b → a ≠ 0x08 →
      exec (.movs p (toFirst a) (0#1 ++ b)) s = .next (readMark b (plus s 1 (.move a v true)))) ∧
    (FlowOn p s → ∀ a, moveClass a ≠ .arf → moveClass a = moveClass b →
      exec (.movs p (toFirst a) (0#1 ++ b)) s = .refused .movementClass) ∧
    (MoveOn p s → ∀ n, 0x24 ≤ b.toNat → b.toNat < 0x64 →
      exec (.movss p (toRf n) (0#1 ++ b)) s =
        .next (plus s 1 (.rf .p7 [(n, (((firstRead s b).setWidth 16 : BitVec 16).signExtend 32).setWidth 40)]))) ∧
    (MoveOn p s → ∀ (n t : BitVec 8), t.toNat < 0x24 ∨ 0x64 ≤ t.toNat →
      exec (.movss p (toRf n) t) s = .refused .movementClass) ∧
    (FlowOn p s → moveClass b ≠ moveClass 0x08 → exec (.movs p (toFirst 0x08) (0#1 ++ b)) s = .refused .movePc) ∧
    (FlowOn p s → ∀ a, exec (.movs p (toFirst a) (1#1 ++ b)) s = .refused .movementClass) ∧
    (FlowOn p s → ∀ a t, exec (.movss p (toFirst a) t) s = .refused .movementClass) ∧
    (FlowOn p s → ∀ a t, exec (.movs p (fromFirst a) t) s = .refused .transferType ∧
      exec (.movss p (fromFirst a) t) s = .refused .transferType) ∧
    ((gateOf s p).c0 ≠ (gateOf s p).c1 → ∀ n t, exec (.movs p (toRf n) t) s = .fault .scalarPredicate ∧
      exec (.movss p (toRf n) t) s = .fault .scalarPredicate) ∧
    (MoveNone p s → ∀ n t, exec (.movs p (toRf n) t) s = .next s ∧ exec (.movss p (toRf n) t) s = .next s) ∧
    (FlowOff p s → ∀ a t, exec (.movs p (toFirst a) t) s = .next s ∧ exec (.movss p (toFirst a) t) s = .next s ∧
      exec (.movs p (fromFirst a) t) s = .next s ∧ exec (.movss p (fromFirst a) t) s = .next s)

/-- The fifteen condition stack operations (R853 to R867), in the terms of push and pop on bits (R851). -/
def Obligations.StackOperations : Prop :=
  ∀ r ∈ stackRows, ∀ (p : BitVec 2) (s : State),
    let q := r.2 s.regs.cond (s.regs.stkiq.setWidth 16) (s.regs.stkiq.extractLsb' 16 16)
    (FlowOn p s → exec (r.1 p) s = .next (plus s 1 (.stkiq (q.2 ++ q.1)))) ∧
    (FlowOff p s → exec (r.1 p) s = .next s)

/-- The nine predicate-setting operations (R872 to R880): setp and setpv under any predicate, setnotp into register r + 1. -/
def Obligations.PredicateSetting : Prop :=
  ∀ (p r : BitVec 2) (s : State),
    (∀ o ∈ predRows, (FlowOn p s → SetsPred s r (o.2 s r).1 (o.2 s r).2 (exec (o.1 p r) s)) ∧
      (FlowOff p s → exec (o.1 p r) s = .next s)) ∧
    SetsPred s r true true (exec (.setp r) s) ∧
    (∀ imm : BitVec 2, SetsPred s r (imm.getLsbD 0) (imm.getLsbD 1) (exec (.setpv r imm) s)) ∧
    (FlowOn p s → r ≠ 3 → SetsPred s (r + 1) (!(predReg s r).c0) (!(predReg s r).c1) (exec (.setnotp p r) s)) ∧
    (FlowOn p s → exec (.setnotp p 3) s = .refused .setnotpRegister) ∧
    (FlowOff p s → exec (.setnotp p r) s = .next s)

/-- br, br_reg, call, call_reg and ret (R901 to R908): target, link register, service point. reti (R909, R1096): to MGCINTRET with
the interrupt bit cleared; outside an interrupt, rtierr and no transfer. -/
def Obligations.JumpsCallsReturns : Prop :=
  ∀ (p : BitVec 2) (jt : BitVec 8) (off : BitVec 16) (s : State),
    Jumps p jt s (exec (.br p jt off) s) { s with npc := some (s.regs.pc + off), svc := true } { s with svc := true } ∧
    Jumps p jt s (exec (.brReg p jt) s) { s with npc := some s.regs.branch, svc := true } { s with svc := true } ∧
    Jumps p jt s (exec (.call p jt off) s)
      (plus { s with npc := some (s.regs.pc + off) } 1 (.stk (s.regs.pc + 1))) s ∧
    Jumps p jt s (exec (.callReg p jt) s) (plus { s with npc := some s.regs.branch } 1 (.stk (s.regs.pc + 1))) s ∧
    (FlowOn p s → exec (.ret p) s = .next { s with npc := some s.regs.stk, svc := true }) ∧
    (FlowOn p s → s.mode.interrupt = true →
      exec (.reti p) s = .next { s with npc := some s.ints.ret, mode := { s.mode with interrupt := false } }) ∧
    (FlowOn p s → s.mode.interrupt = false → exec (.reti p) s = .next (raise .rtierr s)) ∧
    (FlowOff p s → exec (.ret p) s = .next s ∧ exec (.reti p) s = .next s)

/-- repb and swpipe (R912, R920, R922): swpipe reads MGCLOOPLEN in its own cycle; the landing of its changes on any state. The
stage window of a software-pipelined loop (R921): with N = MGCLOOPLEN - maxstage and K = MGCLOOPLEN - MGCLOOPCNT modulo 2^32 an
ADD, MUL, AGU0 or AGU1 issue runs in the N loop-cycles from its stage on, under predication register 0; the FLOW issue, which has
no stage, in every loop-cycle under predication register 0 (R343). -/
def Obligations.LoopOperations : Prop :=
  (∀ (p : BitVec 2) (len : BitVec 16) (k : BitVec 3) (s : State),
    (FlowOn p s → exec (.repb p len) s =
      .next { plus s 1 (.rept ((s.regs.pc + 3) ++ (s.regs.pc + len - 1 + 3))) with svc := true }) ∧
    (FlowOff p s → exec (.repb p len) s = .next s) ∧
    (s.mode.interrupt = false →
      exec (.swpipe 1 k) s = .next (plus s 1 (.swpipe true k (s.regs.looplen + k.setWidth 32)))) ∧
    (s.mode.interrupt = true → exec (.swpipe 1 k) s = .refused .swpipeInIsr) ∧
    exec (.swpipe 0 k) s = .next (plus s 1 (.swpipe false k (s.regs.looplen - k.setWidth 32)))) ∧
  (∀ (k : BitVec 3) (v : BitVec 32) (s : State), s.ports = [] →
    let t : State := { s with pend := [], regs := { s.regs with looplen := v, loopcnt := v } }
    (s.pend = [⟨1, .swpipe true k v⟩] → land s = .next (withMode t { s.mode with softpipe := true, maxstage := k })) ∧
    (s.pend = [⟨1, .swpipe false k v⟩] → land s = .next (withMode t { s.mode with softpipe := false }))) ∧
  (∀ (p : BitVec 2) (s : State),
    (s.mode.softpipe = false → gateOf s p = predReg s p) ∧ (s.mode.softpipe = true → gateOf s p = predReg s 0)) ∧
  ∀ (i : Issue) (p : BitVec 2) (s : State), i ≠ .flow →
    let n := (s.regs.looplen - s.mode.maxstage.setWidth 32).toNat
    let k := (s.regs.looplen - s.regs.loopcnt).toNat
    let st := (stageOf s.vliw i).toNat
    (s.mode.softpipe = false → issueGate s i p = predReg s p) ∧
    (s.mode.softpipe = true → st ≤ k → k < st + n → issueGate s i p = predReg s 0) ∧
    (s.mode.softpipe = true → k < st ∨ st + n ≤ k → issueGate s i p = ⟨false, false, false⟩)

/-- watchint, halt, sleepon and sirq (R925, R926, R930, R931). -/
def Obligations.WatchHaltSleepLines : Prop :=
  ∀ (p : BitVec 2) (s : State),
    (FlowOn p s →
      exec (.watchint p) s = .next { s with svc := true } ∧
      exec (.halt p) s = .next (withMode s { s.mode with halt := true }) ∧
      exec (.sirq p 0) s = .next { s with out := s.out ++ [.sirq0] } ∧
      exec (.sirq p 1) s = .next { s with out := s.out ++ [.sirq1] } ∧
      exec (.sirq p 2) s = .next (plus s 1 (.cond 0x1000 (~~~s.regs.cond))) ∧
      exec (.sirq p 3) s = .next (plus s 1 (.cond 0x2000 (~~~s.regs.cond))) ∧
      (s.mode.pmuen = false ∨ (s.regs.pc.setWidth 10 : BitVec 10) ≤ 0x3FC →
        exec (.sleepon p) s = .next (withMode s { s.mode with asleep := true })) ∧
      (s.mode.pmuen = true → 0x3FC < (s.regs.pc.setWidth 10 : BitVec 10) → exec (.sleepon p) s = .refused .sleepPageEnd)) ∧
    (FlowOff p s → ∀ i ∈ [Instr.watchint p, .halt p, .sleepon p, .sirq p 0, .sirq p 1, .sirq p 2, .sirq p 3],
      exec i s = .next s)

/-- writedma and readdma (R932, R933): wake-up on the channel's EOT alone added and all events cleared, the start with its
busy check (R1002), sleep. -/
def Obligations.DmaSleepOperations : Prop :=
  ∀ (p : BitVec 2) (s : State) (o : BitVec 2 → Instr) (isRead : Bool), (o, isRead) = (.writedma, false) ∨
      (o, isRead) = (.readdma, true) →
    let c := s.dma.active
    let t : State := { s with
      ints := { s.ints with wakeEot := s.ints.wakeEot ||| (1#4 <<< c.toNat), wakeIntEv := 0, wakeEotEv := 0 } }
    (FlowOn p s → s.mode.pmuen = false ∨ ((s.regs.pc.setWidth 10 : BitVec 10) ≤ 0x3FC ∧ c ≠ 3) →
      (chanBusy s c = false →
        exec (o p) s = .next (withMode { t with dma := s.dma.setChan c { s.dma.chan c with busy := true, isRead := isRead } }
          { s.mode with asleep := true })) ∧
      (chanBusy s c = true →
        exec (o p) s = .next (withMode (raise .dmabusy t) { s.mode with asleep := true }))) ∧
    (FlowOn p s → s.mode.pmuen = true → 0x3FC < (s.regs.pc.setWidth 10 : BitVec 10) →
      exec (o p) s = .refused .sleepPageEnd) ∧
    (FlowOn p s → s.mode.pmuen = true → (s.regs.pc.setWidth 10 : BitVec 10) ≤ 0x3FC → c = 3 →
      exec (o p) s = .refused .dmaChannel3) ∧
    (FlowOff p s → exec (o p) s = .next s)

/-- The PMU operations (R980 to R982): a prefetch that finds its address resident, the PMU off, masked or busy does nothing
(busy with a demand load: the model's choice, log 42); one that finds its page mapped starts the load of the missing chunk; fix and
unfix set the fixed bit. -/
def Obligations.PmuOperations : Prop :=
  ∀ (p : BitVec 2) (off : BitVec 16) (s : State),
    (FlowOn p s →
      exec (.prefetchReg p) s = .next (prefetchAt s.regs.branch s) ∧
      exec (.prefetchOff p off) s = .next (prefetchAt (s.regs.pc + off) s) ∧
      (s.mode.pmuen = false → ∀ c, exec (.pmucmd p c) s = .next s) ∧
      (s.mode.pmuen = true →
        let v : BitVec 6 := s.regs.branch.extractLsb' 10 6
        exec (.pmucmd p 1) s = .next (s.setPmu (s.pmu.setVirt v (s.pmu.virtAt v ||| 2))) ∧
        exec (.pmucmd p 2) s = .next (s.setPmu (s.pmu.setVirt v (s.pmu.virtAt v &&& ~~~2))) ∧
        exec (.pmucmd p 0) s = .refused .pmuCommand ∧ exec (.pmucmd p 3) s = .refused .pmuCommand)) ∧
    (FlowOff p s → exec (.prefetchReg p) s = .next s ∧ exec (.prefetchOff p off) s = .next s ∧
      ∀ c, exec (.pmucmd p c) s = .next s) ∧
    (∀ a, s.mode.pmuen = false ∨ s.pmu.maskPrefetch = true ∨ s.pmu.job.isSome = true ∨ (∃ q, s.pmu.xlate a = .hit q) →
      prefetchAt a s = s) ∧
    (∀ a q, s.mode.pmuen = true → s.pmu.maskPrefetch = false → s.pmu.job = none → s.pmu.xlate a = .chunkFault q →
      prefetchAt a s = s.setPmu { s.pmu with job := some ⟨a, q, false, true, true⟩ }) ∧
    (∀ a q m, s.mode.pmuen = true → s.pmu.maskPrefetch = false → s.pmu.job = none → s.pmu.xlate a = .pageFault →
      choosePage (List.range 16) s.pmu = (some q, m) →
      prefetchAt a s = s.setPmu { m.mapPage q a with job := some ⟨a, q, true, true, true⟩ }) ∧
    (∀ a m, s.mode.pmuen = true → s.pmu.maskPrefetch = false → s.pmu.job = none → s.pmu.xlate a = .pageFault →
      choosePage (List.range 16) s.pmu = (none, m) → prefetchAt a s = raise .pagefree (s.setPmu m))

/-- A page fault (R970, R971): the search from PMUPHYSPT on, twice round, for a free page or one neither fixed nor recently used,
each page checked losing its ref; the descriptors of the page it finds; the load of the missing chunk asked for. The descriptors
of two valid pages name two virtual pages, as the PMU itself leaves them. -/
def Obligations.PageReplacement : Prop :=
  (∀ p : Pmu,
    let page := fun (i : Nat) => p.physPt + BitVec.ofNat 3 i
    let vp := fun (i : Nat) => ((p.mappedAt (page i)).extractLsb' 0 6 : BitVec 6)
    let valid := fun (i : Nat) => (p.mappedAt (page i)).getLsbD 6 = true
    let fixed := fun (i : Nat) => (p.virtAt (vp i)).getLsbD 1 = true
    let used := fun (i : Nat) => (p.virtAt (vp i)).getLsbD 2 = true
    let found := fun (o : Option (BitVec 3)) (n : Nat) => ∃ m : Pmu, choosePage (List.range 16) p = (o, m) ∧
      m = { p with virt := m.virt } ∧ (∀ x, (∃ i, i < n ∧ vp i = x) → m.virtAt x = p.virtAt x &&& ~~~4) ∧
      (∀ x, (∀ i, i < n → vp i ≠ x) → m.virtAt x = p.virtAt x)
    (∀ i j, i < 8 → j < 8 → valid i → valid j → vp i = vp j → i = j) →
    (∀ n, n < 8 → ¬valid n ∨ (¬fixed n ∧ ¬used n) → (∀ i, i < n → valid i ∧ (fixed i ∨ used i)) → found (some (page n)) n) ∧
    (∀ n, n < 8 → ¬fixed n → (∀ i, i < n → fixed i) → (∀ i, i < 8 → valid i ∧ (fixed i ∨ used i)) →
      found (some (page n)) 8) ∧
    ((∀ i, i < 8 → valid i ∧ fixed i) → found none 8)) ∧
  (∀ (p : Pmu) (q : BitVec 3) (a : BitVec 16),
    let v : BitVec 6 := a.extractLsb' 10 6
    let old := p.mappedAt q
    let t := p.mapPage q a
    t = { p with virt := t.virt, mapped := t.mapped, physPt := q + 1 } ∧
    t.mappedAt q = (0#25 ++ 1#1 ++ v : BitVec 32) ∧ (∀ r, r ≠ q → t.mappedAt r = p.mappedAt r) ∧
    t.virtAt v = (q ++ ((p.virtAt v).extractLsb' 1 2 : BitVec 2) ++ 1#1 : BitVec 6) ∧
    (∀ x, x ≠ v → t.virtAt x =
      (if old.getLsbD 6 = true ∧ old.extractLsb' 0 6 = x then p.virtAt x &&& ~~~1 else p.virtAt x))) ∧
  ∀ (s : State) (a : BitVec 16), s.pmu.job = none → s.pmu.missAt ≠ some a →
    let p : Pmu := { s.pmu with faultAdd := a, missCnt := s.pmu.missCnt + 1, missAt := some a }
    (∀ q, p.xlate a = .chunkFault q → fetchMiss a s = s.setPmu { p with job := some ⟨a, q, false, false, true⟩ }) ∧
    (∀ q m, p.xlate a = .pageFault → choosePage (List.range 16) p = (some q, m) →
      fetchMiss a s = s.setPmu { m.mapPage q a with job := some ⟨a, q, true, false, true⟩ }) ∧
    (∀ m, p.xlate a = .pageFault → choosePage (List.range 16) p = (none, m) →
      fetchMiss a s = raise .pagefree (s.setPmu m))

/-! ## Encoding -/

/-- Decoding the bytes of an encoded instruction gives it back, with every operand, and so does decoding the whole word. -/
def Obligations.DecodeOfEncode : Prop :=
  ∀ i : Instr, i.wellFormed = true →
    decodeBytes (issueOf i) (bytesOf (encode i)) = .ok i ∧ decodeIssue (issueOf i) (encode i) = some i

/-- Words written out from the encoding tables (R250 to R283) decode to their operations. -/
def Obligations.KnownWords : Prop :=
  decodeIssue .add 0x1EC4E78BE0 = some (.iaddPN 2 0xf6 0x3c 0x27) ∧
  decodeIssue .add 0x70000000000000013DC026FE0 = some (.vfminmax 2 0x9e 7 0x13 0xe0) ∧
  decodeIssue .add 0x1A13B910 = some (.vflt 1 0x9d 0xd0) ∧
  decodeIssue .mul 0x1745852010000000000000 = some (.cfmulP 1 0xba 0x29 0x2c) ∧
  decodeIssue .mul 0xCC01C7150000000000000 = some (.rf2rf 1 0x66 0xe3) ∧
  decodeIssue .agu0 0x8C0022A000000000000000000001 = some (.agu0PostincRv 1 5 0x8c) ∧
  decodeIssue .agu0 0xC8E000000000000000000002 = some (.agu0MovTUimm4 2 7) ∧
  decodeIssue .agu1 0x5500000000000100E000000000 = some (.agu1DirRs 1 7 0x55) ∧
  decodeIssue .agu1 0x296E000000000 = some (.agu1AddTTSimm 2 7) ∧
  decodeIssue .flow 0x20100041908971FC00913B8A27BB4 = some (.immv 1 1 0x20c844b8fe 0x913b8a27bb) ∧
  decodeIssue .flow 0x8E00018765AC8746000000000000C = some (.immsf 3 0xe0 0xc3b2d643a3) ∧
  decodeIssue .flow 0x17EB0000000A200000000000000008 = some (.movvf 2 0x1eb 0x51) ∧
  decodeIssue .flow 0x60000000000000000C000000000008 = some (.setpv 3 2) ∧
  decodeIssue .flow 0x4C00000019A9590000000000000004 = some (.br 1 0xcd 0x4ac8) ∧
  decodeIssue .flow 0x6E000000000762E000000000000004 = some (.repb 1 0x3b17) ∧
  decodeIssue .flow 0x760000000000000008000000000008 = some (.swpipe 1 2) ∧
  decodeIssue .flow 0x3E000000000000000C000000000004 = some (.sirq 1 3)

/-- An unassigned code of an issue that is not inhibited does nothing but raise its exception, under any predicate; one of the FLOW
issue is refused where it executes, and changes nothing under a false predicate (R270, R295, R296, R342, R344). What inhibits an
issue: the FLOW code's table, and nothing else in a word whose AGU operations take no extra operand (R332). -/
def Obligations.UnknownCodesRaise : Prop :=
  ∀ (w : Bundle) (s : State),
    (decodeIssue .add w = none ↔ addUnassigned (w.extractLsb' 6 7) = true) ∧
    (decodeIssue .mul w = none ↔ mulUnassigned (w.extractLsb' 54 7) = true) ∧
    (decodeIssue .agu0 w = none ↔ w.extractLsb' 89 7 = 0x7F) ∧
    (decodeIssue .agu1 w = none ↔ w.extractLsb' 41 7 = 0x7F) ∧
    (decodeIssue .flow w = none ↔ flowUnassigned (w.extractLsb' 113 6) = true) ∧
    let d := decodeBundle w
    let c := flowTakes (w.extractLsb' 113 6)
    inhibited w &&& c = c ∧
    (c.getLsbD 3 = true ∨ needsMore (w.extractLsb' 89 7) = false → c.getLsbD 1 = true ∨ needsMore (w.extractLsb' 41 7) = false →
      inhibited w = c) ∧
    (d.add = .off ↔ (inhibited w).getLsbD 0 = true) ∧ (d.agu1 = .off ↔ (inhibited w).getLsbD 1 = true) ∧
    (d.mul = .off ↔ (inhibited w).getLsbD 2 = true) ∧ (d.agu0 = .off ↔ (inhibited w).getLsbD 3 = true) ∧ d.flow ≠ .off ∧
    let r := fun (b : Bool) (e : Exc) (s : State) => if b then raise e s else s
    let none' := fun (i : Issue) (k : Nat) => (decodeIssue i w).isNone && !(inhibited w).getLsbD k
    raiseUnknown d s = r (none' .agu1 1) .agu1ukn (r (none' .agu0 3) .agu0ukn (r (none' .mul 2) .mulunkn
      (r (none' .add 0) .addunkn s))) ∧
    (none' .add 0 = true → runSlot d.add s = .next s) ∧ (none' .agu1 1 = true → runSlot d.agu1 s = .next s) ∧
    (none' .mul 2 = true → runSlot d.mul s = .next s) ∧ (none' .agu0 3 = true → runSlot d.agu0 s = .next s) ∧
    (decodeIssue .flow w = none → FlowOn (w.extractLsb' 2 2) s → runFlow w d.flow s = .refused .flowCode) ∧
    (decodeIssue .flow w = none → FlowOff (w.extractLsb' 2 2) s → runFlow w d.flow s = .next s)

/-! ## The core -/

/-- A step runs the bundle at the program counter: the word is landed upon, fetched, decoded, and each issue's operation runs by
exec (R330); when the other issues do nothing it is exec of the one decoded instruction. The order of the agents in one cycle
(inputs and slave before the core, the other agents after it) is the model's choice (log 4), and so is the order of the issues,
FLOW or AGU0 first (log 11). -/
def Obligations.StepRunsTheBundle : Prop :=
  ∀ (s s1 s2 : State) (q0 q : BitVec 13),
    inDebug (cycleInputs s) = false → beforeCore s = .next s1 → inDebug s1 = false → s1.mode.asleep = false → s1.landed = false →
    physOf s1 s1.regs.pc = some q0 → land s1 = .next s2 → s2.resetNow = false → physOf s2 s2.regs.pc = some q →
    (s2.mode.pmcheck = false ∨ s2.badParity.contains q.toNat = false) →
    let w := s2.mem.pm q.toNat
    let d := decodeBundle w
    let s3 := latchWord q s2
    let after := fun t => afterCore false (endBundle d (takenLine s3) t)
    step s = andThen (runAll (issueList w d) (freshBundle s3)) after ∧
    (∀ i, (issueOf i = .flow ∨ ∀ k, [Issue.add, .agu1, .mul, .agu0][k]? = some (issueOf i) →
        (inhibited w).getLsbD k = false) → decodeBytes (issueOf i) (bytesOf w) = .ok i →
      (match issueOf i with
        | .add => d.add
        | .agu1 => d.agu1
        | .mul => d.mul
        | .agu0 => d.agu0
        | .flow => d.flow) = .op i) ∧
    (∀ i, issueOf i = .flow → d.flow = .op i →
      (∀ t, runSlot d.add t = .next t ∧ runSlot d.agu1 t = .next t ∧ runSlot d.mul t = .next t ∧ runSlot d.agu0 t = .next t) →
      step s = andThen (exec i (freshBundle s3)) after) ∧
    (∀ i f t, agu0First w = false → d.flow = .op f → exec f (freshBundle s3) = .next t →
      (d.add = .op i ∧ (∀ u, runSlot d.agu1 u = .next u ∧ runSlot d.mul u = .next u ∧ runSlot d.agu0 u = .next u) ∨
       d.agu1 = .op i ∧ (∀ u, runSlot d.add u = .next u ∧ runSlot d.mul u = .next u ∧ runSlot d.agu0 u = .next u) ∨
       d.mul = .op i ∧ (∀ u, runSlot d.add u = .next u ∧ runSlot d.agu1 u = .next u ∧ runSlot d.agu0 u = .next u) ∨
       d.agu0 = .op i ∧ (∀ u, runSlot d.add u = .next u ∧ runSlot d.agu1 u = .next u ∧ runSlot d.mul u = .next u)) →
      step s = andThen (exec i t) after)

/-- The invariant holds after reset. -/
def Obligations.ResetMeetsInvariant : Prop := State.reset.Inv

/-- Every step keeps the invariant. -/
def Obligations.StepKeepsInvariant : Prop := ∀ s t : State, s.Inv → step s = .next t → t.Inv

/-- The values the spec gives for reset (R130), as the registers read: after reset, after a hard reset of any state, and after the
input lines of a cycle in which the chip reset input is active, whatever the other lines do in it (bit 10 of MGCSTAT is the level
of an input line, so that line is taken low). -/
def Obligations.ResetValues : Prop :=
  HasResetValues State.reset ∧ (∀ s : State, s.dbgReq = false → HasResetValues (hardReset s)) ∧
    (∀ s : State, s.inp.reset = true → s.inp.dbgReq.getD s.dbgReq = false → HasResetValues (inputLines s)) ∧
    ∀ s : State, slaveReg 0xFC0 (some 0xAC1CDEAD) s = .next ((hardReset s).emit .slaveOk)

/-- Debug, sleep and a PMU miss freeze the core (R335, R970): no issue runs, nothing lands; in a cycle that begins in debug state
it takes no step even where the host starts it, its first step is that of the next cycle (R1204). In step mode a bundle is followed
by debug state (R1067). A core step fetches after its landing; a word with wrong parity is looked at with pmcheck: it breaks, or
stops the core with ptyerr, not executed and with MGCPC kept, or is executed with ptyerr masked or not fatal (R1150). That a step which
stops on parity keeps its landing and is no run cycle is DEDUCED (log 20). -/
def Obligations.FrozenCore : Prop :=
  ∀ s : State,
    (inDebug s = true ∨ s.mode.asleep = true → coreStep s = .next s) ∧
    (∀ s1, inDebug (cycleInputs s) = true → beforeCore s = .next s1 → step s = afterCore true s1) ∧
    (inDebug s = false → s.mode.asleep = false → s.landed = false → s.mode.pmuen = true →
      physOf s s.regs.pc = none → ∃ t, coreStep s = .next t ∧ t.pend = s.pend ∧ t.ports = s.ports ∧ t.rf = s.rf ∧
        t.arf = s.arf ∧ t.mem = s.mem ∧ t.regs.pc = s.regs.pc ∧ t.mode = s.mode) ∧
    (∀ d line, (endBundle d line s).pend = s.pend ∧ (endBundle d line s).ports = s.ports ∧
      (s.mode.step = true → (endBundle d line s).mode.stepreq = true ∧ inDebug (endBundle d line s) = true) ∧
      (s.mode.step = false → (endBundle d line s).mode.stepreq = s.mode.stepreq)) ∧
    (inDebug s = false → s.mode.asleep = false →
      (s.landed = true → coreStep s = fetchRun s) ∧
      (s.landed = false → (∃ p, physOf s s.regs.pc = some p) →
        coreStep s = andThen (land s) fun t => if t.resetNow then .next t else fetchRun t)) ∧
    ∀ p, physOf s s.regs.pc = some p →
      let w := s.mem.pm p.toNat
      let t := latchWord p s
      let wrong := s.mode.pmcheck = true ∧ p.toNat ∈ s.badParity
      let stops := s.regs.mask.getLsbD 23 = false ∧ (fatalNow s).getLsbD 23 = true
      t.regs = s.regs ∧ t.mode = s.mode ∧ t.vliw = w ∧
      (¬wrong → fetchRun s = runBundle w t) ∧
      (wrong → s.mode.pty2break = true → fetchRun s = .next (withMode t { s.mode with brk := true }) ∧
        inDebug (withMode t { s.mode with brk := true }) = true) ∧
      (wrong → s.mode.pty2break = false → stops → fetchRun s = .next (raise .ptyerr t) ∧ inDebug (raise .ptyerr t) = true ∧
        (raise .ptyerr t).regs.pc = s.regs.pc) ∧
      (wrong → s.mode.pty2break = false → ¬stops → fetchRun s = runBundle w (raise .ptyerr t))

/-- The translation of a fetch address with the PMU on, and with it off (R961, R962). -/
def Obligations.AddressTranslation : Prop :=
  ∀ (s : State) (a : BitVec 16),
    let d := s.pmu.virtAt (a.extractLsb' 10 6)
    let q : BitVec 3 := d.extractLsb' 3 3
    let here := (s.pmu.mappedAt q).getLsbD (16 + (a.extractLsb' 6 4 : BitVec 4).toNat)
    (s.mode.pmuen = true → physOf s a = opt (d.getLsbD 0 && here) (q ++ (a.setWidth 10 : BitVec 10))) ∧
    (s.mode.pmuen = true → (touchPage a s).pmu.virtAt (a.extractLsb' 10 6) = d ||| 4) ∧
    (s.mode.pmuen = false → physOf s a = opt (decide (a.toNat ≤ 0x1FFF)) (a.setWidth 13)) ∧
    (s.pmu.missAt ≠ some a → (fetchMiss a s).pmu.faultAdd = a ∧
      (fetchMiss a s).pmu.missCnt = s.pmu.missCnt + 1) ∧
    (s.pmu.missAt = some a → (fetchMiss a s).pmu.faultAdd = s.pmu.faultAdd ∧
      (fetchMiss a s).pmu.missCnt = s.pmu.missCnt)

/-- The next program counter: a taken transfer, which has no delay slot (D2), the loop-back at the end of the block, else the next
word (R334, R914). -/
def Obligations.NextProgramCounter : Prop :=
  ∀ s : State,
    let r := s.regs
    (∀ t, s.npc = some t → advancePc s = { s with regs := { r with pc := t } }) ∧
    (s.npc = none → r.pc = r.rept.setWidth 16 → 1 < r.loopcnt →
      advancePc s = { s with regs := { r with loopcnt := r.loopcnt - 1, pc := r.rept.extractLsb' 16 16 } }) ∧
    (s.npc = none → r.pc = r.rept.setWidth 16 → r.loopcnt = 1 →
      advancePc s = { s with regs := { r with loopcnt := 0, pc := r.pc + 1 } }) ∧
    (s.npc = none → r.pc ≠ r.rept.setWidth 16 ∨ r.loopcnt = 0 →
      advancePc s = { s with regs := { r with pc := r.pc + 1 } })

/-! ## Exceptions and interrupts -/

/-- Taking an exception (R1120): nothing when masked; else its bit, and debug state or an event on line 6. The classes and their
overrides (R1121, R1122). -/
def Obligations.TakingAnException : Prop :=
  (∀ (e : Exc) (s : State),
    (s.regs.mask.getLsbD e.bit = true → raise e s = s) ∧
    (s.regs.mask.getLsbD e.bit = false →
      let b : BitVec 32 := BitVec.twoPow 32 e.bit
      let t : State := { s with regs := { s.regs with exception := s.regs.exception ||| b }, raised := s.raised ||| b }
      ((fatalNow s).getLsbD e.bit = true → raise e s = t ∧ inDebug (raise e s) = true) ∧
      ((fatalNow s).getLsbD e.bit = false → raise e s = lineEvent 6 t) ∧
      (statWord (raise e s)).getLsbD 5 = true)) ∧
  ∀ s : State,
    (∀ e : Exc, (fatalNow s).getLsbD e.bit = (if s.mode.allfatal then true else if s.mode.nonefatal then false else e.fatal)) ∧
    (∀ e : Exc, s.regs.exception.getLsbD e.bit = true → (fatalNow s).getLsbD e.bit = true → inDebug s = true) ∧
    (∀ w : BitVec 32, w.getLsbD 31 = false → (ctrlModes w s.mode).allfatal = true →
      (ctrlModes w s.mode).nonefatal = true → ∃ r, ctrlWrite w s = .refused r) ∧
    (∀ e : Exc, e.fatal = !([0, 1, 2, 4, 5, 6, 7, 8, 9, 12].contains e.bit))

/-- Which line a service point serves (R1090), and interrupt entry there (R1092, R1095): every change it makes. The registers it
reads, `seen`, are those that stand, but where a movement of latency 1 toward one of them landed in this core step, those before it,
`held`; with the end of the bundle they are those that stand (R1082; that it is an exception to R1090 is DEDUCED, log 37). -/
def Obligations.Interrupts : Prop :=
  (∀ s : State,
    let seen := s.held.getD s.ints
    let cand := fun x : Fin 8 => seen.pend.getLsbD x = true ∧ seen.en.getLsbD x = true ∧ seen.mask.getLsbD x = false
    let prio := fun x : Fin 8 => (seen.prio.extractLsb' (3 * x.val) 3).toNat
    (s.mode.interrupt = true ∨ s.mode.softpipe = true → takenLine s = none) ∧
    (s.mode.interrupt = false → s.mode.softpipe = false →
      (takenLine s = none ↔ ∀ x, ¬cand x) ∧
      (∀ x, takenLine s = some x ↔ cand x ∧ ∀ y, cand y → prio x < prio y ∨ (prio x = prio y ∧ x ≤ y)))) ∧
  (∀ (d : Slots) (l : Option (Fin 8)) (s : State), (endBundle d l s).held = none) ∧
  ∀ (s : State) (x : Fin 8),
    let seen := s.held.getD s.ints
    (s.svc = true →
      serve (some x) s = { s with
        regs := { s.regs with pc := seen.svr[x] }
        mode := { s.mode with interrupt := true, softpipe := false }
        ints := { s.ints with
          ret := s.regs.pc
          pend := s.ints.pend &&& ~~~(BitVec.twoPow 8 x)
          shsave := if x = 0 then (s.ints.shsave &&& 0xF0) ||| (s.ints.shpend &&& 0x0F)
            else if x = 1 then (s.ints.shsave &&& 0x0F) ||| (s.ints.shpend &&& 0xF0) else s.ints.shsave
          shpend := if x = 0 then s.ints.shpend &&& 0xF0 else if x = 1 then s.ints.shpend &&& 0x0F else s.ints.shpend } }) ∧
    (s.svc = false → serve (some x) s = s) ∧ serve none s = s

/-- An event on an interrupt line is pending only when the line is enabled and recorded for waking only when that is (R1080,
R1101); a sleeping core with an enabled recorded event stops sleeping (R1102); start ends sleep and the break sources it
clears (R1065). The input lines of a cycle: the edges of the shared lines, the events of lines 0 to 3 (R1080, R1081). A write to the
watched data word, by the core, the DMA engine or the slave, gives line 5 an event or sets watch; a read does not (R1086, R1152). -/
def Obligations.EventsAndWaking : Prop :=
  (∀ s : State, s.inp.reset = false →
    let t := inputLines s
    let new := s.inp.shared.getD s.lineSh
    let event : Fin 8 → Bool := fun x =>
      if x.val < 2 then decide (∃ j : Fin 8, j.val / 4 = x.val ∧ t.ints.shpend.getLsbD j = true ∧ s.ints.mask.getLsbD (8 + j) = false)
      else if x = 2 then s.inp.line2 else if x = 3 then s.inp.line3 else false
    t.lineSh = new ∧ t.dbgReq = s.inp.dbgReq.getD s.dbgReq ∧
    (∀ j : Fin 8, t.ints.shpend.getLsbD j = (s.ints.shpend.getLsbD j || (s.lineSh.getLsbD j != new.getLsbD j &&
      new.getLsbD j == s.ints.shedge.getLsbD j && s.ints.en.getLsbD (j.val / 4)))) ∧
    (∀ x : Fin 8, t.ints.pend.getLsbD x = (s.ints.pend.getLsbD x || (event x && s.ints.en.getLsbD x)) ∧
      t.ints.wakeIntEv.getLsbD x = (s.ints.wakeIntEv.getLsbD x || (event x && s.ints.wakeInt.getLsbD x))) ∧
    t = { s with
      lineSh := t.lineSh, dbgReq := t.dbgReq, held := t.held
      ints := { s.ints with shpend := t.ints.shpend, pend := t.ints.pend, wakeIntEv := t.ints.wakeIntEv } }) ∧
  (∀ s : State, s.mode.watch = true → inDebug s = true) ∧
  (∀ (s : State) (u : AguUnit) (a : BitVec 16), s.pend = [] → s.resetNow = false →
    (∀ e0 e1 : Option Word40, s.ports = [⟨u, 1, .write a e0 e1⟩] →
      ∃ t, land s = .next t ∧ Watched (only e0.isSome a.toNat ++ only e1.isSome (a.toNat + 1)) s t) ∧
    (∀ (vec : Bool) (d : ReadDest), s.ports = [⟨u, 1, .read a vec d⟩] → ∃ t, land s = .next t ∧ Watched [] s t)) ∧
  (∀ (s : State) (w : DmView) (a k : Nat) (v : BitVec 32), a < 0x4000 → k < partsOf w →
    (s.inp.slave = some ⟨busAddr w a k, some v, true⟩ → Untouched s a → ∃ t, slaveLate s = .next t ∧ Watched [a] s t) ∧
    (NoP0b s a → ∃ t, dmaStoreWord (segOf w) (internal w a) k v s = .next t ∧ Watched [a] s t)) ∧
  (∀ (x : Fin 8) (s : State), ∃ f : Ints → Ints, lineEvent x s = byInts s f ∧
    ∀ i, f i = { i with pend := (f i).pend, wakeIntEv := (f i).wakeIntEv } ∧
      (∀ y : Fin 8, (f i).pend.getLsbD y = (i.pend.getLsbD y || (decide (y = x) && i.en.getLsbD x))) ∧
      (∀ y : Fin 8, (f i).wakeIntEv.getLsbD y = (i.wakeIntEv.getLsbD y || (decide (y = x) && i.wakeInt.getLsbD x)))) ∧
  ∀ s : State,
    let ready := (∃ x : Fin 8, s.ints.wakeInt.getLsbD x = true ∧ s.ints.wakeIntEv.getLsbD x = true) ∨
      (∃ c : Fin 4, s.ints.wakeEot.getLsbD c = true ∧ s.ints.wakeEotEv.getLsbD c = true)
    (s.mode.asleep = true → ready → wake s = withMode s { s.mode with asleep := false }) ∧
    (s.mode.asleep = false ∨ ¬ready → wake s = s) ∧
    ((s.mode.allfatal && s.mode.nonefatal) = false → inDebug s = true → ctrlWrite 0x10 s = .next { s with
      mode := { s.mode with start := true, stop := false, brk := false, watch := false, halt := false, stepreq := false,
                            asleep := false }
      regs := { s.regs with cond := 0 } }) ∧
    (inDebug s = false → ctrlWrite 0x10 s = .refused .startRunning)

/-- The tick counter (R1068), in a cycle the core did not begin in debug state. -/
def Obligations.TickCounter : Prop :=
  ∀ s : State,
    (s.mode.ticken = true → s.tickWritten = false → s.regs.tick ≠ 0xFFFFFFFE →
      tick false s = { s with regs := { s.regs with tick := s.regs.tick + 1 } }) ∧
    (s.mode.ticken = true → s.tickWritten = false → s.regs.tick = 0xFFFFFFFE →
      tick false s = lineEvent 7 { s with
        regs := { s.regs with tick := 0xFFFFFFFF }, mode := { s.mode with tickovf := true } }) ∧
    (s.mode.ticken = false ∨ s.tickWritten = true → tick false s = s) ∧ tick true s = s

/-! ## Transfers of the PMU and of the DMA engine -/

/-- A chunk load is a transfer of channel 3 (R972, R1005, R1006, R1008): BUSY3 and RUN3, the shadow registers, one 32-bit word of
program memory for each word of the bus, its end without EOT, its error. The model's own readings, beside those rules: how the
shadow registers step, that a request of channel 3 itself stays, that U12 covers these writes (log 33) and the word at MGCPC (log
43), that an error saves the addresses of channel 3 (logs 17 and 33) and drops the PMU's load (logs 16 and 33), that
it comes before U12 (log 44). The invariant says that memory is in canonical form. -/
def Obligations.ChunkLoads : Prop :=
  ∀ (s : State) (j : PmuJob), s.Inv → s.pmu.job = some j → j.asked = true →
    let d := s.dma
    let c := d.chan 3
    let saved : DmaChan := { c with savedExt := some d.curExt, savedInt := some d.curInt }
    let p := (d.curInt.extractLsb' 0 13 : BitVec 13).toNat
    let k := d.part.toNat
    let d' : Dma := { d with
      curExt := (d.curExt &&& ~~~0xFFFFF) + ((d.curExt + 4) &&& 0xFFFFF)
      curLen := d.curLen - 1
      part := d.part + 1
      curInt := if d.part = 3 then 1#4 ++ (d.curInt.extractLsb' 0 16 + 1 : BitVec 16) else d.curInt }
    ((dmaStat s).getLsbD 3 = true ∧ (dmaStat s).getLsbD 8 = true ∧
      (dmaStat s).getLsbD 7 = (d.running == some .chunk || d.running == some (.channel 3))) ∧
    (d.running = none → dmaReady s = .next { s with dma := { d with
      running := some .chunk
      curExt := (s.pmu.extAdd.setWidth 32 <<< 20) ||| ((j.va.extractLsb' 6 10 : BitVec 10).setWidth 32 <<< 10)
      curInt := 1#4 ++ 0#3 ++ j.page ++ (j.va.extractLsb' 6 4 : BitVec 4) ++ 0#6
      curLen := 256, part := 0 } }) ∧
    (d.running = some .chunk → d.curInt.extractLsb' 16 4 = 1#4 →
      dmaReady s = .next s ∧
      (∀ v, Near s p → dmaMove ⟨v, true⟩ s = .refused .programNearPc) ∧
      (∀ v, ¬Near s p → ∃ t, dmaMove ⟨v, true⟩ s = .next t ∧
        (∀ i, i < 4 → partOf i (t.mem.pm p) = if i = k then v else partOf i (s.mem.pm p)) ∧
        SameOutside (pmByte p + 4 * k) 4 s.mem t.mem ∧ t.out = s.out ++ [.busRead d.curExt] ∧
        t.rf = s.rf ∧ t.regs = s.regs ∧ t.ints = s.ints ∧
        (d.curLen ≠ 1 → t.dma = d' ∧ t.pmu = s.pmu) ∧
        (d.curLen = 1 →
          t.dma = { d'.setChan 3 { c with savedExt := some d'.curExt, savedInt := some d'.curInt } with running := none } ∧
          t.pmu.job = none ∧ t.pmu.mappedAt j.page =
            s.pmu.mappedAt j.page ||| (1#32 <<< (16 + (j.va.extractLsb' 6 4 : BitVec 4).toNat)) ∧
          (∀ q, q ≠ j.page → t.pmu.mappedAt q = s.pmu.mappedAt q) ∧ t.pmu.virt = s.pmu.virt)) ∧
      (∀ v, dmaMove ⟨v, false⟩ s = .next (raise .msterr { s with
        out := s.out ++ [.busRead d.curExt]
        dma := { d.setChan 3 saved with running := none, err := true }
        pmu := { s.pmu with job := none } })))

/-- One 32-bit word of a channel's transfer (R1004, R1006): what it moves in each segment, the shadow registers stepped once for
each internal word, the end of the transfer with the last word; an error ends it without EOT (that the addresses are saved then is
log 17); a meeting with a P0B access of the cycle (R189). That U12 covers the word at MGCPC is the model's choice (log 43), and the
order of the error and of U11 or U12 on one word too (log 44). The invariant says that memory is in canonical form. -/
def Obligations.DmaWords : Prop :=
  ∀ (s : State) (x : BitVec 2) (r : BusReply), s.Inv → s.dma.running = some (.channel x) →
    let d := s.dma
    let c := d.chan x
    let seg : BitVec 4 := d.curInt.extractLsb' 16 4
    let ia : BitVec 16 := d.curInt.extractLsb' 0 16
    let k := d.part.toNat
    let fail := fun (t : State) => raise .msterr { t with
      dma := { d.setChan x { c with busy := false, savedExt := some d.curExt, savedInt := some d.curInt } with
        running := none, err := true } }
    let go := fun (n : Nat) (t : State) =>
      let t1 : State := { t with dma := { d with
        curExt := (d.curExt &&& ~~~(c.extCirc.setWidth 32)) + ((d.curExt + c.extMod.setWidth 32) &&& c.extCirc.setWidth 32)
        curLen := d.curLen - 1
        part := if k + 1 = n then 0 else d.part + 1
        curInt := if k + 1 = n then seg ++ ((ia &&& ~~~c.intCirc) + ((ia + c.intMod) &&& c.intCirc)) else d.curInt } }
      if d.curLen = 1 then dmaEot x t1 else t1
    (∀ (w : DmView) (a : Nat), a < 0x4000 → seg = segOf w → ia = internal w a →
      (c.isRead = false → (∀ y ∈ s.acc, y.addr = a → y.port = .p0b → y.write = false) →
        let t : State := { s with
          out := s.out ++ [.busWrite d.curExt (seen w k (s.mem.dm a))]
          acc := s.acc ++ [⟨.p0a, a, false, s.mem.dm a⟩] }
        dmaMove r s = .next (if r.ok then go (partsOf w) t else fail t)) ∧
      (c.isRead = true → r.ok = true → Untouched s a → ∃ t, dmaMove r s = .next (go (partsOf w) t) ∧
        t.mem.dm a = stored w k (s.mem.dm a) r.rdata ∧ SameOutside (dmByte a) 5 s.mem t.mem ∧
        t.out = s.out ++ [.busRead d.curExt] ∧ t.rf = s.rf ∧ t.arf = s.arf ∧ t.regs = s.regs ∧ t.pmu = s.pmu) ∧
      (c.isRead = true → r.ok = false → dmaMove r s = .next (fail { s with out := s.out ++ [.busRead d.curExt] })) ∧
      (∀ y ∈ s.acc, y.addr = a → y.port = .p0b →
        (c.isRead = false ∧ y.write = true) ∨ (c.isRead = true ∧ r.ok = true) → dmaMove r s = .fault .sameWordAccess)) ∧
    (seg = 1 → ia.toNat ≤ 0x1FFF →
      (c.isRead = false →
        let t : State := { s with out := s.out ++ [.busWrite d.curExt (partOf k (s.mem.pm ia.toNat))] }
        dmaMove r s = .next (if r.ok then go 4 t else fail t)) ∧
      (c.isRead = true → r.ok = true → Near s ia.toNat → dmaMove r s = .refused .programNearPc) ∧
      (c.isRead = true → r.ok = true → ¬Near s ia.toNat →
        ∃ t, dmaMove r s = .next (go 4 t) ∧
          (∀ i, i < 4 → partOf i (t.mem.pm ia.toNat) = if i = k then r.rdata else partOf i (s.mem.pm ia.toNat)) ∧
          SameOutside (pmByte ia.toNat + 4 * k) 4 s.mem t.mem ∧ t.out = s.out ++ [.busRead d.curExt] ∧ t.rf = s.rf ∧
          t.arf = s.arf ∧ t.regs = s.regs ∧ t.mode = s.mode ∧ t.ints = s.ints ∧ t.pmu = s.pmu) ∧
      (c.isRead = true → r.ok = false → dmaMove r s = .next (fail { s with out := s.out ++ [.busRead d.curExt] })))

/-! ## Landing and memory -/

/-- What is not due comes one step nearer; one due effect of each kind lands as its rule says (R336; swpipe's in LoopOperations), status
flags, the bit of each event of each unit (R51, R641), with their collection into MGCEXCEPTION (R640, R642); a due movement is a register write (R812), which, where
it lands one cycle after its issue (`soon`) and goes to a register of R1082, leaves the service point of this core step with the
interrupt registers of before it (that R1082 is an exception to R1090, and for such movements alone, is DEDUCED, log 37). -/
def Obligations.LandingOfEntries : Prop :=
  (∀ (u : Unit2) (e : Ev) (i : Nat), (flagWord u e).getLsbD i = (eventBits u).any fun x => x.1 == i && x.2 e) ∧
  ∀ s : State,
    ((∀ e ∈ s.pend, 1 < e.delay) → (∀ e ∈ s.ports, 1 < e.delay) →
      land s = .next { s with
        pend := s.pend.map (fun e => ⟨e.delay - 1, e.eff⟩), ports := s.ports.map (fun e => ⟨e.unit, e.delay - 1, e.op⟩) }) ∧
    (s.ports = [] →
      let t : State := { s with pend := [] }
      (∀ (port : RfPort) (n : BitVec 8) (v : Word40), s.pend = [⟨1, .rf port [(n, v)]⟩] →
        land s = .next { t with rf := s.rf.set n.toNat v n.isLt }) ∧
      (∀ (port : RfPort) (n m : BitVec 8) (v w : Word40), n ≠ m → s.pend = [⟨1, .rf port [(n, v), (m, w)]⟩] →
        land s = .next { t with rf := (s.rf.set n.toNat v n.isLt).set m.toNat w m.isLt }) ∧
      (∀ v : BitVec 16, s.pend = [⟨1, .aguTmp .agu0 v⟩] → land s = .next { t with tmp0 := v }) ∧
      (∀ v : BitVec 16, s.pend = [⟨1, .aguTmp .agu1 v⟩] → land s = .next { t with tmp1 := v }) ∧
      (∀ m v : BitVec 16, s.pend = [⟨1, .pred m v⟩] → land s = .next { t with regs := { s.regs with
        pred := (s.regs.pred &&& ~~~(m &&& 0x7FFF)) ||| (v &&& (m &&& 0x7FFF)) } }) ∧
      (∀ (u : AguUnit) (k : BitVec 4) (v : BitVec 16), s.pend = [⟨1, .aguA u k v⟩] →
        let r : Arf := { s.arfAt k with a := v }
        land s = .next { t with arf := s.arf.set k.toNat r k.isLt }) ∧
      (∀ m v : BitVec 16, s.pend = [⟨1, .cond m v⟩] → land s = .next { t with regs := { s.regs with
        cond := (s.regs.cond &&& ~~~(m &&& 0x37FF)) ||| (v &&& (m &&& 0x37FF)) } }) ∧
      (∀ v, s.pend = [⟨1, .stkiq v⟩] → land s = .next { t with regs := { s.regs with stkiq := v } }) ∧
      (∀ v, s.pend = [⟨1, .stk v⟩] → land s = .next { t with regs := { s.regs with stk := v } }) ∧
      (∀ v, s.pend = [⟨1, .rept v⟩] → land s = .next { t with regs := { s.regs with rept := v } }) ∧
      (∀ (k : BitVec 4) (v0 v1 : Word40), s.pend = [⟨1, .moveArf k v0 v1⟩] →
        let r : Arf := { a := v0.extractLsb' 16 16, m := v0.setWidth 16, s := v1.extractLsb' 16 16, l := v1.setWidth 16 }
        land s = .next { t with arf := s.arf.set k.toNat r k.isLt }) ∧
      (∀ (path : Bool) (f : BitVec 32), s.pend = [⟨1, .sticky path f⟩] →
        let set := fun (l : List Nat) => l.any (fun i => f.getLsbD i)
        let r := fun (b : Bool) (e : Exc) (s : State) => if b then raise e s else s
        land s = .next (r (set [26]) .divzero (r (set [2, 6, 11, 16, 21, 25, 29]) .badout
          (r (set [3, 7, 12, 17, 22, 27, 30, 31]) .badin { t with
            regs := if path then { s.regs with sticky1 := s.regs.sticky1 ||| f }
              else { s.regs with sticky0 := s.regs.sticky0 ||| f } })))) ∧
      (∀ (a : BitVec 7) (v : Word40) (soon : Bool), s.pend = [⟨1, .move a v soon⟩] →
        let unseen := soon = true ∧ a ∈ [0x71, 0x72, 0x73, 0x74, 0x75, 0x76, 0x77, 0x78, 0x79, 0x7C, 0x7E, 0x7F]
        land s = andThen (firstWrite .core a (v.setWidth 32) t) fun u =>
          .next (if unseen then { u with held := some (s.held.getD s.ints) } else u)))

/-- Two effects of one class that land together: the exception, and neither is applied (R337). Two ports that write one RF register:
the same data lands, different data faults (U1). Two writers of one A field (U19), and a movement toward MGCSTKIQ with a stack
operation (U21), are refused. -/
def Obligations.LandingClashes : Prop :=
  (∀ (s : State) (p q : RfPort) (es fs : List (BitVec 8 × Word40)), p ≠ q → s.ports = [] →
    s.pend = [⟨1, .rf p es⟩, ⟨1, .rf q fs⟩] → (∃ n v w, (n, v) ∈ es ∧ (n, w) ∈ fs ∧ v ≠ w) → land s = .fault .rfDoubleWrite) ∧
  (∀ (s : State) (p q : RfPort) (n m : BitVec 8) (v w : Word40), p ≠ q → s.ports = [] →
    s.pend = [⟨1, .rf p [(n, v)]⟩, ⟨1, .rf q [(m, w)]⟩] → (n = m → v = w) →
    land s = .next { s with pend := [], rf := (s.rf.set n.toNat v n.isLt).set m.toNat w m.isLt }) ∧
  (∀ (s : State) (u : AguUnit) (k : BitVec 4) (v : BitVec 16) (f : Effect), s.ports = [] →
    s.pend = [⟨1, .aguA u k v⟩, ⟨1, f⟩] ∨ s.pend = [⟨1, f⟩, ⟨1, .aguA u k v⟩] →
    ((∃ o x, o ≠ u ∧ f = .aguA o k x) ∨ (∃ x soon, f = .move (0x14#7 + k.setWidth 7) x soon) ∨
      (∃ x soon, f = .move (0x34#7 + k.setWidth 7) x soon) ∨ (∃ x y, f = .moveArf k x y)) → land s = .refused .arfFieldTwice) ∧
  (∀ (s : State) (v : BitVec 32) (x : Word40) (soon : Bool), s.ports = [] →
    s.pend = [⟨1, .stkiq v⟩, ⟨1, .move 0x70 x soon⟩] ∨ s.pend = [⟨1, .move 0x70 x soon⟩, ⟨1, .stkiq v⟩] →
    land s = .refused .moveStkiq) ∧
  ∀ c ∈ clashes, ∀ (s : State) (e1 e2 : Effect), s.ports = [] → s.pend = [⟨1, e1⟩, ⟨1, e2⟩] → c.1 e1 = true → c.1 e2 = true →
    land s = .next (raise c.2 { s with pend := [] })

/-- A sum reaches its register in the third step after its bundle and not before, whatever else is true of the state, and no
other register changes (R336, R1210). -/
def Obligations.SumVisibleAfterThreeSteps : Prop :=
  ∀ (p : BitVec 2) (d a b : BitVec 8) (s : State), s.pend = [] → s.ports = [] → s.resetNow = false → ScalarOn .add p s →
    ∃ s1 s2 s3 s4 : State, exec (.faddPP p d a b) s = .next s1 ∧ land s1 = .next s2 ∧ land s2 = .next s3 ∧
      land s3 = .next s4 ∧ s1.rf = s.rf ∧ s2.rf = s.rf ∧ s3.rf = s.rf ∧ s4.rfAt d = (fadd (s.rfAt a) (s.rfAt b)).1 ∧
      (∀ n, n ≠ d → s4.rfAt n = s.rfAt n) ∧ s4.arf = s.arf ∧ s4.mem = s.mem ∧ s4.regs.pc = s.regs.pc

/-- Due port accesses (R338, R160 to R163, R188 cases 2 and 5, R189), of one word or a pair: a store changes the five bytes of each
word it stores and no other; a read delivers its words to the enabled elements or to the first bank two steps later; a read with a
write, two writes on one port; two units that write one word, or of which one reads a word that the other writes; a P0B read in
the cycle of a slave write, which sees it. The invariant says that memory is in canonical form. -/
def Obligations.MemoryPortAccesses : Prop :=
  (∀ (s : State) (w : DmView) (a : BitVec 16) (b k : Nat) (v : BitVec 32) (vec : Bool) (d : ReadDest), s.Inv → s.pend = [] →
    s.acc = [] → s.resetNow = false → b < 0x4000 → k < partsOf w → s.inp.slave = some ⟨busAddr w b k, some v, true⟩ →
    s.ports = [⟨.agu0, 1, .read a vec d⟩] →
    let new := stored w k (s.mem.dm b) v
    let data := fun (n : Nat) => if n = b then new else s.mem.dm n
    ∃ t t' : State, land s = .next t ∧ slaveLate t = .next t' ∧ t.mem = s.mem ∧ t'.mem.dm b = new ∧
      SameOutside (dmByte b) 5 s.mem t'.mem ∧
      t.pend = (match d with
        | .rf port n c0 c1 => only (c0 || c1) ⟨2, .rf port (only c0 (n, data a.toNat) ++ only c1 (n + 1, data (a.toNat + 1)))⟩
        | .first r => [⟨2, .move r (data a.toNat) false⟩]
        | .arf r => [⟨2, .moveArf r (data a.toNat) (data (a.toNat + 1))⟩])) ∧
  ∀ (s : State) (u : AguUnit) (a b : BitVec 16), s.Inv → s.pend = [] → s.inp.slave = none → s.resetNow = false →
    (∀ e0 e1 : Option Word40, s.ports = [⟨u, 1, .write a e0 e1⟩] → ∃ t, land s = .next t ∧
      (∀ v, e0 = some v → t.mem.dm a.toNat = v) ∧ (∀ v, e1 = some v → t.mem.dm (a.toNat + 1) = v) ∧
      (∀ n, (e0.isSome = true → n < dmByte a.toNat ∨ dmByte a.toNat + 5 ≤ n) →
        (e1.isSome = true → n < dmByte (a.toNat + 1) ∨ dmByte (a.toNat + 1) + 5 ≤ n) → t.mem.read n = s.mem.read n) ∧
      t.rf = s.rf ∧ t.arf = s.arf ∧ t.regs = s.regs ∧ t.pend = [] ∧ t.ports = []) ∧
    (∀ (vec : Bool) (d : ReadDest), s.ports = [⟨u, 1, .read a vec d⟩] → ∃ t, land s = .next t ∧
      t.pend = (match d with
        | .rf port n c0 c1 => only (c0 || c1)
            ⟨2, .rf port (only c0 (n, s.mem.dm a.toNat) ++ only c1 (n + 1, s.mem.dm (a.toNat + 1)))⟩
        | .first r => [⟨2, .move r (s.mem.dm a.toNat) false⟩]
        | .arf k => [⟨2, .moveArf k (s.mem.dm a.toNat) (s.mem.dm (a.toNat + 1))⟩]) ∧
      t.ports = [] ∧ t.mem = s.mem ∧ t.rf = s.rf ∧ t.arf = s.arf ∧ t.regs = s.regs) ∧
    (∀ (vec : Bool) (d : ReadDest) (e0 e1 : Option Word40),
      s.ports = [⟨u, 1, .read a vec d⟩, ⟨u, 1, .write b e0 e1⟩] ∨ s.ports = [⟨u, 1, .write b e0 e1⟩, ⟨u, 1, .read a vec d⟩] →
      land s = .next (raise (match u with | .agu0 => .rwagu0 | .agu1 => .rwagu1) { s with ports := [] })) ∧
    (∀ e0 e1 e2 e3 : Option Word40,
      s.ports = [⟨u, 1, .write a e0 e1⟩, ⟨u, 1, .write b e2 e3⟩] → land s = .refused .twoPortWrites) ∧
    (∀ e0 e1 e2 e3 : Option Word40, s.ports = [⟨.agu0, 1, .write a e0 e1⟩, ⟨.agu1, 1, .write b e2 e3⟩] →
      let w0 := fun (n : Nat) => (e0.isSome = true ∧ n = a.toNat) ∨ (e1.isSome = true ∧ n = a.toNat + 1)
      let w1 := fun (n : Nat) => (e2.isSome = true ∧ n = b.toNat) ∨ (e3.isSome = true ∧ n = b.toNat + 1)
      ∃ t, land s = .next t ∧
        (∀ v, e0 = some v → t.mem.dm a.toNat = v) ∧ (∀ v, e1 = some v → t.mem.dm (a.toNat + 1) = v) ∧
        (∀ v, e2 = some v → ¬w0 b.toNat → t.mem.dm b.toNat = v) ∧
        (∀ v, e3 = some v → ¬w0 (b.toNat + 1) → t.mem.dm (b.toNat + 1) = v) ∧
        ((∃ n, w0 n ∧ w1 n) → s.regs.mask.getLsbD 25 = false → t.regs.exception.getLsbD 25 = true) ∧
        ((∀ n, w0 n → ¬w1 n) → t.regs = s.regs) ∧
        (∀ n, (∀ x, w0 x ∨ w1 x → n < dmByte x ∨ dmByte x + 5 ≤ n) → t.mem.read n = s.mem.read n)) ∧
    (∀ (e0 e1 : Option Word40) (vec : Bool) (d : ReadDest),
      s.ports = [⟨.agu0, 1, .write a e0 e1⟩, ⟨.agu1, 1, .read b vec d⟩] ∨
        s.ports = [⟨.agu0, 1, .read b vec d⟩, ⟨.agu1, 1, .write a e0 e1⟩] →
      (∃ n, ((e0.isSome = true ∧ n = a.toNat) ∨ (e1.isSome = true ∧ n = a.toNat + 1)) ∧
        (n = b.toNat ∨ (vec = true ∧ n = b.toNat + 1))) →
      land s = .fault .sameWordAccess)

/-- The three views of a data word, through the slave port and through the DMA engine (R173 to R175, R1004): what a read shows,
what a write leaves, with every byte outside the word as before; a P0A write that meets a P1B write of the cycle starts from the
word before it (R188 case 8). The invariant says that memory is in canonical form. -/
def Obligations.DataMemoryViews : Prop :=
  ∀ (s : State) (w : DmView) (a k : Nat), s.Inv → a < 0x4000 → k < partsOf w →
    (s.inp.slave = some ⟨busAddr w a k, none, true⟩ → Untouched s a →
      slaveEarly s = .next s ∧ slaveLate s = .next { s with
        acc := s.acc ++ [⟨.p1a, a, false, s.mem.dm a⟩], out := s.out ++ [.slaveData (seen w k (s.mem.dm a))] }) ∧
    (∀ v, s.inp.slave = some ⟨busAddr w a k, some v, true⟩ → Untouched s a →
      slaveEarly s = .next s ∧ ∃ t, slaveLate s = .next t ∧ t.mem.dm a = stored w k (s.mem.dm a) v ∧
        SameOutside (dmByte a) 5 s.mem t.mem ∧ t.out = s.out ++ [.slaveOk] ∧
        t.rf = s.rf ∧ t.arf = s.arf ∧ t.regs = s.regs ∧ t.dma = s.dma ∧ t.pmu = s.pmu) ∧
    dmaLoadWord (segOf w) (internal w a) k s = seen w k (s.mem.dm a) ∧
    (∀ v, NoP0b s a → ∃ t, dmaStoreWord (segOf w) (internal w a) k v s = .next t ∧
      (Untouched s a → t.mem.dm a = stored w k (s.mem.dm a) v) ∧
      (∀ o, s.acc = [⟨.p1b, a, true, o⟩] → t.mem.dm a = stored w k o v) ∧
      SameOutside (dmByte a) 5 s.mem t.mem ∧ t.rf = s.rf ∧ t.arf = s.arf ∧ t.regs = s.regs ∧ t.dma = s.dma ∧ t.pmu = s.pmu)

/-- A transfer the slave port does not accept (wrong size, not aligned, an address in no region, a register offset in no
row of R110) gets an error, raises slverr and changes nothing else (R178). -/
def Obligations.SlaveErrors : Prop :=
  ∀ (s : State) (x : SlaveAccess), s.inp.slave = some x →
    (x.word = false ∨ x.addr.getLsbD 0 = true ∨ x.addr.getLsbD 1 = true ∨ x.addr.toNat < 0x600000 ∨
      (0x630000 ≤ x.addr.toNat ∧ x.addr.toNat < 0x640000) ∨ (0x650000 ≤ x.addr.toNat ∧ x.addr.toNat < 0x660000) ∨
      0x682000 ≤ x.addr.toNat ∨ (0x680334 ≤ x.addr.toNat ∧ x.addr.toNat < 0x680400) ∨
      (0x680C10 ≤ x.addr.toNat ∧ x.addr.toNat < 0x680FC0) ∨ 0x680FC4 ≤ x.addr.toNat) →
    slaveEarly s = .next { raise .slverr s with out := s.out ++ [.slaveError] } ∧ slaveLate s = .next s

/-! ## Registers, mutexes, the DMA engine -/

/-- A plain register takes the bits it has and reads them back, for the core and for the host (R110, R812); the channel
registers do while their channel is idle (R1002). The write-mask registers of the interrupts, of waking and of the DMA engine act
bit by bit, and their status registers show it (R74, R75, R78, R72, R73, R79, R94, R95). A write of MGCWAKECTRL that names no bit
clears the recorded events too: DEDUCED (log 39). What an abort of channel 3 does to a chunk load is the model's choice (log 32),
and so is that an abort of an idle channel makes its saved addresses undefined, as one of a running or pending transfer does (DEDUCED,
log 17). The invariant says that MGCPRED has no bit 15. -/
def Obligations.RegistersReadBack : Prop :=
  ∀ (who : Writer) (v : BitVec 32) (s : State), s.Inv →
    (∀ r ∈ plainRegisters, ∃ t, firstWrite who r.1 v s = .next t ∧ firstRead t r.1 = v &&& r.2 ∧ t.rf = s.rf ∧
      t.mem = s.mem ∧ t.regs.pc = s.regs.pc ∧ t.pend = s.pend) ∧
    (s.mode.pmuen = false ∨ s.dma.active ≠ 3 → chanBusy s s.dma.active = false →
      ∀ r ∈ channelRegisters, ∃ t, firstWrite who r.1 v s = .next t ∧ firstRead t r.1 = v &&& r.2 ∧ t.rf = s.rf ∧
        t.mem = s.mem ∧ t.regs = s.regs ∧ (∀ c, c ≠ s.dma.active → t.dma.chan c = s.dma.chan c)) ∧
    (s.mode.pmuen = false ∨ s.dma.active ≠ 3 → chanBusy s s.dma.active = true →
      ∀ r ∈ channelRegisters, firstWrite who r.1 v s = .next (raise .dmabusy s)) ∧
    ((∃ x : Fin 16, Both v (2 * x)) → firstWrite who 0x7C v s = .refused .controlPair) ∧
    ((∀ x : Fin 16, ¬Both v (2 * x)) → ∃ f, firstWrite who 0x7C v s = .next (byInts s f) ∧
      ∀ i, f i = { i with en := (f i).en, shedge := (f i).shedge } ∧ ∀ x : Fin 8,
        (f i).en.getLsbD x = setClear v (2 * x) (i.en.getLsbD x) ∧
        (f i).shedge.getLsbD x = setClear v (16 + 2 * x) (i.shedge.getLsbD x)) ∧
    ((∃ x : Fin 8, Both v (2 * x)) → firstWrite who 0x7E v s = .refused .controlPair) ∧
    ((∀ x : Fin 8, ¬Both v (2 * x)) → ∃ f, firstWrite who 0x7E v s = .next (byInts s f) ∧
      ∀ i, f i = { i with pend := (f i).pend, wakeIntEv := (f i).wakeIntEv } ∧ ∀ x : Fin 8,
        (f i).pend.getLsbD x = setClear v (2 * x) (i.pend.getLsbD x) ∧
        (f i).wakeIntEv.getLsbD x = (i.wakeIntEv.getLsbD x || (v.getLsbD (2 * x) && i.wakeInt.getLsbD x))) ∧
    ((∃ x : Fin 12, Both v (2 * x)) → firstWrite who 0x7D v s = .refused .controlPair) ∧
    ((∀ x : Fin 12, ¬Both v (2 * x)) → ∃ f, firstWrite who 0x7D v s = .next (byInts s f) ∧
      ∀ i, f i = { i with wakeInt := (f i).wakeInt, wakeEot := (f i).wakeEot, wakeIntEv := 0, wakeEotEv := 0 } ∧
        (∀ x : Fin 8, (f i).wakeInt.getLsbD x = setClear v (2 * x) (i.wakeInt.getLsbD x)) ∧
        ∀ c : Fin 4, (f i).wakeEot.getLsbD c = setClear v (16 + 2 * c) (i.wakeEot.getLsbD c)) ∧
    firstRead s 0x7A = 0#8 ++ s.ints.shedge ++ s.ints.en ++ s.ints.pend ∧
    (∀ j : Fin 4, ∀ h : Fin 2,
      (firstRead s 0x7B).getLsbD (8 * h + j) = s.ints.shpend.getLsbD (4 * h + j) ∧
      (firstRead s 0x7B).getLsbD (8 * h + 4 + j) = s.ints.shsave.getLsbD (4 * h + j)) ∧
    firstRead s 0x7D = 0#8 ++ s.ints.wakeEotEv ++ s.ints.wakeIntEv ++ s.ints.wakeEot ++ s.ints.wakeInt ∧
    (∀ i : Fin 32, (firstRead s 0x6F).getLsbD i = (dmaBits s).getD i false) ∧
    let pairs := Both v 0 ∨ Both v 4 ∨ Both v 6 ∨ Both v 22
    let mixed := v.getLsbD 8 = true ∧ ∃ i ∈ [0, 1, 2, 4, 5, 6, 7], v.getLsbD i = true
    let chunk := v.getLsbD 11 = true ∧ s.pmu.job.isSome = true
    (pairs → firstWrite who 0x6F v s = .refused .controlPair) ∧
    (¬pairs → mixed → firstWrite who 0x6F v s = .refused .dmaCtrlMix) ∧
    (¬pairs → ¬mixed → chunk → firstWrite who 0x6F v s = .refused .abortallPmu) ∧
    (¬pairs → ¬mixed → ¬chunk → ∃ t, DmaCommand who v s t ∧
      let c := s.dma.active
      firstWrite who 0x6F v s =
        if v.getLsbD 0 = false ∧ v.getLsbD 1 = false then .next t
        else if s.mode.pmuen = true ∧ c = 3 then .refused .dmaChannel3
        else if chanBusy t c then .next (raise .dmabusy t)
        else .next { t with dma := t.dma.setChan c { t.dma.chan c with busy := true, isRead := v.getLsbD 1 } })

/-- The write lock of MGCCTRL (R1069); continue, stop, gbreakon and gbreakoff written alone to it (R1064, R1066); its sleep bits and
mode pairs, bit by bit (R1062, R1100, R1103); its software reset (R1201; that MAXSTAGE stays is DEDUCED, log 3, that the other bits
of the word are void is the model's choice, log 18). MGCSTAT bit by bit (R56) and its write and test (R112). That continue
clears stop, halt and stepreq beside break and watch, and that the debug state is the OR of its sources, is the spec's own reading
(R1063, D54). -/
def Obligations.ControlRegister : Prop :=
  (∀ (s : State) (w : BitVec 32),
    (s.mode.lock = true → firstWrite .core 0x00 w s = .next (raise .ctrlockex s)) ∧
    (s.mode.lock = false → firstWrite .core 0x00 w s = ctrlWrite w s) ∧ firstWrite .host 0x00 w s = ctrlWrite w s) ∧
  (∀ (s : State) (w : BitVec 32),
    let pairs := [0, 5, 7, 9, 11, 13, 15, 17, 19, 21, 23, 25, 27, 29]
    let m : Mode := { s.mode with
      asleep := setClear w 0 s.mode.asleep, gbreak := setClear w 5 s.mode.gbreak, step := setClear w 7 s.mode.step
      ct := setClear w 9 s.mode.ct, decopen := setClear w 11 s.mode.decopen, watchen := setClear w 13 s.mode.watchen
      pty2break := setClear w 15 s.mode.pty2break, intovfen := setClear w 17 s.mode.intovfen
      pmcheck := setClear w 19 s.mode.pmcheck, pmuen := setClear w 21 s.mode.pmuen, ticken := setClear w 23 s.mode.ticken
      lock := setClear w 25 s.mode.lock, allfatal := setClear w 27 s.mode.allfatal
      nonefatal := setClear w 29 s.mode.nonefatal }
    (w.getLsbD 31 = false →
      ((∃ k ∈ pairs, Both w k) → ctrlWrite w s = .refused .controlPair) ∧
      ((∀ k ∈ pairs, ¬Both w k) →
        (w.getLsbD 11 = true → ctrlWrite w s = .refused .decompressor) ∧
        (w.getLsbD 11 = false → (m.allfatal && m.nonefatal) = false → w &&& 0x1C = 0 → ctrlWrite w s = .next (withMode s m)))) ∧
    (w.getLsbD 31 = true → (∃ c, chanBusy s c = true) → ctrlWrite w s = .refused .resetBusy) ∧
    (w.getLsbD 31 = true → (∀ c, chanBusy s c = false) → ∃ t, ctrlWrite w s = .next t ∧
      (s.dbgReq = false → ∀ r ∈ resetRegisters, r.1 ≠ 0x6F → firstRead t r.1 = r.2) ∧
      (∀ a ∈ [0x07, 0x0A, 0x0D, 0x11, 0x12, 0x13, 0x71, 0x72, 0x73, 0x74, 0x75, 0x76, 0x77, 0x78, 0x7E],
        firstRead t a = firstRead s a) ∧
      t.pend = [] ∧ t.ports = [] ∧ inDebug t = true ∧
      t.mode = { t.mode with asleep := false, interrupt := false, softpipe := false, maxstage := s.mode.maxstage } ∧
      t.rf = s.rf ∧ t.arf = s.arf ∧ t.mem = s.mem ∧ t.pmu = s.pmu ∧ t.dma = { s.dma with curLen := 0 })) ∧
  (∀ (s : State) (v : BitVec 32),
    (∀ i : Fin 32, (statWord s).getLsbD i = (statBits s).getD i false) ∧
    (∃ c, firstWrite .core 0x01 v s = .next { s with regs := { s.regs with cond := c } } ∧
      WatBecomes .core (decide (statWord s &&& v = v)) s.regs.cond c) ∧
    firstWrite .host 0x01 v s = .next s) ∧
  ∀ s : State,
    (s.mode.allfatal && s.mode.nonefatal) = false →
    (inDebug s = true → ctrlWrite 0x04 s = .next (withMode s
      { s.mode with stop := false, brk := false, watch := false, halt := false, stepreq := false })) ∧
    (inDebug s = false → ctrlWrite 0x04 s = .next s) ∧
    (ctrlWrite 0x08 s = .next (withMode s { s.mode with stop := true, start := false }) ∧
      inDebug (withMode s { s.mode with stop := true, start := false }) = true) ∧
    (ctrlWrite 0x20 s = .next (withMode s { s.mode with gbreak := true }) ∧
      inDebug (withMode s { s.mode with gbreak := true }) = true) ∧
    ctrlWrite 0x40 s = .next (withMode s { s.mode with gbreak := false })

/-- The transfers the slave port accepts outside the views of data memory (R172, R176, R177): program words part by part, first
bank registers with the clearing of a read, the PMU registers, the read-only Register File window, MGCVLIW with the word at MGCPC
(R63), MGCRESET; and how an
access to a data word meets another port on that word in the same cycle (R188 cases 1, 6 and 7, R189). That MGCVLIW shows the
word at MGCPC is DEDUCED (log 26); that U12 covers a write to that word (log 43), that PMUCTL refuses mask with unmask, that softreset acts before them and that it drops a load
in progress with its transfer is the model's choice (log 36). The invariant says that memory is in canonical form. -/
def Obligations.SlaveTransfers : Prop :=
  ∀ s : State, s.Inv →
    (∀ p k, p < 0x2000 → k < 4 →
      let addr : BitVec 32 := BitVec.ofNat 32 (0x600000 + 16 * p + 4 * k)
      (s.inp.slave = some ⟨addr, none, true⟩ → slaveLate s = .next s ∧
        slaveEarly s = .next { s with out := s.out ++ [.slaveData (partOf k (s.mem.pm p))] }) ∧
      (∀ v, s.inp.slave = some ⟨addr, some v, true⟩ → slaveLate s = .next s ∧
        (Near s p → slaveEarly s = .refused .programNearPc) ∧
        (¬Near s p → ∃ t, slaveEarly s = .next t ∧
          (∀ i, i < 4 → partOf i (t.mem.pm p) = if i = k then v else partOf i (s.mem.pm p)) ∧
          SameOutside (pmByte p + 4 * k) 4 s.mem t.mem ∧ t.out = s.out ++ [.slaveOk] ∧
          t.rf = s.rf ∧ t.arf = s.arf ∧ t.regs = s.regs ∧ t.mode = s.mode ∧ t.ints = s.ints ∧ t.dma = s.dma ∧
          t.pmu = s.pmu))) ∧
    (∀ r : BitVec 7,
      let addr : BitVec 32 := 0x680000 + (r.setWidth 32 <<< 2)
      (s.inp.slave = some ⟨addr, none, true⟩ → slaveLate s = .next s ∧ ∃ t, slaveEarly s = .next t ∧
        t.out = s.out ++ [.slaveData (firstRead s r)] ∧ t.rf = s.rf ∧ t.mem = s.mem ∧
        (r ≠ 0x03 → r ≠ 0x04 → r ≠ 0x05 → t.regs = s.regs) ∧
        (r = 0x03 → t.regs = { s.regs with exception := s.regs.exception &&& s.raised }) ∧
        (r = 0x04 → t.regs = { s.regs with sticky0 := 0 }) ∧ (r = 0x05 → t.regs = { s.regs with sticky1 := 0 })) ∧
      (∀ v, s.inp.slave = some ⟨addr, some v, true⟩ → slaveLate s = .next s ∧
        (∀ t, firstWrite .host r v s = .next t → slaveEarly s = .next { t with out := t.out ++ [.slaveOk] }))) ∧
    (∀ n : BitVec 8,
      let addr : BitVec 32 := 0x680400 + (n.setWidth 32 <<< 3)
      (s.inp.slave = some ⟨addr, none, true⟩ →
        slaveEarly s = .next { s with out := s.out ++ [.slaveData ((s.rfAt n).extractLsb' 0 32)] }) ∧
      (s.inp.slave = some ⟨addr + 4, none, true⟩ →
        slaveEarly s = .next { s with out := s.out ++ [.slaveData (0#24 ++ ((s.rfAt n).extractLsb' 32 8 : BitVec 8))] }) ∧
      (∀ v, s.inp.slave = some ⟨addr, some v, true⟩ ∨ s.inp.slave = some ⟨addr + 4, some v, true⟩ →
        slaveEarly s = .next { raise .slverr s with out := s.out ++ [.slaveError] })) ∧
    PmuTransfers s ∧
    (∀ v k, k < 4 → s.inp.slave = some ⟨BitVec.ofNat 32 (0x680C00 + 4 * k), some v, true⟩ →
      slaveEarly s = .next { s with out := s.out ++ [.slaveOk] } ∧ slaveLate s = .next s) ∧
    (∀ v, s.inp.slave = some ⟨0x680FC0, some v, true⟩ →
      (v ≠ 0xAC1CDEAD → slaveEarly s = .next { s with out := s.out ++ [.slaveOk] } ∧ slaveLate s = .next s) ∧
      (v = 0xAC1CDEAD → slaveEarly s = .next { hardReset s with out := s.out ++ [.slaveOk] })) ∧
    (∀ k q, k < 4 → physOf s s.regs.pc = some q → s.inp.slave = some ⟨BitVec.ofNat 32 (0x680C00 + 4 * k), none, true⟩ →
      slaveEarly s = .next { s with out := s.out ++ [.slaveData (partOf k (s.mem.pm q.toNat))] }) ∧
    (∀ (w : DmView) (a k : Nat) (o : Word40), a < 0x4000 → k < partsOf w →
      (∀ v, s.inp.slave = some ⟨busAddr w a k, some v, true⟩ →
        (s.acc = [⟨.p0a, a, true, o⟩] ∨ s.acc = [⟨.p0b, a, true, o⟩] →
          slaveLate s = .next { s with out := s.out ++ [.slaveOk] }) ∧
        (s.acc = [⟨.p0a, a, false, o⟩] ∨ (∃ b, s.acc = [⟨.p1b, a, b, o⟩]) → slaveLate s = .fault .sameWordAccess)) ∧
      (s.inp.slave = some ⟨busAddr w a k, none, true⟩ →
        (s.acc = [⟨.p0b, a, true, o⟩] → ∃ t, slaveLate s = .next t ∧ t.out = s.out ++ [.slaveData (seen w k o)] ∧
          t.mem = s.mem) ∧
        (s.acc = [⟨.p0a, a, true, o⟩] ∨ s.acc = [⟨.p1b, a, true, o⟩] → slaveLate s = .fault .sameWordAccess)))

/-- A write to MGCMUTXCTRLSTAT (R1160), mutex by mutex; WATcond tells a core write's success. -/
def Obligations.MutexWrites : Prop :=
  ∀ (who : Writer) (w : BitVec 32) (s : State),
    (∀ x, x < 16 → ¬(w.getLsbD x = true ∧ w.getLsbD (16 + x) = true)) →
    let owned := fun (x : Nat) => s.regs.mutexLocked.getLsbD x && (s.regs.mutexOwner.getLsbD x == (who == .host))
    ∃ (l o : BitVec 16) (ok : Bool),
      mutexWrite who w s = .next { s with regs := { s.regs with
        mutexLocked := l, mutexOwner := o
        cond := if who = .core then (s.regs.cond &&& ~~~0x0400) ||| (if ok then 0x0400 else 0) else s.regs.cond } } ∧
      (∀ x, x < 16 → l.getLsbD x = (if w.getLsbD x then true
        else if w.getLsbD (16 + x) && owned x then false else s.regs.mutexLocked.getLsbD x)) ∧
      (∀ x, x < 16 → o.getLsbD x = (if w.getLsbD x && !s.regs.mutexLocked.getLsbD x then who == .host
        else s.regs.mutexOwner.getLsbD x)) ∧
      (ok = true ↔ ∀ x, x < 16 → (w.getLsbD x = true → s.regs.mutexLocked.getLsbD x = false) ∧
        (w.getLsbD (16 + x) = true → owned x = true))

/-- The DMA engine (R1003, R1005, R1008): the highest busy channel wins and loads its parameters, or the saved addresses in
preserve mode, for each of the four segments; an address or modifier that is not aligned ends it (that the addresses are saved
then is log 17, that no U24 case refuses it then is the model's choice, log 44), a preserve-mode transfer without saved addresses faults (U25); the end of a transfer, with its EOT, its wake-up
event and its event on line 4. In one clock cycle the engine moves as many words as the bus answers, one after another (R1000; that
one cycle may hold several is log 28), but one of data memory (R152). -/
def Obligations.DmaTransfers : Prop :=
  ∀ s : State,
    (∀ x, dmaWinner s.dma = some x ↔ (s.dma.chan x).busy = true ∧ ∀ y, x < y → (s.dma.chan y).busy = false) ∧
    (dmaWinner s.dma = none ↔ ∀ x, (s.dma.chan x).busy = false) ∧
    (s.dma.running = none → s.pmu.job = none →
      (∀ x, dmaWinner s.dma = some x → dmaReady s = dmaPick x s) ∧ (dmaWinner s.dma = none → dmaReady s = .next s)) ∧
    (s.inp.bus = [] → dmaCycle s = dmaReady s) ∧ (s.inp.bus ≠ [] → dmaCycle s = dmaMoves s.inp.bus s) ∧
    (∀ t, s.dma.running = some t → dmaReady s = .next s) ∧
    (∀ (l m : List BusReply), dmaMoves (l ++ m) s = andThen (dmaMoves l s) (dmaMoves m)) ∧
    (∀ r, (∀ y ∈ s.acc, y.port ≠ .p0a) → dmaMoves [r] s = andThen (dmaReady s) (dmaMove r)) ∧
    (∀ l x, (∃ y ∈ s.acc, y.port = .p0a) → s.dma.running = some (.channel x) → s.dma.curInt.extractLsb' 16 4 ≠ 1#4 →
      dmaMoves l s = .next s) ∧
    (∀ x, let c := s.dma.chan x
      let ext := if c.prsvExt then c.savedExt else some c.extAdd
      let int := if c.prsvInt then c.savedInt else some (c.seg ++ c.intAdd)
      (ext = none ∨ int = none → dmaPick x s = .fault .preserveUndefined) ∧
      ∀ e i, ext = some e → int = some i →
        let seg : BitVec 4 := i.extractLsb' 16 4
        let d : Dma := { s.dma with running := some (.channel x), curExt := e, curInt := i, curLen := c.len, part := 0 }
        c.seg ∈ [1#4, 2#4, 4#4, 8#4] → seg ∈ [1#4, 2#4, 4#4, 8#4] →
        (e.extractLsb' 0 2 = 0#2 → c.extMod.extractLsb' 0 2 = 0#2 →
          (seg = 1 → c.len.extractLsb' 0 2 = 0#2) →
          (seg = 8 → i.getLsbD 0 = false ∧ c.intMod.getLsbD 0 = false ∧ c.len.getLsbD 0 = false) →
          dmaPick x s = .next { s with dma := d }) ∧
        (e.extractLsb' 0 2 ≠ 0#2 ∨ c.extMod.extractLsb' 0 2 ≠ 0#2 →
          dmaPick x s = .next (raise .msterr { s with
            dma := { d.setChan x { c with busy := false, savedExt := some e, savedInt := some i } with
              running := none, err := true } }))) ∧
    (∀ x,
      let c : DmaChan := { s.dma.chan x with busy := false, savedExt := some s.dma.curExt, savedInt := some s.dma.curInt }
      dmaEot x s = lineEvent 4 { s with
        dma := { s.dma.setChan x c with running := none, eot := s.dma.eot ||| (1#4 <<< x.toNat) }
        ints := { s.ints with wakeEotEv := s.ints.wakeEotEv ||| (s.ints.wakeEot &&& (1#4 <<< x.toNat)) } })

end
end

