-- ==== Sys2Proof/Laws/Memory.lean ====
section
/-! SUPPORT. Laws of memory: a read after a write, and the canonical form that every memory operation keeps. -/

namespace Sys2Proof.Machine

/-! ## One byte -/

theorem Mem.read_above {m : Mem} {a : Nat} (h : ∀ c ∈ m, a < c.1) : Mem.read m a = Mem.unlisted := by
  induction m with
  | nil => rfl
  | cons c t ih =>
    have hc := h c (by simp)
    have : c.1 ≠ a := by omega
    simp only [Mem.read, this, if_false]
    exact ih fun x hx => h x (by simp [hx])

theorem Mem.read_write_other {a b : Nat} (h : b ≠ a) (m : Mem) (v : BitVec 8) :
    Mem.read (Mem.write m a v) b = Mem.read m b := by
  induction m with
  | nil =>
    by_cases hv : v = Mem.unlisted <;> simp [Mem.write, Mem.read, hv]
    intro h2; exact absurd h2.symm h
  | cons c t ih =>
    unfold Mem.write
    by_cases h1 : c.1 < a
    · simp [h1, Mem.read, ih]
    · by_cases h2 : c.1 = a
      · have h3 : c.1 ≠ b := by omega
        have h4 : ¬ a = b := fun e => h e.symm
        by_cases hv : v = Mem.unlisted <;> simp [h1, h2, hv, Mem.read, h4]
      · have h4 : ¬ a = b := fun e => h e.symm
        by_cases hv : v = Mem.unlisted <;> simp [h1, h2, hv, Mem.read, h4]

theorem Mem.read_write_same {m : Mem} (hm : m.wf) (a : Nat) (v : BitVec 8) :
    Mem.read (Mem.write m a v) a = v := by
  induction m with
  | nil => by_cases hv : v = Mem.unlisted <;> simp [Mem.write, Mem.read, hv]
  | cons c t ih =>
    obtain ⟨hp, hv0⟩ := hm
    rw [List.pairwise_cons] at hp
    have iht := ih ⟨hp.2, fun x hx => hv0 x (by simp [hx])⟩
    unfold Mem.write
    by_cases h1 : c.1 < a
    · have : c.1 ≠ a := by omega
      simp [h1, Mem.read, this, iht]
    · by_cases h2 : c.1 = a
      · by_cases hv : v = Mem.unlisted
        · simp only [h1, h2, hv, if_true, if_false]
          have := Mem.read_above (m := t) (a := a) fun x hx => h2 ▸ hp.1 x hx
          simpa [h2] using this
        · simp [h1, h2, hv, Mem.read]
      · by_cases hv : v = Mem.unlisted
        · have : Mem.read (c :: t) a = Mem.unlisted := Mem.read_above fun x hx => by
            rcases List.mem_cons.mp hx with rfl | hx
            · omega
            · have := hp.1 x hx; omega
          simp [h1, h2, hv, this]
        · simp [h1, h2, hv, Mem.read]

theorem Mem.mem_write {m : Mem} {a : Nat} {v : BitVec 8} {c : Host.Cell} (h : c ∈ Mem.write m a v) :
    c ∈ m ∨ (c = (a, v) ∧ v ≠ Mem.unlisted) := by
  induction m with
  | nil =>
    by_cases hv : v = Mem.unlisted
    · simp [Mem.write, hv] at h
    · simp [Mem.write, hv] at h; exact .inr ⟨h, hv⟩
  | cons d t ih =>
    unfold Mem.write at h
    by_cases h1 : d.1 < a
    · simp only [h1, if_true, List.mem_cons] at h
      rcases h with h | h
      · exact .inl (by simp [h])
      · rcases ih h with h | h
        · exact .inl (by simp [h])
        · exact .inr h
    · by_cases hv : v = Mem.unlisted
      · by_cases h2 : d.1 = a
        · simp only [h1, h2, hv, if_true, if_false] at h
          have : c ∈ t := by simpa using h
          exact .inl (by simp [this])
        · simp only [h1, h2, hv, if_true, if_false] at h
          exact .inl h
      · by_cases h2 : d.1 = a
        · have h' : c ∈ (a, v) :: t := by simpa [h1, h2, hv] using h
          rcases List.mem_cons.mp h' with h' | h'
          · exact .inr ⟨h', hv⟩
          · exact .inl (by simp [h'])
        · have h' : c ∈ (a, v) :: d :: t := by simpa [h1, h2, hv] using h
          rcases List.mem_cons.mp h' with h' | h'
          · exact .inr ⟨h', hv⟩
          · exact .inl h'

theorem Mem.write_wf {m : Mem} (hm : m.wf) (a : Nat) (v : BitVec 8) : (Mem.write m a v).wf := by
  refine ⟨?_, fun c hc => ?_⟩
  · induction m with
    | nil => by_cases hv : v = Mem.unlisted <;> simp [Mem.write, hv]
    | cons c t ih =>
      obtain ⟨hp, hv0⟩ := hm
      rw [List.pairwise_cons] at hp
      have iht := ih ⟨hp.2, fun x hx => hv0 x (by simp [hx])⟩
      unfold Mem.write
      by_cases h1 : c.1 < a
      · simp only [h1, if_true]
        refine List.pairwise_cons.mpr ⟨fun x hx => ?_, iht⟩
        rcases Mem.mem_write hx with h | ⟨rfl, -⟩
        · exact hp.1 x h
        · exact h1
      · by_cases h2 : c.1 = a
        · by_cases hv : v = Mem.unlisted
          · simpa [h1, h2, hv] using hp.2
          · have : List.Pairwise (fun c d : Host.Cell => c.1 < d.1) ((a, v) :: t) :=
              List.pairwise_cons.mpr ⟨fun x hx => by have := hp.1 x hx; simp only; omega, hp.2⟩
            simpa [h1, h2, hv] using this
        · have hct : List.Pairwise (fun c d : Host.Cell => c.1 < d.1) (c :: t) := List.pairwise_cons.mpr hp
          by_cases hv : v = Mem.unlisted
          · simpa [h1, h2, hv] using hct
          · have : List.Pairwise (fun c d : Host.Cell => c.1 < d.1) ((a, v) :: c :: t) := by
              refine List.pairwise_cons.mpr ⟨fun x hx => ?_, hct⟩
              simp only
              rcases List.mem_cons.mp hx with rfl | hx
              · omega
              · have := hp.1 x hx; omega
            simpa only [h1, h2, hv, if_false] using this
  · rcases Mem.mem_write hc with h | ⟨rfl, h⟩
    · exact hm.2 c h
    · exact h

/-! ## Several bytes -/

theorem Mem.writeBytes_wf (n : Nat) : ∀ {m : Mem}, m.wf → ∀ a v : Nat, (Mem.writeBytes m a v n).wf := by
  induction n with
  | zero => intro m h a v; exact h
  | succ n ih => intro m h a v; exact ih (Mem.write_wf h _ _) _ _

theorem Mem.read_writeBytes_other (n : Nat) : ∀ (m : Mem) (a v b : Nat), (b < a ∨ a + n ≤ b) →
    Mem.read (Mem.writeBytes m a v n) b = Mem.read m b := by
  induction n with
  | zero => intro m a v b _; rfl
  | succ n ih =>
    intro m a v b h
    rw [Mem.writeBytes, ih _ _ _ _ (by omega), Mem.read_write_other (by omega)]

theorem Mem.readBytes_congr (n : Nat) : ∀ (m k : Mem) (a : Nat), (∀ i, i < n → m.read (a + i) = k.read (a + i)) →
    m.readBytes a n = k.readBytes a n := by
  induction n with
  | zero => intro m k a _; rfl
  | succ n ih =>
    intro m k a h
    rw [Mem.readBytes, Mem.readBytes, ih m k (a + 1) fun i hi => by
      have := h (i + 1) (by omega)
      rwa [show a + 1 + i = a + (i + 1) by omega]]
    have := h 0 (by omega)
    rw [Nat.add_zero] at this
    rw [this]

theorem Mem.readBytes_writeBytes_other (m : Mem) (a v n b k : Nat) (h : b + k ≤ a ∨ a + n ≤ b) :
    (Mem.writeBytes m a v n).readBytes b k = m.readBytes b k :=
  Mem.readBytes_congr k _ _ _ fun i hi => Mem.read_writeBytes_other n m a v _ (by omega)

theorem Mem.readBytes_writeBytes_same (n : Nat) : ∀ {m : Mem}, m.wf → ∀ a v : Nat,
    (Mem.writeBytes m a v n).readBytes a n = v % 256 ^ n := by
  induction n with
  | zero => intro m _ a v; simp [Mem.readBytes, Nat.mod_one]
  | succ n ih =>
    intro m h a v
    rw [Mem.writeBytes, Mem.readBytes, ih (Mem.write_wf h _ _), Mem.read_writeBytes_other _ _ _ _ _ (by omega),
      Mem.read_write_same h, BitVec.toNat_ofNat, Nat.pow_succ' (n := n), Nat.mod_mul]

/-! ## Words (R151, R153) -/

theorem Mem.setDm_wf {m : Mem} (h : m.wf) (a : Nat) (v : Word40) : (m.setDm a v).wf := Mem.writeBytes_wf 5 h _ _
theorem Mem.setPm_wf {m : Mem} (h : m.wf) (p : Nat) (v : Bundle) : (m.setPm p v).wf := Mem.writeBytes_wf 16 h _ _
theorem Mem.setPmPart_wf {m : Mem} (h : m.wf) (p k : Nat) (v : BitVec 32) : (m.setPmPart p k v).wf :=
  Mem.writeBytes_wf 4 h _ _

/-- A data word reads as it was written. -/
theorem Mem.dm_setDm_same {m : Mem} (h : m.wf) (a : Nat) (v : Word40) : (m.setDm a v).dm a = v := by
  rw [Mem.dm, Mem.setDm, Mem.readBytes_writeBytes_same 5 h, Nat.mod_eq_of_lt (by have := v.isLt; omega)]
  simp

/-- A data word's write leaves every other data word alone. -/
theorem Mem.dm_setDm_other (m : Mem) {a b : Nat} (h : b ≠ a) (v : Word40) : (m.setDm a v).dm b = m.dm b := by
  rw [Mem.dm, Mem.setDm, Mem.readBytes_writeBytes_other _ _ _ _ _ _ (by unfold dmByte; omega)]
  rfl

/-- A program word reads as it was written. -/
theorem Mem.pm_setPm_same {m : Mem} (h : m.wf) (p : Nat) (v : Bundle) : (m.setPm p v).pm p = v := by
  rw [Mem.pm, Mem.setPm, Mem.readBytes_writeBytes_same 16 h, Nat.mod_eq_of_lt (by have := v.isLt; omega)]
  simp

/-- A program word's write leaves every other program word alone. -/
theorem Mem.pm_setPm_other (m : Mem) {p q : Nat} (h : q ≠ p) (v : Bundle) : (m.setPm p v).pm q = m.pm q := by
  rw [Mem.pm, Mem.setPm, Mem.readBytes_writeBytes_other _ _ _ _ _ _ (by unfold pmByte; omega)]
  rfl

/-- A data word's write leaves the program memory's words (R172) alone. -/
theorem Mem.pm_setDm (m : Mem) (a p : Nat) (hp : p < 0x2000) (v : Word40) : (m.setDm a v).pm p = m.pm p := by
  rw [Mem.pm, Mem.setDm, Mem.readBytes_writeBytes_other _ _ _ _ _ _ (by unfold pmByte dmByte; omega)]
  rfl

/-! ## Bytes outside a word, and the views (R172 to R175) -/

/-- A data word's write leaves every byte outside its five alone. -/
theorem Mem.read_setDm_other (m : Mem) (a : Nat) (v : Word40) {x : Nat} (h : x < dmByte a ∨ dmByte a + 5 ≤ x) :
    (m.setDm a v).read x = m.read x := Mem.read_writeBytes_other _ _ _ _ _ h

/-- The write of a part of a program word leaves every byte outside its four alone. -/
theorem Mem.read_setPmPart_other (m : Mem) (p k : Nat) (v : BitVec 32) {x : Nat}
    (h : x < pmByte p + 4 * k ∨ pmByte p + 4 * k + 4 ≤ x) : (m.setPmPart p k v).read x = m.read x :=
  Mem.read_writeBytes_other _ _ _ _ _ h

/-- A part of a program word reads as it was written. -/
theorem Mem.pmPart_setPmPart_same {m : Mem} (h : m.wf) (p k : Nat) (v : BitVec 32) :
    (m.setPmPart p k v).pmPart p k = v := by
  rw [Mem.pmPart, Mem.setPmPart, Mem.readBytes_writeBytes_same 4 h, Nat.mod_eq_of_lt (by have := v.isLt; omega)]
  simp

/-- A write of one part leaves the other parts of every program word alone. -/
theorem Mem.pmPart_setPmPart_other (m : Mem) {p q k j : Nat} (hk : k < 4) (hj : j < 4) (h : q ≠ p ∨ j ≠ k) (v : BitVec 32) :
    (m.setPmPart p k v).pmPart q j = m.pmPart q j := by
  rw [Mem.pmPart, Mem.setPmPart, Mem.readBytes_writeBytes_other _ _ _ _ _ _ (by unfold pmByte; omega)]
  rfl

/-- What a write through a view leaves is what a read of the same part shows, in the 32-bit parts. -/
theorem viewOf_viewMerge (w : DmView) (hw : w ≠ .full) (k : Nat) (x : Word40) (v : BitVec 32) :
    viewOf w k (viewMerge w k x v) = v := by
  cases w with
  | int => simp [viewOf, viewMerge]
  | float =>
    refine BitVec.eq_of_getLsbD_eq fun i hi => ?_
    rw [viewOf, viewMerge, BitVec.getLsbD_extractLsb', BitVec.getLsbD_append]
    simp [hi]
  | full => exact absurd rfl hw

end Sys2Proof.Machine
end

