-- ==== Sys2Proof/Laws/State.lean ====
section
/-! SUPPORT. One lemma per field and per named update of State, all true by unfolding; then what a service point sees. -/

namespace Sys2Proof.Machine

/-! ## setRegs -/

@[simp] theorem setRegs_rf (s : State) (r : Regs) : (s.setRegs r).rf = s.rf := rfl
@[simp] theorem setRegs_arf (s : State) (r : Regs) : (s.setRegs r).arf = s.arf := rfl
@[simp] theorem setRegs_tmp0 (s : State) (r : Regs) : (s.setRegs r).tmp0 = s.tmp0 := rfl
@[simp] theorem setRegs_tmp1 (s : State) (r : Regs) : (s.setRegs r).tmp1 = s.tmp1 := rfl
@[simp] theorem setRegs_regs (s : State) (r : Regs) : (s.setRegs r).regs = r := rfl
@[simp] theorem setRegs_mode (s : State) (r : Regs) : (s.setRegs r).mode = s.mode := rfl
@[simp] theorem setRegs_ints (s : State) (r : Regs) : (s.setRegs r).ints = s.ints := rfl
@[simp] theorem setRegs_dma (s : State) (r : Regs) : (s.setRegs r).dma = s.dma := rfl
@[simp] theorem setRegs_pmu (s : State) (r : Regs) : (s.setRegs r).pmu = s.pmu := rfl
@[simp] theorem setRegs_mem (s : State) (r : Regs) : (s.setRegs r).mem = s.mem := rfl
@[simp] theorem setRegs_badParity (s : State) (r : Regs) : (s.setRegs r).badParity = s.badParity := rfl
@[simp] theorem setRegs_vliw (s : State) (r : Regs) : (s.setRegs r).vliw = s.vliw := rfl
@[simp] theorem setRegs_pend (s : State) (r : Regs) : (s.setRegs r).pend = s.pend := rfl
@[simp] theorem setRegs_ports (s : State) (r : Regs) : (s.setRegs r).ports = s.ports := rfl
@[simp] theorem setRegs_mulOut (s : State) (r : Regs) : (s.setRegs r).mulOut = s.mulOut := rfl
@[simp] theorem setRegs_addOut (s : State) (r : Regs) : (s.setRegs r).addOut = s.addOut := rfl
@[simp] theorem setRegs_npc (s : State) (r : Regs) : (s.setRegs r).npc = s.npc := rfl
@[simp] theorem setRegs_svc (s : State) (r : Regs) : (s.setRegs r).svc = s.svc := rfl
@[simp] theorem setRegs_turns (s : State) (r : Regs) : (s.setRegs r).turns = s.turns := rfl
@[simp] theorem setRegs_landed (s : State) (r : Regs) : (s.setRegs r).landed = s.landed := rfl
@[simp] theorem setRegs_held (s : State) (r : Regs) : (s.setRegs r).held = s.held := rfl
@[simp] theorem setRegs_tickWritten (s : State) (r : Regs) : (s.setRegs r).tickWritten = s.tickWritten := rfl
@[simp] theorem setRegs_resetNow (s : State) (r : Regs) : (s.setRegs r).resetNow = s.resetNow := rfl
@[simp] theorem setRegs_clears (s : State) (r : Regs) : (s.setRegs r).clears = s.clears := rfl
@[simp] theorem setRegs_raised (s : State) (r : Regs) : (s.setRegs r).raised = s.raised := rfl
@[simp] theorem setRegs_lineSh (s : State) (r : Regs) : (s.setRegs r).lineSh = s.lineSh := rfl
@[simp] theorem setRegs_dbgReq (s : State) (r : Regs) : (s.setRegs r).dbgReq = s.dbgReq := rfl
@[simp] theorem setRegs_acc (s : State) (r : Regs) : (s.setRegs r).acc = s.acc := rfl
@[simp] theorem setRegs_env (s : State) (r : Regs) : (s.setRegs r).env = s.env := rfl
@[simp] theorem setRegs_inp (s : State) (r : Regs) : (s.setRegs r).inp = s.inp := rfl
@[simp] theorem setRegs_out (s : State) (r : Regs) : (s.setRegs r).out = s.out := rfl
@[simp] theorem setRegs_free (s : State) (r : Regs) : (s.setRegs r).free = s.free := rfl

/-! ## setMode -/

@[simp] theorem setMode_rf (s : State) (m : Mode) : (s.setMode m).rf = s.rf := rfl
@[simp] theorem setMode_arf (s : State) (m : Mode) : (s.setMode m).arf = s.arf := rfl
@[simp] theorem setMode_tmp0 (s : State) (m : Mode) : (s.setMode m).tmp0 = s.tmp0 := rfl
@[simp] theorem setMode_tmp1 (s : State) (m : Mode) : (s.setMode m).tmp1 = s.tmp1 := rfl
@[simp] theorem setMode_regs (s : State) (m : Mode) : (s.setMode m).regs = s.regs := rfl
@[simp] theorem setMode_mode (s : State) (m : Mode) : (s.setMode m).mode = m := rfl
@[simp] theorem setMode_ints (s : State) (m : Mode) : (s.setMode m).ints = s.ints := rfl
@[simp] theorem setMode_dma (s : State) (m : Mode) : (s.setMode m).dma = s.dma := rfl
@[simp] theorem setMode_pmu (s : State) (m : Mode) : (s.setMode m).pmu = s.pmu := rfl
@[simp] theorem setMode_mem (s : State) (m : Mode) : (s.setMode m).mem = s.mem := rfl
@[simp] theorem setMode_badParity (s : State) (m : Mode) : (s.setMode m).badParity = s.badParity := rfl
@[simp] theorem setMode_vliw (s : State) (m : Mode) : (s.setMode m).vliw = s.vliw := rfl
@[simp] theorem setMode_pend (s : State) (m : Mode) : (s.setMode m).pend = s.pend := rfl
@[simp] theorem setMode_ports (s : State) (m : Mode) : (s.setMode m).ports = s.ports := rfl
@[simp] theorem setMode_mulOut (s : State) (m : Mode) : (s.setMode m).mulOut = s.mulOut := rfl
@[simp] theorem setMode_addOut (s : State) (m : Mode) : (s.setMode m).addOut = s.addOut := rfl
@[simp] theorem setMode_npc (s : State) (m : Mode) : (s.setMode m).npc = s.npc := rfl
@[simp] theorem setMode_svc (s : State) (m : Mode) : (s.setMode m).svc = s.svc := rfl
@[simp] theorem setMode_turns (s : State) (m : Mode) : (s.setMode m).turns = s.turns := rfl
@[simp] theorem setMode_landed (s : State) (m : Mode) : (s.setMode m).landed = s.landed := rfl
@[simp] theorem setMode_held (s : State) (m : Mode) : (s.setMode m).held = s.held := rfl
@[simp] theorem setMode_tickWritten (s : State) (m : Mode) : (s.setMode m).tickWritten = s.tickWritten := rfl
@[simp] theorem setMode_resetNow (s : State) (m : Mode) : (s.setMode m).resetNow = s.resetNow := rfl
@[simp] theorem setMode_clears (s : State) (m : Mode) : (s.setMode m).clears = s.clears := rfl
@[simp] theorem setMode_raised (s : State) (m : Mode) : (s.setMode m).raised = s.raised := rfl
@[simp] theorem setMode_lineSh (s : State) (m : Mode) : (s.setMode m).lineSh = s.lineSh := rfl
@[simp] theorem setMode_dbgReq (s : State) (m : Mode) : (s.setMode m).dbgReq = s.dbgReq := rfl
@[simp] theorem setMode_acc (s : State) (m : Mode) : (s.setMode m).acc = s.acc := rfl
@[simp] theorem setMode_env (s : State) (m : Mode) : (s.setMode m).env = s.env := rfl
@[simp] theorem setMode_inp (s : State) (m : Mode) : (s.setMode m).inp = s.inp := rfl
@[simp] theorem setMode_out (s : State) (m : Mode) : (s.setMode m).out = s.out := rfl
@[simp] theorem setMode_free (s : State) (m : Mode) : (s.setMode m).free = s.free := rfl

/-! ## setInts -/

@[simp] theorem setInts_rf (s : State) (i : Ints) : (s.setInts i).rf = s.rf := rfl
@[simp] theorem setInts_arf (s : State) (i : Ints) : (s.setInts i).arf = s.arf := rfl
@[simp] theorem setInts_tmp0 (s : State) (i : Ints) : (s.setInts i).tmp0 = s.tmp0 := rfl
@[simp] theorem setInts_tmp1 (s : State) (i : Ints) : (s.setInts i).tmp1 = s.tmp1 := rfl
@[simp] theorem setInts_regs (s : State) (i : Ints) : (s.setInts i).regs = s.regs := rfl
@[simp] theorem setInts_mode (s : State) (i : Ints) : (s.setInts i).mode = s.mode := rfl
@[simp] theorem setInts_ints (s : State) (i : Ints) : (s.setInts i).ints = i := rfl
@[simp] theorem setInts_dma (s : State) (i : Ints) : (s.setInts i).dma = s.dma := rfl
@[simp] theorem setInts_pmu (s : State) (i : Ints) : (s.setInts i).pmu = s.pmu := rfl
@[simp] theorem setInts_mem (s : State) (i : Ints) : (s.setInts i).mem = s.mem := rfl
@[simp] theorem setInts_badParity (s : State) (i : Ints) : (s.setInts i).badParity = s.badParity := rfl
@[simp] theorem setInts_vliw (s : State) (i : Ints) : (s.setInts i).vliw = s.vliw := rfl
@[simp] theorem setInts_pend (s : State) (i : Ints) : (s.setInts i).pend = s.pend := rfl
@[simp] theorem setInts_ports (s : State) (i : Ints) : (s.setInts i).ports = s.ports := rfl
@[simp] theorem setInts_mulOut (s : State) (i : Ints) : (s.setInts i).mulOut = s.mulOut := rfl
@[simp] theorem setInts_addOut (s : State) (i : Ints) : (s.setInts i).addOut = s.addOut := rfl
@[simp] theorem setInts_npc (s : State) (i : Ints) : (s.setInts i).npc = s.npc := rfl
@[simp] theorem setInts_svc (s : State) (i : Ints) : (s.setInts i).svc = s.svc := rfl
@[simp] theorem setInts_turns (s : State) (i : Ints) : (s.setInts i).turns = s.turns := rfl
@[simp] theorem setInts_landed (s : State) (i : Ints) : (s.setInts i).landed = s.landed := rfl
@[simp] theorem setInts_held (s : State) (i : Ints) : (s.setInts i).held = s.held := rfl
@[simp] theorem setInts_tickWritten (s : State) (i : Ints) : (s.setInts i).tickWritten = s.tickWritten := rfl
@[simp] theorem setInts_resetNow (s : State) (i : Ints) : (s.setInts i).resetNow = s.resetNow := rfl
@[simp] theorem setInts_clears (s : State) (i : Ints) : (s.setInts i).clears = s.clears := rfl
@[simp] theorem setInts_raised (s : State) (i : Ints) : (s.setInts i).raised = s.raised := rfl
@[simp] theorem setInts_lineSh (s : State) (i : Ints) : (s.setInts i).lineSh = s.lineSh := rfl
@[simp] theorem setInts_dbgReq (s : State) (i : Ints) : (s.setInts i).dbgReq = s.dbgReq := rfl
@[simp] theorem setInts_acc (s : State) (i : Ints) : (s.setInts i).acc = s.acc := rfl
@[simp] theorem setInts_env (s : State) (i : Ints) : (s.setInts i).env = s.env := rfl
@[simp] theorem setInts_inp (s : State) (i : Ints) : (s.setInts i).inp = s.inp := rfl
@[simp] theorem setInts_out (s : State) (i : Ints) : (s.setInts i).out = s.out := rfl
@[simp] theorem setInts_free (s : State) (i : Ints) : (s.setInts i).free = s.free := rfl

/-! ## updInts -/

@[simp] theorem updInts_rf (s : State) (f : Ints → Ints) : (s.updInts f).rf = s.rf := rfl
@[simp] theorem updInts_arf (s : State) (f : Ints → Ints) : (s.updInts f).arf = s.arf := rfl
@[simp] theorem updInts_tmp0 (s : State) (f : Ints → Ints) : (s.updInts f).tmp0 = s.tmp0 := rfl
@[simp] theorem updInts_tmp1 (s : State) (f : Ints → Ints) : (s.updInts f).tmp1 = s.tmp1 := rfl
@[simp] theorem updInts_regs (s : State) (f : Ints → Ints) : (s.updInts f).regs = s.regs := rfl
@[simp] theorem updInts_mode (s : State) (f : Ints → Ints) : (s.updInts f).mode = s.mode := rfl
@[simp] theorem updInts_ints (s : State) (f : Ints → Ints) : (s.updInts f).ints = f s.ints := rfl
@[simp] theorem updInts_dma (s : State) (f : Ints → Ints) : (s.updInts f).dma = s.dma := rfl
@[simp] theorem updInts_pmu (s : State) (f : Ints → Ints) : (s.updInts f).pmu = s.pmu := rfl
@[simp] theorem updInts_mem (s : State) (f : Ints → Ints) : (s.updInts f).mem = s.mem := rfl
@[simp] theorem updInts_badParity (s : State) (f : Ints → Ints) : (s.updInts f).badParity = s.badParity := rfl
@[simp] theorem updInts_vliw (s : State) (f : Ints → Ints) : (s.updInts f).vliw = s.vliw := rfl
@[simp] theorem updInts_pend (s : State) (f : Ints → Ints) : (s.updInts f).pend = s.pend := rfl
@[simp] theorem updInts_ports (s : State) (f : Ints → Ints) : (s.updInts f).ports = s.ports := rfl
@[simp] theorem updInts_mulOut (s : State) (f : Ints → Ints) : (s.updInts f).mulOut = s.mulOut := rfl
@[simp] theorem updInts_addOut (s : State) (f : Ints → Ints) : (s.updInts f).addOut = s.addOut := rfl
@[simp] theorem updInts_npc (s : State) (f : Ints → Ints) : (s.updInts f).npc = s.npc := rfl
@[simp] theorem updInts_svc (s : State) (f : Ints → Ints) : (s.updInts f).svc = s.svc := rfl
@[simp] theorem updInts_turns (s : State) (f : Ints → Ints) : (s.updInts f).turns = s.turns := rfl
@[simp] theorem updInts_landed (s : State) (f : Ints → Ints) : (s.updInts f).landed = s.landed := rfl
@[simp] theorem updInts_held (s : State) (f : Ints → Ints) : (s.updInts f).held = s.held.map f := rfl
@[simp] theorem updInts_tickWritten (s : State) (f : Ints → Ints) : (s.updInts f).tickWritten = s.tickWritten := rfl
@[simp] theorem updInts_resetNow (s : State) (f : Ints → Ints) : (s.updInts f).resetNow = s.resetNow := rfl
@[simp] theorem updInts_clears (s : State) (f : Ints → Ints) : (s.updInts f).clears = s.clears := rfl
@[simp] theorem updInts_raised (s : State) (f : Ints → Ints) : (s.updInts f).raised = s.raised := rfl
@[simp] theorem updInts_lineSh (s : State) (f : Ints → Ints) : (s.updInts f).lineSh = s.lineSh := rfl
@[simp] theorem updInts_dbgReq (s : State) (f : Ints → Ints) : (s.updInts f).dbgReq = s.dbgReq := rfl
@[simp] theorem updInts_acc (s : State) (f : Ints → Ints) : (s.updInts f).acc = s.acc := rfl
@[simp] theorem updInts_env (s : State) (f : Ints → Ints) : (s.updInts f).env = s.env := rfl
@[simp] theorem updInts_inp (s : State) (f : Ints → Ints) : (s.updInts f).inp = s.inp := rfl
@[simp] theorem updInts_out (s : State) (f : Ints → Ints) : (s.updInts f).out = s.out := rfl
@[simp] theorem updInts_free (s : State) (f : Ints → Ints) : (s.updInts f).free = s.free := rfl

/-! ## holdSight -/

@[simp] theorem holdSight_rf (s : State) (a : BitVec 7) (i : Ints) : (s.holdSight a i).rf = s.rf := by unfold State.holdSight; split <;> rfl
@[simp] theorem holdSight_arf (s : State) (a : BitVec 7) (i : Ints) : (s.holdSight a i).arf = s.arf := by unfold State.holdSight; split <;> rfl
@[simp] theorem holdSight_tmp0 (s : State) (a : BitVec 7) (i : Ints) : (s.holdSight a i).tmp0 = s.tmp0 := by unfold State.holdSight; split <;> rfl
@[simp] theorem holdSight_tmp1 (s : State) (a : BitVec 7) (i : Ints) : (s.holdSight a i).tmp1 = s.tmp1 := by unfold State.holdSight; split <;> rfl
@[simp] theorem holdSight_regs (s : State) (a : BitVec 7) (i : Ints) : (s.holdSight a i).regs = s.regs := by unfold State.holdSight; split <;> rfl
@[simp] theorem holdSight_mode (s : State) (a : BitVec 7) (i : Ints) : (s.holdSight a i).mode = s.mode := by unfold State.holdSight; split <;> rfl
@[simp] theorem holdSight_ints (s : State) (a : BitVec 7) (i : Ints) : (s.holdSight a i).ints = s.ints := by unfold State.holdSight; split <;> rfl
@[simp] theorem holdSight_dma (s : State) (a : BitVec 7) (i : Ints) : (s.holdSight a i).dma = s.dma := by unfold State.holdSight; split <;> rfl
@[simp] theorem holdSight_pmu (s : State) (a : BitVec 7) (i : Ints) : (s.holdSight a i).pmu = s.pmu := by unfold State.holdSight; split <;> rfl
@[simp] theorem holdSight_mem (s : State) (a : BitVec 7) (i : Ints) : (s.holdSight a i).mem = s.mem := by unfold State.holdSight; split <;> rfl
@[simp] theorem holdSight_badParity (s : State) (a : BitVec 7) (i : Ints) : (s.holdSight a i).badParity = s.badParity := by unfold State.holdSight; split <;> rfl
@[simp] theorem holdSight_vliw (s : State) (a : BitVec 7) (i : Ints) : (s.holdSight a i).vliw = s.vliw := by unfold State.holdSight; split <;> rfl
@[simp] theorem holdSight_pend (s : State) (a : BitVec 7) (i : Ints) : (s.holdSight a i).pend = s.pend := by unfold State.holdSight; split <;> rfl
@[simp] theorem holdSight_ports (s : State) (a : BitVec 7) (i : Ints) : (s.holdSight a i).ports = s.ports := by unfold State.holdSight; split <;> rfl
@[simp] theorem holdSight_mulOut (s : State) (a : BitVec 7) (i : Ints) : (s.holdSight a i).mulOut = s.mulOut := by unfold State.holdSight; split <;> rfl
@[simp] theorem holdSight_addOut (s : State) (a : BitVec 7) (i : Ints) : (s.holdSight a i).addOut = s.addOut := by unfold State.holdSight; split <;> rfl
@[simp] theorem holdSight_npc (s : State) (a : BitVec 7) (i : Ints) : (s.holdSight a i).npc = s.npc := by unfold State.holdSight; split <;> rfl
@[simp] theorem holdSight_svc (s : State) (a : BitVec 7) (i : Ints) : (s.holdSight a i).svc = s.svc := by unfold State.holdSight; split <;> rfl
@[simp] theorem holdSight_turns (s : State) (a : BitVec 7) (i : Ints) : (s.holdSight a i).turns = s.turns := by unfold State.holdSight; split <;> rfl
@[simp] theorem holdSight_landed (s : State) (a : BitVec 7) (i : Ints) : (s.holdSight a i).landed = s.landed := by unfold State.holdSight; split <;> rfl
@[simp] theorem holdSight_held (s : State) (a : BitVec 7) (i : Ints) : (s.holdSight a i).held = if heldRegister a then some i else s.held := by unfold State.holdSight; split <;> rfl
@[simp] theorem holdSight_tickWritten (s : State) (a : BitVec 7) (i : Ints) : (s.holdSight a i).tickWritten = s.tickWritten := by unfold State.holdSight; split <;> rfl
@[simp] theorem holdSight_resetNow (s : State) (a : BitVec 7) (i : Ints) : (s.holdSight a i).resetNow = s.resetNow := by unfold State.holdSight; split <;> rfl
@[simp] theorem holdSight_clears (s : State) (a : BitVec 7) (i : Ints) : (s.holdSight a i).clears = s.clears := by unfold State.holdSight; split <;> rfl
@[simp] theorem holdSight_raised (s : State) (a : BitVec 7) (i : Ints) : (s.holdSight a i).raised = s.raised := by unfold State.holdSight; split <;> rfl
@[simp] theorem holdSight_lineSh (s : State) (a : BitVec 7) (i : Ints) : (s.holdSight a i).lineSh = s.lineSh := by unfold State.holdSight; split <;> rfl
@[simp] theorem holdSight_dbgReq (s : State) (a : BitVec 7) (i : Ints) : (s.holdSight a i).dbgReq = s.dbgReq := by unfold State.holdSight; split <;> rfl
@[simp] theorem holdSight_acc (s : State) (a : BitVec 7) (i : Ints) : (s.holdSight a i).acc = s.acc := by unfold State.holdSight; split <;> rfl
@[simp] theorem holdSight_env (s : State) (a : BitVec 7) (i : Ints) : (s.holdSight a i).env = s.env := by unfold State.holdSight; split <;> rfl
@[simp] theorem holdSight_inp (s : State) (a : BitVec 7) (i : Ints) : (s.holdSight a i).inp = s.inp := by unfold State.holdSight; split <;> rfl
@[simp] theorem holdSight_out (s : State) (a : BitVec 7) (i : Ints) : (s.holdSight a i).out = s.out := by unfold State.holdSight; split <;> rfl
@[simp] theorem holdSight_free (s : State) (a : BitVec 7) (i : Ints) : (s.holdSight a i).free = s.free := by unfold State.holdSight; split <;> rfl

/-! ## setDma -/

@[simp] theorem setDma_rf (s : State) (d : Dma) : (s.setDma d).rf = s.rf := rfl
@[simp] theorem setDma_arf (s : State) (d : Dma) : (s.setDma d).arf = s.arf := rfl
@[simp] theorem setDma_tmp0 (s : State) (d : Dma) : (s.setDma d).tmp0 = s.tmp0 := rfl
@[simp] theorem setDma_tmp1 (s : State) (d : Dma) : (s.setDma d).tmp1 = s.tmp1 := rfl
@[simp] theorem setDma_regs (s : State) (d : Dma) : (s.setDma d).regs = s.regs := rfl
@[simp] theorem setDma_mode (s : State) (d : Dma) : (s.setDma d).mode = s.mode := rfl
@[simp] theorem setDma_ints (s : State) (d : Dma) : (s.setDma d).ints = s.ints := rfl
@[simp] theorem setDma_dma (s : State) (d : Dma) : (s.setDma d).dma = d := rfl
@[simp] theorem setDma_pmu (s : State) (d : Dma) : (s.setDma d).pmu = s.pmu := rfl
@[simp] theorem setDma_mem (s : State) (d : Dma) : (s.setDma d).mem = s.mem := rfl
@[simp] theorem setDma_badParity (s : State) (d : Dma) : (s.setDma d).badParity = s.badParity := rfl
@[simp] theorem setDma_vliw (s : State) (d : Dma) : (s.setDma d).vliw = s.vliw := rfl
@[simp] theorem setDma_pend (s : State) (d : Dma) : (s.setDma d).pend = s.pend := rfl
@[simp] theorem setDma_ports (s : State) (d : Dma) : (s.setDma d).ports = s.ports := rfl
@[simp] theorem setDma_mulOut (s : State) (d : Dma) : (s.setDma d).mulOut = s.mulOut := rfl
@[simp] theorem setDma_addOut (s : State) (d : Dma) : (s.setDma d).addOut = s.addOut := rfl
@[simp] theorem setDma_npc (s : State) (d : Dma) : (s.setDma d).npc = s.npc := rfl
@[simp] theorem setDma_svc (s : State) (d : Dma) : (s.setDma d).svc = s.svc := rfl
@[simp] theorem setDma_turns (s : State) (d : Dma) : (s.setDma d).turns = s.turns := rfl
@[simp] theorem setDma_landed (s : State) (d : Dma) : (s.setDma d).landed = s.landed := rfl
@[simp] theorem setDma_held (s : State) (d : Dma) : (s.setDma d).held = s.held := rfl
@[simp] theorem setDma_tickWritten (s : State) (d : Dma) : (s.setDma d).tickWritten = s.tickWritten := rfl
@[simp] theorem setDma_resetNow (s : State) (d : Dma) : (s.setDma d).resetNow = s.resetNow := rfl
@[simp] theorem setDma_clears (s : State) (d : Dma) : (s.setDma d).clears = s.clears := rfl
@[simp] theorem setDma_raised (s : State) (d : Dma) : (s.setDma d).raised = s.raised := rfl
@[simp] theorem setDma_lineSh (s : State) (d : Dma) : (s.setDma d).lineSh = s.lineSh := rfl
@[simp] theorem setDma_dbgReq (s : State) (d : Dma) : (s.setDma d).dbgReq = s.dbgReq := rfl
@[simp] theorem setDma_acc (s : State) (d : Dma) : (s.setDma d).acc = s.acc := rfl
@[simp] theorem setDma_env (s : State) (d : Dma) : (s.setDma d).env = s.env := rfl
@[simp] theorem setDma_inp (s : State) (d : Dma) : (s.setDma d).inp = s.inp := rfl
@[simp] theorem setDma_out (s : State) (d : Dma) : (s.setDma d).out = s.out := rfl
@[simp] theorem setDma_free (s : State) (d : Dma) : (s.setDma d).free = s.free := rfl

/-! ## setPmu -/

@[simp] theorem setPmu_rf (s : State) (p : Pmu) : (s.setPmu p).rf = s.rf := rfl
@[simp] theorem setPmu_arf (s : State) (p : Pmu) : (s.setPmu p).arf = s.arf := rfl
@[simp] theorem setPmu_tmp0 (s : State) (p : Pmu) : (s.setPmu p).tmp0 = s.tmp0 := rfl
@[simp] theorem setPmu_tmp1 (s : State) (p : Pmu) : (s.setPmu p).tmp1 = s.tmp1 := rfl
@[simp] theorem setPmu_regs (s : State) (p : Pmu) : (s.setPmu p).regs = s.regs := rfl
@[simp] theorem setPmu_mode (s : State) (p : Pmu) : (s.setPmu p).mode = s.mode := rfl
@[simp] theorem setPmu_ints (s : State) (p : Pmu) : (s.setPmu p).ints = s.ints := rfl
@[simp] theorem setPmu_dma (s : State) (p : Pmu) : (s.setPmu p).dma = s.dma := rfl
@[simp] theorem setPmu_pmu (s : State) (p : Pmu) : (s.setPmu p).pmu = p := rfl
@[simp] theorem setPmu_mem (s : State) (p : Pmu) : (s.setPmu p).mem = s.mem := rfl
@[simp] theorem setPmu_badParity (s : State) (p : Pmu) : (s.setPmu p).badParity = s.badParity := rfl
@[simp] theorem setPmu_vliw (s : State) (p : Pmu) : (s.setPmu p).vliw = s.vliw := rfl
@[simp] theorem setPmu_pend (s : State) (p : Pmu) : (s.setPmu p).pend = s.pend := rfl
@[simp] theorem setPmu_ports (s : State) (p : Pmu) : (s.setPmu p).ports = s.ports := rfl
@[simp] theorem setPmu_mulOut (s : State) (p : Pmu) : (s.setPmu p).mulOut = s.mulOut := rfl
@[simp] theorem setPmu_addOut (s : State) (p : Pmu) : (s.setPmu p).addOut = s.addOut := rfl
@[simp] theorem setPmu_npc (s : State) (p : Pmu) : (s.setPmu p).npc = s.npc := rfl
@[simp] theorem setPmu_svc (s : State) (p : Pmu) : (s.setPmu p).svc = s.svc := rfl
@[simp] theorem setPmu_turns (s : State) (p : Pmu) : (s.setPmu p).turns = s.turns := rfl
@[simp] theorem setPmu_landed (s : State) (p : Pmu) : (s.setPmu p).landed = s.landed := rfl
@[simp] theorem setPmu_held (s : State) (p : Pmu) : (s.setPmu p).held = s.held := rfl
@[simp] theorem setPmu_tickWritten (s : State) (p : Pmu) : (s.setPmu p).tickWritten = s.tickWritten := rfl
@[simp] theorem setPmu_resetNow (s : State) (p : Pmu) : (s.setPmu p).resetNow = s.resetNow := rfl
@[simp] theorem setPmu_clears (s : State) (p : Pmu) : (s.setPmu p).clears = s.clears := rfl
@[simp] theorem setPmu_raised (s : State) (p : Pmu) : (s.setPmu p).raised = s.raised := rfl
@[simp] theorem setPmu_lineSh (s : State) (p : Pmu) : (s.setPmu p).lineSh = s.lineSh := rfl
@[simp] theorem setPmu_dbgReq (s : State) (p : Pmu) : (s.setPmu p).dbgReq = s.dbgReq := rfl
@[simp] theorem setPmu_acc (s : State) (p : Pmu) : (s.setPmu p).acc = s.acc := rfl
@[simp] theorem setPmu_env (s : State) (p : Pmu) : (s.setPmu p).env = s.env := rfl
@[simp] theorem setPmu_inp (s : State) (p : Pmu) : (s.setPmu p).inp = s.inp := rfl
@[simp] theorem setPmu_out (s : State) (p : Pmu) : (s.setPmu p).out = s.out := rfl
@[simp] theorem setPmu_free (s : State) (p : Pmu) : (s.setPmu p).free = s.free := rfl

/-! ## setMem -/

@[simp] theorem setMem_rf (s : State) (m : Mem) : (s.setMem m).rf = s.rf := rfl
@[simp] theorem setMem_arf (s : State) (m : Mem) : (s.setMem m).arf = s.arf := rfl
@[simp] theorem setMem_tmp0 (s : State) (m : Mem) : (s.setMem m).tmp0 = s.tmp0 := rfl
@[simp] theorem setMem_tmp1 (s : State) (m : Mem) : (s.setMem m).tmp1 = s.tmp1 := rfl
@[simp] theorem setMem_regs (s : State) (m : Mem) : (s.setMem m).regs = s.regs := rfl
@[simp] theorem setMem_mode (s : State) (m : Mem) : (s.setMem m).mode = s.mode := rfl
@[simp] theorem setMem_ints (s : State) (m : Mem) : (s.setMem m).ints = s.ints := rfl
@[simp] theorem setMem_dma (s : State) (m : Mem) : (s.setMem m).dma = s.dma := rfl
@[simp] theorem setMem_pmu (s : State) (m : Mem) : (s.setMem m).pmu = s.pmu := rfl
@[simp] theorem setMem_mem (s : State) (m : Mem) : (s.setMem m).mem = m := rfl
@[simp] theorem setMem_badParity (s : State) (m : Mem) : (s.setMem m).badParity = s.badParity := rfl
@[simp] theorem setMem_vliw (s : State) (m : Mem) : (s.setMem m).vliw = s.vliw := rfl
@[simp] theorem setMem_pend (s : State) (m : Mem) : (s.setMem m).pend = s.pend := rfl
@[simp] theorem setMem_ports (s : State) (m : Mem) : (s.setMem m).ports = s.ports := rfl
@[simp] theorem setMem_mulOut (s : State) (m : Mem) : (s.setMem m).mulOut = s.mulOut := rfl
@[simp] theorem setMem_addOut (s : State) (m : Mem) : (s.setMem m).addOut = s.addOut := rfl
@[simp] theorem setMem_npc (s : State) (m : Mem) : (s.setMem m).npc = s.npc := rfl
@[simp] theorem setMem_svc (s : State) (m : Mem) : (s.setMem m).svc = s.svc := rfl
@[simp] theorem setMem_turns (s : State) (m : Mem) : (s.setMem m).turns = s.turns := rfl
@[simp] theorem setMem_landed (s : State) (m : Mem) : (s.setMem m).landed = s.landed := rfl
@[simp] theorem setMem_held (s : State) (m : Mem) : (s.setMem m).held = s.held := rfl
@[simp] theorem setMem_tickWritten (s : State) (m : Mem) : (s.setMem m).tickWritten = s.tickWritten := rfl
@[simp] theorem setMem_resetNow (s : State) (m : Mem) : (s.setMem m).resetNow = s.resetNow := rfl
@[simp] theorem setMem_clears (s : State) (m : Mem) : (s.setMem m).clears = s.clears := rfl
@[simp] theorem setMem_raised (s : State) (m : Mem) : (s.setMem m).raised = s.raised := rfl
@[simp] theorem setMem_lineSh (s : State) (m : Mem) : (s.setMem m).lineSh = s.lineSh := rfl
@[simp] theorem setMem_dbgReq (s : State) (m : Mem) : (s.setMem m).dbgReq = s.dbgReq := rfl
@[simp] theorem setMem_acc (s : State) (m : Mem) : (s.setMem m).acc = s.acc := rfl
@[simp] theorem setMem_env (s : State) (m : Mem) : (s.setMem m).env = s.env := rfl
@[simp] theorem setMem_inp (s : State) (m : Mem) : (s.setMem m).inp = s.inp := rfl
@[simp] theorem setMem_out (s : State) (m : Mem) : (s.setMem m).out = s.out := rfl
@[simp] theorem setMem_free (s : State) (m : Mem) : (s.setMem m).free = s.free := rfl

/-! ## setRf -/

@[simp] theorem setRf_rf (s : State) (n : BitVec 8) (v : Word40) : (s.setRf n v).rf = s.rf.set n.toNat v n.isLt := rfl
@[simp] theorem setRf_arf (s : State) (n : BitVec 8) (v : Word40) : (s.setRf n v).arf = s.arf := rfl
@[simp] theorem setRf_tmp0 (s : State) (n : BitVec 8) (v : Word40) : (s.setRf n v).tmp0 = s.tmp0 := rfl
@[simp] theorem setRf_tmp1 (s : State) (n : BitVec 8) (v : Word40) : (s.setRf n v).tmp1 = s.tmp1 := rfl
@[simp] theorem setRf_regs (s : State) (n : BitVec 8) (v : Word40) : (s.setRf n v).regs = s.regs := rfl
@[simp] theorem setRf_mode (s : State) (n : BitVec 8) (v : Word40) : (s.setRf n v).mode = s.mode := rfl
@[simp] theorem setRf_ints (s : State) (n : BitVec 8) (v : Word40) : (s.setRf n v).ints = s.ints := rfl
@[simp] theorem setRf_dma (s : State) (n : BitVec 8) (v : Word40) : (s.setRf n v).dma = s.dma := rfl
@[simp] theorem setRf_pmu (s : State) (n : BitVec 8) (v : Word40) : (s.setRf n v).pmu = s.pmu := rfl
@[simp] theorem setRf_mem (s : State) (n : BitVec 8) (v : Word40) : (s.setRf n v).mem = s.mem := rfl
@[simp] theorem setRf_badParity (s : State) (n : BitVec 8) (v : Word40) : (s.setRf n v).badParity = s.badParity := rfl
@[simp] theorem setRf_vliw (s : State) (n : BitVec 8) (v : Word40) : (s.setRf n v).vliw = s.vliw := rfl
@[simp] theorem setRf_pend (s : State) (n : BitVec 8) (v : Word40) : (s.setRf n v).pend = s.pend := rfl
@[simp] theorem setRf_ports (s : State) (n : BitVec 8) (v : Word40) : (s.setRf n v).ports = s.ports := rfl
@[simp] theorem setRf_mulOut (s : State) (n : BitVec 8) (v : Word40) : (s.setRf n v).mulOut = s.mulOut := rfl
@[simp] theorem setRf_addOut (s : State) (n : BitVec 8) (v : Word40) : (s.setRf n v).addOut = s.addOut := rfl
@[simp] theorem setRf_npc (s : State) (n : BitVec 8) (v : Word40) : (s.setRf n v).npc = s.npc := rfl
@[simp] theorem setRf_svc (s : State) (n : BitVec 8) (v : Word40) : (s.setRf n v).svc = s.svc := rfl
@[simp] theorem setRf_turns (s : State) (n : BitVec 8) (v : Word40) : (s.setRf n v).turns = s.turns := rfl
@[simp] theorem setRf_landed (s : State) (n : BitVec 8) (v : Word40) : (s.setRf n v).landed = s.landed := rfl
@[simp] theorem setRf_held (s : State) (n : BitVec 8) (v : Word40) : (s.setRf n v).held = s.held := rfl
@[simp] theorem setRf_tickWritten (s : State) (n : BitVec 8) (v : Word40) : (s.setRf n v).tickWritten = s.tickWritten := rfl
@[simp] theorem setRf_resetNow (s : State) (n : BitVec 8) (v : Word40) : (s.setRf n v).resetNow = s.resetNow := rfl
@[simp] theorem setRf_clears (s : State) (n : BitVec 8) (v : Word40) : (s.setRf n v).clears = s.clears := rfl
@[simp] theorem setRf_raised (s : State) (n : BitVec 8) (v : Word40) : (s.setRf n v).raised = s.raised := rfl
@[simp] theorem setRf_lineSh (s : State) (n : BitVec 8) (v : Word40) : (s.setRf n v).lineSh = s.lineSh := rfl
@[simp] theorem setRf_dbgReq (s : State) (n : BitVec 8) (v : Word40) : (s.setRf n v).dbgReq = s.dbgReq := rfl
@[simp] theorem setRf_acc (s : State) (n : BitVec 8) (v : Word40) : (s.setRf n v).acc = s.acc := rfl
@[simp] theorem setRf_env (s : State) (n : BitVec 8) (v : Word40) : (s.setRf n v).env = s.env := rfl
@[simp] theorem setRf_inp (s : State) (n : BitVec 8) (v : Word40) : (s.setRf n v).inp = s.inp := rfl
@[simp] theorem setRf_out (s : State) (n : BitVec 8) (v : Word40) : (s.setRf n v).out = s.out := rfl
@[simp] theorem setRf_free (s : State) (n : BitVec 8) (v : Word40) : (s.setRf n v).free = s.free := rfl

/-! ## setArf -/

@[simp] theorem setArf_rf (s : State) (k : BitVec 4) (v : Arf) : (s.setArf k v).rf = s.rf := rfl
@[simp] theorem setArf_arf (s : State) (k : BitVec 4) (v : Arf) : (s.setArf k v).arf = s.arf.set k.toNat v k.isLt := rfl
@[simp] theorem setArf_tmp0 (s : State) (k : BitVec 4) (v : Arf) : (s.setArf k v).tmp0 = s.tmp0 := rfl
@[simp] theorem setArf_tmp1 (s : State) (k : BitVec 4) (v : Arf) : (s.setArf k v).tmp1 = s.tmp1 := rfl
@[simp] theorem setArf_regs (s : State) (k : BitVec 4) (v : Arf) : (s.setArf k v).regs = s.regs := rfl
@[simp] theorem setArf_mode (s : State) (k : BitVec 4) (v : Arf) : (s.setArf k v).mode = s.mode := rfl
@[simp] theorem setArf_ints (s : State) (k : BitVec 4) (v : Arf) : (s.setArf k v).ints = s.ints := rfl
@[simp] theorem setArf_dma (s : State) (k : BitVec 4) (v : Arf) : (s.setArf k v).dma = s.dma := rfl
@[simp] theorem setArf_pmu (s : State) (k : BitVec 4) (v : Arf) : (s.setArf k v).pmu = s.pmu := rfl
@[simp] theorem setArf_mem (s : State) (k : BitVec 4) (v : Arf) : (s.setArf k v).mem = s.mem := rfl
@[simp] theorem setArf_badParity (s : State) (k : BitVec 4) (v : Arf) : (s.setArf k v).badParity = s.badParity := rfl
@[simp] theorem setArf_vliw (s : State) (k : BitVec 4) (v : Arf) : (s.setArf k v).vliw = s.vliw := rfl
@[simp] theorem setArf_pend (s : State) (k : BitVec 4) (v : Arf) : (s.setArf k v).pend = s.pend := rfl
@[simp] theorem setArf_ports (s : State) (k : BitVec 4) (v : Arf) : (s.setArf k v).ports = s.ports := rfl
@[simp] theorem setArf_mulOut (s : State) (k : BitVec 4) (v : Arf) : (s.setArf k v).mulOut = s.mulOut := rfl
@[simp] theorem setArf_addOut (s : State) (k : BitVec 4) (v : Arf) : (s.setArf k v).addOut = s.addOut := rfl
@[simp] theorem setArf_npc (s : State) (k : BitVec 4) (v : Arf) : (s.setArf k v).npc = s.npc := rfl
@[simp] theorem setArf_svc (s : State) (k : BitVec 4) (v : Arf) : (s.setArf k v).svc = s.svc := rfl
@[simp] theorem setArf_turns (s : State) (k : BitVec 4) (v : Arf) : (s.setArf k v).turns = s.turns := rfl
@[simp] theorem setArf_landed (s : State) (k : BitVec 4) (v : Arf) : (s.setArf k v).landed = s.landed := rfl
@[simp] theorem setArf_held (s : State) (k : BitVec 4) (v : Arf) : (s.setArf k v).held = s.held := rfl
@[simp] theorem setArf_tickWritten (s : State) (k : BitVec 4) (v : Arf) : (s.setArf k v).tickWritten = s.tickWritten := rfl
@[simp] theorem setArf_resetNow (s : State) (k : BitVec 4) (v : Arf) : (s.setArf k v).resetNow = s.resetNow := rfl
@[simp] theorem setArf_clears (s : State) (k : BitVec 4) (v : Arf) : (s.setArf k v).clears = s.clears := rfl
@[simp] theorem setArf_raised (s : State) (k : BitVec 4) (v : Arf) : (s.setArf k v).raised = s.raised := rfl
@[simp] theorem setArf_lineSh (s : State) (k : BitVec 4) (v : Arf) : (s.setArf k v).lineSh = s.lineSh := rfl
@[simp] theorem setArf_dbgReq (s : State) (k : BitVec 4) (v : Arf) : (s.setArf k v).dbgReq = s.dbgReq := rfl
@[simp] theorem setArf_acc (s : State) (k : BitVec 4) (v : Arf) : (s.setArf k v).acc = s.acc := rfl
@[simp] theorem setArf_env (s : State) (k : BitVec 4) (v : Arf) : (s.setArf k v).env = s.env := rfl
@[simp] theorem setArf_inp (s : State) (k : BitVec 4) (v : Arf) : (s.setArf k v).inp = s.inp := rfl
@[simp] theorem setArf_out (s : State) (k : BitVec 4) (v : Arf) : (s.setArf k v).out = s.out := rfl
@[simp] theorem setArf_free (s : State) (k : BitVec 4) (v : Arf) : (s.setArf k v).free = s.free := rfl

/-! ## emit -/

@[simp] theorem emit_rf (s : State) (o : Out) : (s.emit o).rf = s.rf := rfl
@[simp] theorem emit_arf (s : State) (o : Out) : (s.emit o).arf = s.arf := rfl
@[simp] theorem emit_tmp0 (s : State) (o : Out) : (s.emit o).tmp0 = s.tmp0 := rfl
@[simp] theorem emit_tmp1 (s : State) (o : Out) : (s.emit o).tmp1 = s.tmp1 := rfl
@[simp] theorem emit_regs (s : State) (o : Out) : (s.emit o).regs = s.regs := rfl
@[simp] theorem emit_mode (s : State) (o : Out) : (s.emit o).mode = s.mode := rfl
@[simp] theorem emit_ints (s : State) (o : Out) : (s.emit o).ints = s.ints := rfl
@[simp] theorem emit_dma (s : State) (o : Out) : (s.emit o).dma = s.dma := rfl
@[simp] theorem emit_pmu (s : State) (o : Out) : (s.emit o).pmu = s.pmu := rfl
@[simp] theorem emit_mem (s : State) (o : Out) : (s.emit o).mem = s.mem := rfl
@[simp] theorem emit_badParity (s : State) (o : Out) : (s.emit o).badParity = s.badParity := rfl
@[simp] theorem emit_vliw (s : State) (o : Out) : (s.emit o).vliw = s.vliw := rfl
@[simp] theorem emit_pend (s : State) (o : Out) : (s.emit o).pend = s.pend := rfl
@[simp] theorem emit_ports (s : State) (o : Out) : (s.emit o).ports = s.ports := rfl
@[simp] theorem emit_mulOut (s : State) (o : Out) : (s.emit o).mulOut = s.mulOut := rfl
@[simp] theorem emit_addOut (s : State) (o : Out) : (s.emit o).addOut = s.addOut := rfl
@[simp] theorem emit_npc (s : State) (o : Out) : (s.emit o).npc = s.npc := rfl
@[simp] theorem emit_svc (s : State) (o : Out) : (s.emit o).svc = s.svc := rfl
@[simp] theorem emit_turns (s : State) (o : Out) : (s.emit o).turns = s.turns := rfl
@[simp] theorem emit_landed (s : State) (o : Out) : (s.emit o).landed = s.landed := rfl
@[simp] theorem emit_held (s : State) (o : Out) : (s.emit o).held = s.held := rfl
@[simp] theorem emit_tickWritten (s : State) (o : Out) : (s.emit o).tickWritten = s.tickWritten := rfl
@[simp] theorem emit_resetNow (s : State) (o : Out) : (s.emit o).resetNow = s.resetNow := rfl
@[simp] theorem emit_clears (s : State) (o : Out) : (s.emit o).clears = s.clears := rfl
@[simp] theorem emit_raised (s : State) (o : Out) : (s.emit o).raised = s.raised := rfl
@[simp] theorem emit_lineSh (s : State) (o : Out) : (s.emit o).lineSh = s.lineSh := rfl
@[simp] theorem emit_dbgReq (s : State) (o : Out) : (s.emit o).dbgReq = s.dbgReq := rfl
@[simp] theorem emit_acc (s : State) (o : Out) : (s.emit o).acc = s.acc := rfl
@[simp] theorem emit_env (s : State) (o : Out) : (s.emit o).env = s.env := rfl
@[simp] theorem emit_inp (s : State) (o : Out) : (s.emit o).inp = s.inp := rfl
@[simp] theorem emit_out (s : State) (o : Out) : (s.emit o).out = s.out ++ [o] := rfl
@[simp] theorem emit_free (s : State) (o : Out) : (s.emit o).free = s.free := rfl

/-! ## later -/

@[simp] theorem later_rf (s : State) (d : Nat) (e : Effect) : (s.later d e).rf = s.rf := rfl
@[simp] theorem later_arf (s : State) (d : Nat) (e : Effect) : (s.later d e).arf = s.arf := rfl
@[simp] theorem later_tmp0 (s : State) (d : Nat) (e : Effect) : (s.later d e).tmp0 = s.tmp0 := rfl
@[simp] theorem later_tmp1 (s : State) (d : Nat) (e : Effect) : (s.later d e).tmp1 = s.tmp1 := rfl
@[simp] theorem later_regs (s : State) (d : Nat) (e : Effect) : (s.later d e).regs = s.regs := rfl
@[simp] theorem later_mode (s : State) (d : Nat) (e : Effect) : (s.later d e).mode = s.mode := rfl
@[simp] theorem later_ints (s : State) (d : Nat) (e : Effect) : (s.later d e).ints = s.ints := rfl
@[simp] theorem later_dma (s : State) (d : Nat) (e : Effect) : (s.later d e).dma = s.dma := rfl
@[simp] theorem later_pmu (s : State) (d : Nat) (e : Effect) : (s.later d e).pmu = s.pmu := rfl
@[simp] theorem later_mem (s : State) (d : Nat) (e : Effect) : (s.later d e).mem = s.mem := rfl
@[simp] theorem later_badParity (s : State) (d : Nat) (e : Effect) : (s.later d e).badParity = s.badParity := rfl
@[simp] theorem later_vliw (s : State) (d : Nat) (e : Effect) : (s.later d e).vliw = s.vliw := rfl
@[simp] theorem later_pend (s : State) (d : Nat) (e : Effect) : (s.later d e).pend = s.pend ++ [⟨d, e⟩] := rfl
@[simp] theorem later_ports (s : State) (d : Nat) (e : Effect) : (s.later d e).ports = s.ports := rfl
@[simp] theorem later_mulOut (s : State) (d : Nat) (e : Effect) : (s.later d e).mulOut = s.mulOut := rfl
@[simp] theorem later_addOut (s : State) (d : Nat) (e : Effect) : (s.later d e).addOut = s.addOut := rfl
@[simp] theorem later_npc (s : State) (d : Nat) (e : Effect) : (s.later d e).npc = s.npc := rfl
@[simp] theorem later_svc (s : State) (d : Nat) (e : Effect) : (s.later d e).svc = s.svc := rfl
@[simp] theorem later_turns (s : State) (d : Nat) (e : Effect) : (s.later d e).turns = s.turns := rfl
@[simp] theorem later_landed (s : State) (d : Nat) (e : Effect) : (s.later d e).landed = s.landed := rfl
@[simp] theorem later_held (s : State) (d : Nat) (e : Effect) : (s.later d e).held = s.held := rfl
@[simp] theorem later_tickWritten (s : State) (d : Nat) (e : Effect) : (s.later d e).tickWritten = s.tickWritten := rfl
@[simp] theorem later_resetNow (s : State) (d : Nat) (e : Effect) : (s.later d e).resetNow = s.resetNow := rfl
@[simp] theorem later_clears (s : State) (d : Nat) (e : Effect) : (s.later d e).clears = s.clears := rfl
@[simp] theorem later_raised (s : State) (d : Nat) (e : Effect) : (s.later d e).raised = s.raised := rfl
@[simp] theorem later_lineSh (s : State) (d : Nat) (e : Effect) : (s.later d e).lineSh = s.lineSh := rfl
@[simp] theorem later_dbgReq (s : State) (d : Nat) (e : Effect) : (s.later d e).dbgReq = s.dbgReq := rfl
@[simp] theorem later_acc (s : State) (d : Nat) (e : Effect) : (s.later d e).acc = s.acc := rfl
@[simp] theorem later_env (s : State) (d : Nat) (e : Effect) : (s.later d e).env = s.env := rfl
@[simp] theorem later_inp (s : State) (d : Nat) (e : Effect) : (s.later d e).inp = s.inp := rfl
@[simp] theorem later_out (s : State) (d : Nat) (e : Effect) : (s.later d e).out = s.out := rfl
@[simp] theorem later_free (s : State) (d : Nat) (e : Effect) : (s.later d e).free = s.free := rfl

/-! ## port -/

@[simp] theorem port_rf (s : State) (u : AguUnit) (d : Nat) (o : PortOp) : (s.port u d o).rf = s.rf := rfl
@[simp] theorem port_arf (s : State) (u : AguUnit) (d : Nat) (o : PortOp) : (s.port u d o).arf = s.arf := rfl
@[simp] theorem port_tmp0 (s : State) (u : AguUnit) (d : Nat) (o : PortOp) : (s.port u d o).tmp0 = s.tmp0 := rfl
@[simp] theorem port_tmp1 (s : State) (u : AguUnit) (d : Nat) (o : PortOp) : (s.port u d o).tmp1 = s.tmp1 := rfl
@[simp] theorem port_regs (s : State) (u : AguUnit) (d : Nat) (o : PortOp) : (s.port u d o).regs = s.regs := rfl
@[simp] theorem port_mode (s : State) (u : AguUnit) (d : Nat) (o : PortOp) : (s.port u d o).mode = s.mode := rfl
@[simp] theorem port_ints (s : State) (u : AguUnit) (d : Nat) (o : PortOp) : (s.port u d o).ints = s.ints := rfl
@[simp] theorem port_dma (s : State) (u : AguUnit) (d : Nat) (o : PortOp) : (s.port u d o).dma = s.dma := rfl
@[simp] theorem port_pmu (s : State) (u : AguUnit) (d : Nat) (o : PortOp) : (s.port u d o).pmu = s.pmu := rfl
@[simp] theorem port_mem (s : State) (u : AguUnit) (d : Nat) (o : PortOp) : (s.port u d o).mem = s.mem := rfl
@[simp] theorem port_badParity (s : State) (u : AguUnit) (d : Nat) (o : PortOp) : (s.port u d o).badParity = s.badParity := rfl
@[simp] theorem port_vliw (s : State) (u : AguUnit) (d : Nat) (o : PortOp) : (s.port u d o).vliw = s.vliw := rfl
@[simp] theorem port_pend (s : State) (u : AguUnit) (d : Nat) (o : PortOp) : (s.port u d o).pend = s.pend := rfl
@[simp] theorem port_ports (s : State) (u : AguUnit) (d : Nat) (o : PortOp) : (s.port u d o).ports = s.ports ++ [⟨u, d, o⟩] := rfl
@[simp] theorem port_mulOut (s : State) (u : AguUnit) (d : Nat) (o : PortOp) : (s.port u d o).mulOut = s.mulOut := rfl
@[simp] theorem port_addOut (s : State) (u : AguUnit) (d : Nat) (o : PortOp) : (s.port u d o).addOut = s.addOut := rfl
@[simp] theorem port_npc (s : State) (u : AguUnit) (d : Nat) (o : PortOp) : (s.port u d o).npc = s.npc := rfl
@[simp] theorem port_svc (s : State) (u : AguUnit) (d : Nat) (o : PortOp) : (s.port u d o).svc = s.svc := rfl
@[simp] theorem port_turns (s : State) (u : AguUnit) (d : Nat) (o : PortOp) : (s.port u d o).turns = s.turns := rfl
@[simp] theorem port_landed (s : State) (u : AguUnit) (d : Nat) (o : PortOp) : (s.port u d o).landed = s.landed := rfl
@[simp] theorem port_held (s : State) (u : AguUnit) (d : Nat) (o : PortOp) : (s.port u d o).held = s.held := rfl
@[simp] theorem port_tickWritten (s : State) (u : AguUnit) (d : Nat) (o : PortOp) : (s.port u d o).tickWritten = s.tickWritten := rfl
@[simp] theorem port_resetNow (s : State) (u : AguUnit) (d : Nat) (o : PortOp) : (s.port u d o).resetNow = s.resetNow := rfl
@[simp] theorem port_clears (s : State) (u : AguUnit) (d : Nat) (o : PortOp) : (s.port u d o).clears = s.clears := rfl
@[simp] theorem port_raised (s : State) (u : AguUnit) (d : Nat) (o : PortOp) : (s.port u d o).raised = s.raised := rfl
@[simp] theorem port_lineSh (s : State) (u : AguUnit) (d : Nat) (o : PortOp) : (s.port u d o).lineSh = s.lineSh := rfl
@[simp] theorem port_dbgReq (s : State) (u : AguUnit) (d : Nat) (o : PortOp) : (s.port u d o).dbgReq = s.dbgReq := rfl
@[simp] theorem port_acc (s : State) (u : AguUnit) (d : Nat) (o : PortOp) : (s.port u d o).acc = s.acc := rfl
@[simp] theorem port_env (s : State) (u : AguUnit) (d : Nat) (o : PortOp) : (s.port u d o).env = s.env := rfl
@[simp] theorem port_inp (s : State) (u : AguUnit) (d : Nat) (o : PortOp) : (s.port u d o).inp = s.inp := rfl
@[simp] theorem port_out (s : State) (u : AguUnit) (d : Nat) (o : PortOp) : (s.port u d o).out = s.out := rfl
@[simp] theorem port_free (s : State) (u : AguUnit) (d : Nat) (o : PortOp) : (s.port u d o).free = s.free := rfl

/-! ## drawn -/

@[simp] theorem drawn_rf (s : State) : s.drawn.rf = s.rf := rfl
@[simp] theorem drawn_arf (s : State) : s.drawn.arf = s.arf := rfl
@[simp] theorem drawn_tmp0 (s : State) : s.drawn.tmp0 = s.tmp0 := rfl
@[simp] theorem drawn_tmp1 (s : State) : s.drawn.tmp1 = s.tmp1 := rfl
@[simp] theorem drawn_regs (s : State) : s.drawn.regs = s.regs := rfl
@[simp] theorem drawn_mode (s : State) : s.drawn.mode = s.mode := rfl
@[simp] theorem drawn_ints (s : State) : s.drawn.ints = s.ints := rfl
@[simp] theorem drawn_dma (s : State) : s.drawn.dma = s.dma := rfl
@[simp] theorem drawn_pmu (s : State) : s.drawn.pmu = s.pmu := rfl
@[simp] theorem drawn_mem (s : State) : s.drawn.mem = s.mem := rfl
@[simp] theorem drawn_badParity (s : State) : s.drawn.badParity = s.badParity := rfl
@[simp] theorem drawn_vliw (s : State) : s.drawn.vliw = s.vliw := rfl
@[simp] theorem drawn_pend (s : State) : s.drawn.pend = s.pend := rfl
@[simp] theorem drawn_ports (s : State) : s.drawn.ports = s.ports := rfl
@[simp] theorem drawn_mulOut (s : State) : s.drawn.mulOut = s.mulOut := rfl
@[simp] theorem drawn_addOut (s : State) : s.drawn.addOut = s.addOut := rfl
@[simp] theorem drawn_npc (s : State) : s.drawn.npc = s.npc := rfl
@[simp] theorem drawn_svc (s : State) : s.drawn.svc = s.svc := rfl
@[simp] theorem drawn_turns (s : State) : s.drawn.turns = s.turns := rfl
@[simp] theorem drawn_landed (s : State) : s.drawn.landed = s.landed := rfl
@[simp] theorem drawn_tickWritten (s : State) : s.drawn.tickWritten = s.tickWritten := rfl
@[simp] theorem drawn_resetNow (s : State) : s.drawn.resetNow = s.resetNow := rfl
@[simp] theorem drawn_clears (s : State) : s.drawn.clears = s.clears := rfl
@[simp] theorem drawn_raised (s : State) : s.drawn.raised = s.raised := rfl
@[simp] theorem drawn_lineSh (s : State) : s.drawn.lineSh = s.lineSh := rfl
@[simp] theorem drawn_dbgReq (s : State) : s.drawn.dbgReq = s.dbgReq := rfl
@[simp] theorem drawn_acc (s : State) : s.drawn.acc = s.acc := rfl
@[simp] theorem drawn_env (s : State) : s.drawn.env = s.env := rfl
@[simp] theorem drawn_inp (s : State) : s.drawn.inp = s.inp := rfl
@[simp] theorem drawn_out (s : State) : s.drawn.out = s.out := rfl
@[simp] theorem drawn_free (s : State) : s.drawn.free = s.free + 1 := rfl

/-! ## What a service point sees (R1082, R1090) -/

/-- An update that a service point of the same core step sees is seen whole. -/
@[simp] theorem updInts_sight (s : State) (f : Ints → Ints) : (s.updInts f).sight = f s.sight := by
  unfold State.sight; cases h : s.held <;> simp [h]

/-- A movement toward a register of R1082 leaves in sight what was; one toward another register what has become. -/
theorem holdSight_sight (s : State) (a : BitVec 7) (i : Ints) :
    (s.holdSight a i).sight = if heldRegister a then i else s.sight := by
  unfold State.sight; rw [holdSight_held, holdSight_ints]; split <;> rfl

/-- The next bundle sees the interrupt registers as they stand. -/
@[simp] theorem nextLanding_sight (s : State) : (nextLanding s).sight = s.ints := rfl

end Sys2Proof.Machine
end

