-- ==== Sys2Proof/Laws/Ops.lean ====
section
/-! SUPPORT. Laws of the shared operations: sequencing, taking an exception, and for each operation form one lemma that
says everything it can do. -/

namespace Sys2Proof.Machine

/-! ## Sequencing -/

@[simp] theorem andThen_next (s : State) (f : State → Res) : andThen (.next s) f = f s := rfl
@[simp] theorem andThen_fault (e : Fault) (f : State → Res) : andThen (.fault e) f = .fault e := rfl
@[simp] theorem andThen_refused (e : Refusal) (f : State → Res) : andThen (.refused e) f = .refused e := rfl

/-- A sequence answers a next state exactly when both parts do. -/
theorem andThen_eq_next {r : Res} {f : State → Res} {t : State} :
    andThen r f = .next t ↔ ∃ s, r = .next s ∧ f s = .next t := by
  cases r <;> simp [andThen]

@[simp] theorem runAll_nil (s : State) : runAll [] s = .next s := rfl
@[simp] theorem runAll_cons (f : State → Res) (l : List (State → Res)) (s : State) :
    runAll (f :: l) s = andThen (f s) (runAll l) := rfl

/-- What every operation of a list keeps, the list keeps. -/
theorem runAll_keeps (P : State → Prop) : ∀ {l : List (State → Res)}, (∀ f ∈ l, ∀ s t, P s → f s = .next t → P t) →
    ∀ s t, P s → runAll l s = .next t → P t := by
  intro l
  induction l with
  | nil => intro _ s t hs h; cases h; exact hs
  | cons f l ih =>
    intro hl s t hs h
    rw [runAll_cons, andThen_eq_next] at h
    obtain ⟨m, h1, h2⟩ := h
    exact ih (fun g hg => hl g (by simp [hg])) m t (hl f (by simp) s m hs h1) h2

/-! ## Taking an exception changes MGCEXCEPTION, the interrupt state and the record of this cycle's exceptions only -/

@[simp] theorem lineEvent_rf (x : Nat) (s : State) : (lineEvent x s).rf = s.rf := rfl
@[simp] theorem lineEvent_arf (x : Nat) (s : State) : (lineEvent x s).arf = s.arf := rfl
@[simp] theorem lineEvent_tmp0 (x : Nat) (s : State) : (lineEvent x s).tmp0 = s.tmp0 := rfl
@[simp] theorem lineEvent_tmp1 (x : Nat) (s : State) : (lineEvent x s).tmp1 = s.tmp1 := rfl
@[simp] theorem lineEvent_regs (x : Nat) (s : State) : (lineEvent x s).regs = s.regs := rfl
@[simp] theorem lineEvent_mode (x : Nat) (s : State) : (lineEvent x s).mode = s.mode := rfl
@[simp] theorem lineEvent_dma (x : Nat) (s : State) : (lineEvent x s).dma = s.dma := rfl
@[simp] theorem lineEvent_pmu (x : Nat) (s : State) : (lineEvent x s).pmu = s.pmu := rfl
@[simp] theorem lineEvent_mem (x : Nat) (s : State) : (lineEvent x s).mem = s.mem := rfl
@[simp] theorem lineEvent_badParity (x : Nat) (s : State) : (lineEvent x s).badParity = s.badParity := rfl
@[simp] theorem lineEvent_vliw (x : Nat) (s : State) : (lineEvent x s).vliw = s.vliw := rfl
@[simp] theorem lineEvent_pend (x : Nat) (s : State) : (lineEvent x s).pend = s.pend := rfl
@[simp] theorem lineEvent_ports (x : Nat) (s : State) : (lineEvent x s).ports = s.ports := rfl
@[simp] theorem lineEvent_mulOut (x : Nat) (s : State) : (lineEvent x s).mulOut = s.mulOut := rfl
@[simp] theorem lineEvent_addOut (x : Nat) (s : State) : (lineEvent x s).addOut = s.addOut := rfl
@[simp] theorem lineEvent_npc (x : Nat) (s : State) : (lineEvent x s).npc = s.npc := rfl
@[simp] theorem lineEvent_svc (x : Nat) (s : State) : (lineEvent x s).svc = s.svc := rfl
@[simp] theorem lineEvent_turns (x : Nat) (s : State) : (lineEvent x s).turns = s.turns := rfl
@[simp] theorem lineEvent_landed (x : Nat) (s : State) : (lineEvent x s).landed = s.landed := rfl
/-- A service point of the same core step sees an event (R1090). -/
theorem lineEvent_sight (x : Nat) (s : State) : (lineEvent x s).sight = { s.sight with
    pend := if s.sight.en.getLsbD x then s.sight.pend ||| bitAt 8 x else s.sight.pend
    wakeIntEv := if s.sight.wakeInt.getLsbD x then s.sight.wakeIntEv ||| bitAt 8 x else s.sight.wakeIntEv } :=
  updInts_sight s _
@[simp] theorem lineEvent_tickWritten (x : Nat) (s : State) : (lineEvent x s).tickWritten = s.tickWritten := rfl
@[simp] theorem lineEvent_resetNow (x : Nat) (s : State) : (lineEvent x s).resetNow = s.resetNow := rfl
@[simp] theorem lineEvent_clears (x : Nat) (s : State) : (lineEvent x s).clears = s.clears := rfl
@[simp] theorem lineEvent_raised (x : Nat) (s : State) : (lineEvent x s).raised = s.raised := rfl
@[simp] theorem lineEvent_lineSh (x : Nat) (s : State) : (lineEvent x s).lineSh = s.lineSh := rfl
@[simp] theorem lineEvent_dbgReq (x : Nat) (s : State) : (lineEvent x s).dbgReq = s.dbgReq := rfl
@[simp] theorem lineEvent_acc (x : Nat) (s : State) : (lineEvent x s).acc = s.acc := rfl
@[simp] theorem lineEvent_env (x : Nat) (s : State) : (lineEvent x s).env = s.env := rfl
@[simp] theorem lineEvent_inp (x : Nat) (s : State) : (lineEvent x s).inp = s.inp := rfl
@[simp] theorem lineEvent_out (x : Nat) (s : State) : (lineEvent x s).out = s.out := rfl
@[simp] theorem lineEvent_free (x : Nat) (s : State) : (lineEvent x s).free = s.free := rfl
@[simp] theorem raise_rf (e : Exc) (s : State) : (raise e s).rf = s.rf := by
  unfold raise; split <;> [rfl; (dsimp only; split <;> rfl)]
@[simp] theorem raise_arf (e : Exc) (s : State) : (raise e s).arf = s.arf := by
  unfold raise; split <;> [rfl; (dsimp only; split <;> rfl)]
@[simp] theorem raise_tmp0 (e : Exc) (s : State) : (raise e s).tmp0 = s.tmp0 := by
  unfold raise; split <;> [rfl; (dsimp only; split <;> rfl)]
@[simp] theorem raise_tmp1 (e : Exc) (s : State) : (raise e s).tmp1 = s.tmp1 := by
  unfold raise; split <;> [rfl; (dsimp only; split <;> rfl)]
@[simp] theorem raise_mode (e : Exc) (s : State) : (raise e s).mode = s.mode := by
  unfold raise; split <;> [rfl; (dsimp only; split <;> rfl)]
@[simp] theorem raise_dma (e : Exc) (s : State) : (raise e s).dma = s.dma := by
  unfold raise; split <;> [rfl; (dsimp only; split <;> rfl)]
@[simp] theorem raise_pmu (e : Exc) (s : State) : (raise e s).pmu = s.pmu := by
  unfold raise; split <;> [rfl; (dsimp only; split <;> rfl)]
@[simp] theorem raise_mem (e : Exc) (s : State) : (raise e s).mem = s.mem := by
  unfold raise; split <;> [rfl; (dsimp only; split <;> rfl)]
@[simp] theorem raise_badParity (e : Exc) (s : State) : (raise e s).badParity = s.badParity := by
  unfold raise; split <;> [rfl; (dsimp only; split <;> rfl)]
@[simp] theorem raise_vliw (e : Exc) (s : State) : (raise e s).vliw = s.vliw := by
  unfold raise; split <;> [rfl; (dsimp only; split <;> rfl)]
@[simp] theorem raise_pend (e : Exc) (s : State) : (raise e s).pend = s.pend := by
  unfold raise; split <;> [rfl; (dsimp only; split <;> rfl)]
@[simp] theorem raise_ports (e : Exc) (s : State) : (raise e s).ports = s.ports := by
  unfold raise; split <;> [rfl; (dsimp only; split <;> rfl)]
@[simp] theorem raise_mulOut (e : Exc) (s : State) : (raise e s).mulOut = s.mulOut := by
  unfold raise; split <;> [rfl; (dsimp only; split <;> rfl)]
@[simp] theorem raise_addOut (e : Exc) (s : State) : (raise e s).addOut = s.addOut := by
  unfold raise; split <;> [rfl; (dsimp only; split <;> rfl)]
@[simp] theorem raise_npc (e : Exc) (s : State) : (raise e s).npc = s.npc := by
  unfold raise; split <;> [rfl; (dsimp only; split <;> rfl)]
@[simp] theorem raise_svc (e : Exc) (s : State) : (raise e s).svc = s.svc := by
  unfold raise; split <;> [rfl; (dsimp only; split <;> rfl)]
@[simp] theorem raise_turns (e : Exc) (s : State) : (raise e s).turns = s.turns := by
  unfold raise; split <;> [rfl; (dsimp only; split <;> rfl)]
@[simp] theorem raise_landed (e : Exc) (s : State) : (raise e s).landed = s.landed := by
  unfold raise; split <;> [rfl; (dsimp only; split <;> rfl)]
@[simp] theorem raise_tickWritten (e : Exc) (s : State) : (raise e s).tickWritten = s.tickWritten := by
  unfold raise; split <;> [rfl; (dsimp only; split <;> rfl)]
@[simp] theorem raise_resetNow (e : Exc) (s : State) : (raise e s).resetNow = s.resetNow := by
  unfold raise; split <;> [rfl; (dsimp only; split <;> rfl)]
@[simp] theorem raise_clears (e : Exc) (s : State) : (raise e s).clears = s.clears := by
  unfold raise; split <;> [rfl; (dsimp only; split <;> rfl)]
@[simp] theorem raise_lineSh (e : Exc) (s : State) : (raise e s).lineSh = s.lineSh := by
  unfold raise; split <;> [rfl; (dsimp only; split <;> rfl)]
@[simp] theorem raise_dbgReq (e : Exc) (s : State) : (raise e s).dbgReq = s.dbgReq := by
  unfold raise; split <;> [rfl; (dsimp only; split <;> rfl)]
@[simp] theorem raise_acc (e : Exc) (s : State) : (raise e s).acc = s.acc := by
  unfold raise; split <;> [rfl; (dsimp only; split <;> rfl)]
@[simp] theorem raise_env (e : Exc) (s : State) : (raise e s).env = s.env := by
  unfold raise; split <;> [rfl; (dsimp only; split <;> rfl)]
@[simp] theorem raise_inp (e : Exc) (s : State) : (raise e s).inp = s.inp := by
  unfold raise; split <;> [rfl; (dsimp only; split <;> rfl)]
@[simp] theorem raise_out (e : Exc) (s : State) : (raise e s).out = s.out := by
  unfold raise; split <;> [rfl; (dsimp only; split <;> rfl)]
@[simp] theorem raise_free (e : Exc) (s : State) : (raise e s).free = s.free := by
  unfold raise; split <;> [rfl; (dsimp only; split <;> rfl)]
@[simp] theorem raiseIf_rf (b : Bool) (e : Exc) (s : State) : (raiseIf b e s).rf = s.rf := by
  cases b <;> simp [raiseIf]
@[simp] theorem raiseIf_arf (b : Bool) (e : Exc) (s : State) : (raiseIf b e s).arf = s.arf := by
  cases b <;> simp [raiseIf]
@[simp] theorem raiseIf_tmp0 (b : Bool) (e : Exc) (s : State) : (raiseIf b e s).tmp0 = s.tmp0 := by
  cases b <;> simp [raiseIf]
@[simp] theorem raiseIf_tmp1 (b : Bool) (e : Exc) (s : State) : (raiseIf b e s).tmp1 = s.tmp1 := by
  cases b <;> simp [raiseIf]
@[simp] theorem raiseIf_mode (b : Bool) (e : Exc) (s : State) : (raiseIf b e s).mode = s.mode := by
  cases b <;> simp [raiseIf]
@[simp] theorem raiseIf_dma (b : Bool) (e : Exc) (s : State) : (raiseIf b e s).dma = s.dma := by
  cases b <;> simp [raiseIf]
@[simp] theorem raiseIf_pmu (b : Bool) (e : Exc) (s : State) : (raiseIf b e s).pmu = s.pmu := by
  cases b <;> simp [raiseIf]
@[simp] theorem raiseIf_mem (b : Bool) (e : Exc) (s : State) : (raiseIf b e s).mem = s.mem := by
  cases b <;> simp [raiseIf]
@[simp] theorem raiseIf_badParity (b : Bool) (e : Exc) (s : State) : (raiseIf b e s).badParity = s.badParity := by
  cases b <;> simp [raiseIf]
@[simp] theorem raiseIf_vliw (b : Bool) (e : Exc) (s : State) : (raiseIf b e s).vliw = s.vliw := by
  cases b <;> simp [raiseIf]
@[simp] theorem raiseIf_pend (b : Bool) (e : Exc) (s : State) : (raiseIf b e s).pend = s.pend := by
  cases b <;> simp [raiseIf]
@[simp] theorem raiseIf_ports (b : Bool) (e : Exc) (s : State) : (raiseIf b e s).ports = s.ports := by
  cases b <;> simp [raiseIf]
@[simp] theorem raiseIf_mulOut (b : Bool) (e : Exc) (s : State) : (raiseIf b e s).mulOut = s.mulOut := by
  cases b <;> simp [raiseIf]
@[simp] theorem raiseIf_addOut (b : Bool) (e : Exc) (s : State) : (raiseIf b e s).addOut = s.addOut := by
  cases b <;> simp [raiseIf]
@[simp] theorem raiseIf_npc (b : Bool) (e : Exc) (s : State) : (raiseIf b e s).npc = s.npc := by
  cases b <;> simp [raiseIf]
@[simp] theorem raiseIf_svc (b : Bool) (e : Exc) (s : State) : (raiseIf b e s).svc = s.svc := by
  cases b <;> simp [raiseIf]
@[simp] theorem raiseIf_turns (b : Bool) (e : Exc) (s : State) : (raiseIf b e s).turns = s.turns := by
  cases b <;> simp [raiseIf]
@[simp] theorem raiseIf_landed (b : Bool) (e : Exc) (s : State) : (raiseIf b e s).landed = s.landed := by
  cases b <;> simp [raiseIf]
@[simp] theorem raiseIf_tickWritten (b : Bool) (e : Exc) (s : State) : (raiseIf b e s).tickWritten = s.tickWritten := by
  cases b <;> simp [raiseIf]
@[simp] theorem raiseIf_resetNow (b : Bool) (e : Exc) (s : State) : (raiseIf b e s).resetNow = s.resetNow := by
  cases b <;> simp [raiseIf]
@[simp] theorem raiseIf_clears (b : Bool) (e : Exc) (s : State) : (raiseIf b e s).clears = s.clears := by
  cases b <;> simp [raiseIf]
@[simp] theorem raiseIf_lineSh (b : Bool) (e : Exc) (s : State) : (raiseIf b e s).lineSh = s.lineSh := by
  cases b <;> simp [raiseIf]
@[simp] theorem raiseIf_dbgReq (b : Bool) (e : Exc) (s : State) : (raiseIf b e s).dbgReq = s.dbgReq := by
  cases b <;> simp [raiseIf]
@[simp] theorem raiseIf_acc (b : Bool) (e : Exc) (s : State) : (raiseIf b e s).acc = s.acc := by
  cases b <;> simp [raiseIf]
@[simp] theorem raiseIf_env (b : Bool) (e : Exc) (s : State) : (raiseIf b e s).env = s.env := by
  cases b <;> simp [raiseIf]
@[simp] theorem raiseIf_inp (b : Bool) (e : Exc) (s : State) : (raiseIf b e s).inp = s.inp := by
  cases b <;> simp [raiseIf]
@[simp] theorem raiseIf_out (b : Bool) (e : Exc) (s : State) : (raiseIf b e s).out = s.out := by
  cases b <;> simp [raiseIf]
@[simp] theorem raiseIf_free (b : Bool) (e : Exc) (s : State) : (raiseIf b e s).free = s.free := by
  cases b <;> simp [raiseIf]
@[simp] theorem raise_regs_pc (e : Exc) (s : State) : (raise e s).regs.pc = s.regs.pc := by
  unfold raise; split <;> [rfl; (dsimp only; split <;> rfl)]
@[simp] theorem raiseIf_regs_pc (b : Bool) (e : Exc) (s : State) : (raiseIf b e s).regs.pc = s.regs.pc := by
  cases b <;> simp [raiseIf]
@[simp] theorem raise_regs_stk (e : Exc) (s : State) : (raise e s).regs.stk = s.regs.stk := by
  unfold raise; split <;> [rfl; (dsimp only; split <;> rfl)]
@[simp] theorem raiseIf_regs_stk (b : Bool) (e : Exc) (s : State) : (raiseIf b e s).regs.stk = s.regs.stk := by
  cases b <;> simp [raiseIf]
@[simp] theorem raise_regs_branch (e : Exc) (s : State) : (raise e s).regs.branch = s.regs.branch := by
  unfold raise; split <;> [rfl; (dsimp only; split <;> rfl)]
@[simp] theorem raiseIf_regs_branch (b : Bool) (e : Exc) (s : State) : (raiseIf b e s).regs.branch = s.regs.branch := by
  cases b <;> simp [raiseIf]
@[simp] theorem raise_regs_rept (e : Exc) (s : State) : (raise e s).regs.rept = s.regs.rept := by
  unfold raise; split <;> [rfl; (dsimp only; split <;> rfl)]
@[simp] theorem raiseIf_regs_rept (b : Bool) (e : Exc) (s : State) : (raiseIf b e s).regs.rept = s.regs.rept := by
  cases b <;> simp [raiseIf]
@[simp] theorem raise_regs_loopcnt (e : Exc) (s : State) : (raise e s).regs.loopcnt = s.regs.loopcnt := by
  unfold raise; split <;> [rfl; (dsimp only; split <;> rfl)]
@[simp] theorem raiseIf_regs_loopcnt (b : Bool) (e : Exc) (s : State) : (raiseIf b e s).regs.loopcnt = s.regs.loopcnt := by
  cases b <;> simp [raiseIf]
@[simp] theorem raise_regs_looplen (e : Exc) (s : State) : (raise e s).regs.looplen = s.regs.looplen := by
  unfold raise; split <;> [rfl; (dsimp only; split <;> rfl)]
@[simp] theorem raiseIf_regs_looplen (b : Bool) (e : Exc) (s : State) : (raiseIf b e s).regs.looplen = s.regs.looplen := by
  cases b <;> simp [raiseIf]
@[simp] theorem raise_regs_gp0 (e : Exc) (s : State) : (raise e s).regs.gp0 = s.regs.gp0 := by
  unfold raise; split <;> [rfl; (dsimp only; split <;> rfl)]
@[simp] theorem raiseIf_regs_gp0 (b : Bool) (e : Exc) (s : State) : (raiseIf b e s).regs.gp0 = s.regs.gp0 := by
  cases b <;> simp [raiseIf]
@[simp] theorem raise_regs_gp1 (e : Exc) (s : State) : (raise e s).regs.gp1 = s.regs.gp1 := by
  unfold raise; split <;> [rfl; (dsimp only; split <;> rfl)]
@[simp] theorem raiseIf_regs_gp1 (b : Bool) (e : Exc) (s : State) : (raiseIf b e s).regs.gp1 = s.regs.gp1 := by
  cases b <;> simp [raiseIf]
@[simp] theorem raise_regs_gp2 (e : Exc) (s : State) : (raise e s).regs.gp2 = s.regs.gp2 := by
  unfold raise; split <;> [rfl; (dsimp only; split <;> rfl)]
@[simp] theorem raiseIf_regs_gp2 (b : Bool) (e : Exc) (s : State) : (raiseIf b e s).regs.gp2 = s.regs.gp2 := by
  cases b <;> simp [raiseIf]
@[simp] theorem raise_regs_cond (e : Exc) (s : State) : (raise e s).regs.cond = s.regs.cond := by
  unfold raise; split <;> [rfl; (dsimp only; split <;> rfl)]
@[simp] theorem raiseIf_regs_cond (b : Bool) (e : Exc) (s : State) : (raiseIf b e s).regs.cond = s.regs.cond := by
  cases b <;> simp [raiseIf]
@[simp] theorem raise_regs_stkiq (e : Exc) (s : State) : (raise e s).regs.stkiq = s.regs.stkiq := by
  unfold raise; split <;> [rfl; (dsimp only; split <;> rfl)]
@[simp] theorem raiseIf_regs_stkiq (b : Bool) (e : Exc) (s : State) : (raiseIf b e s).regs.stkiq = s.regs.stkiq := by
  cases b <;> simp [raiseIf]
@[simp] theorem raise_regs_pred (e : Exc) (s : State) : (raise e s).regs.pred = s.regs.pred := by
  unfold raise; split <;> [rfl; (dsimp only; split <;> rfl)]
@[simp] theorem raiseIf_regs_pred (b : Bool) (e : Exc) (s : State) : (raiseIf b e s).regs.pred = s.regs.pred := by
  cases b <;> simp [raiseIf]
@[simp] theorem raise_regs_sticky0 (e : Exc) (s : State) : (raise e s).regs.sticky0 = s.regs.sticky0 := by
  unfold raise; split <;> [rfl; (dsimp only; split <;> rfl)]
@[simp] theorem raiseIf_regs_sticky0 (b : Bool) (e : Exc) (s : State) : (raiseIf b e s).regs.sticky0 = s.regs.sticky0 := by
  cases b <;> simp [raiseIf]
@[simp] theorem raise_regs_sticky1 (e : Exc) (s : State) : (raise e s).regs.sticky1 = s.regs.sticky1 := by
  unfold raise; split <;> [rfl; (dsimp only; split <;> rfl)]
@[simp] theorem raiseIf_regs_sticky1 (b : Bool) (e : Exc) (s : State) : (raiseIf b e s).regs.sticky1 = s.regs.sticky1 := by
  cases b <;> simp [raiseIf]
@[simp] theorem raise_regs_mask (e : Exc) (s : State) : (raise e s).regs.mask = s.regs.mask := by
  unfold raise; split <;> [rfl; (dsimp only; split <;> rfl)]
@[simp] theorem raiseIf_regs_mask (b : Bool) (e : Exc) (s : State) : (raiseIf b e s).regs.mask = s.regs.mask := by
  cases b <;> simp [raiseIf]
@[simp] theorem raise_regs_tick (e : Exc) (s : State) : (raise e s).regs.tick = s.regs.tick := by
  unfold raise; split <;> [rfl; (dsimp only; split <;> rfl)]
@[simp] theorem raiseIf_regs_tick (b : Bool) (e : Exc) (s : State) : (raiseIf b e s).regs.tick = s.regs.tick := by
  cases b <;> simp [raiseIf]
@[simp] theorem raise_regs_watch (e : Exc) (s : State) : (raise e s).regs.watch = s.regs.watch := by
  unfold raise; split <;> [rfl; (dsimp only; split <;> rfl)]
@[simp] theorem raiseIf_regs_watch (b : Bool) (e : Exc) (s : State) : (raiseIf b e s).regs.watch = s.regs.watch := by
  cases b <;> simp [raiseIf]
@[simp] theorem raise_regs_mutexLocked (e : Exc) (s : State) : (raise e s).regs.mutexLocked = s.regs.mutexLocked := by
  unfold raise; split <;> [rfl; (dsimp only; split <;> rfl)]
@[simp] theorem raiseIf_regs_mutexLocked (b : Bool) (e : Exc) (s : State) : (raiseIf b e s).regs.mutexLocked = s.regs.mutexLocked := by
  cases b <;> simp [raiseIf]
@[simp] theorem raise_regs_mutexOwner (e : Exc) (s : State) : (raise e s).regs.mutexOwner = s.regs.mutexOwner := by
  unfold raise; split <;> [rfl; (dsimp only; split <;> rfl)]
@[simp] theorem raiseIf_regs_mutexOwner (b : Bool) (e : Exc) (s : State) : (raiseIf b e s).regs.mutexOwner = s.regs.mutexOwner := by
  cases b <;> simp [raiseIf]

@[simp] theorem raiseIf_false (e : Exc) (s : State) : raiseIf false e s = s := rfl
@[simp] theorem raiseIf_true (e : Exc) (s : State) : raiseIf true e s = raise e s := rfl

/-- A masked exception changes nothing (R1120). -/
theorem raise_masked {e : Exc} {s : State} (h : s.regs.mask.getLsbD e.bit = true) : raise e s = s := by
  simp [raise, h]

/-- An unmasked exception sets its bit and no other (R1120). -/
theorem raise_exception {e : Exc} {s : State} (h : s.regs.mask.getLsbD e.bit = false) :
    (raise e s).regs.exception = s.regs.exception ||| bitAt 32 e.bit := by
  unfold raise
  rw [if_neg (by simp [h])]
  dsimp only
  split <;> rfl

/-! ## Gating -/

/-- A scalar gate lets an operation run, or does nothing. -/
theorem scalarGate_next {g : Gate} {s t : State} {run : State → Res} (h : scalarGate g s run = .next t) :
    (g.c0 = true ∧ g.c1 = true ∧ run s = .next t) ∨ (g.c0 = false ∧ g.c1 = false ∧ t = s) := by
  obtain ⟨gg, c0, c1⟩ := g
  cases c0 <;> cases c1 <;> simp [scalarGate] at h ⊢
  · exact h.symm
  · exact h

theorem scalarGate_on {g : Gate} (h0 : g.c0 = true) (h1 : g.c1 = true) (s : State) (run : State → Res) :
    scalarGate g s run = run s := by
  simp [scalarGate, h0, h1]

/-! ## Operations of the ADD and MUL issues -/

/-- A pair operation does nothing, or schedules its result. -/
theorem pairOp_next {i : Issue} {lat : Nat} {p : BitVec 2} {l : List (BitVec 8)} {f : State → PairOut} {s t : State}
    (h : pairOp i lat p l f s = .next t) :
    ((issueGate s i p).c0 = false ∧ (issueGate s i p).c1 = false ∧ t = s) ∨
      (((issueGate s i p).c0 || (issueGate s i p).c1) = true ∧ (∀ r ∈ l, evenPair r = true) ∧
        t = schedulePair i lat (issueGate s i p) (f s) s) := by
  unfold pairOp at h
  dsimp only at h
  split at h
  · cases h; left; simp_all
  · split at h
    · cases h
    · cases h
      refine .inr ⟨?_, ?_, rfl⟩
      · rename_i h1 _
        revert h1
        cases (issueGate s i p).c0 <;> cases (issueGate s i p).c1 <;> simp
      · simp_all

theorem pairOp_on {i : Issue} {lat : Nat} {p : BitVec 2} {l : List (BitVec 8)} {f : State → PairOut} {s : State}
    (h : ((issueGate s i p).c0 || (issueGate s i p).c1) = true) (hl : ∀ r ∈ l, evenPair r = true) :
    pairOp i lat p l f s = .next (schedulePair i lat (issueGate s i p) (f s) s) := by
  unfold pairOp
  dsimp only
  rw [if_neg (by revert h; cases (issueGate s i p).c0 <;> cases (issueGate s i p).c1 <;> simp), if_neg (by simp_all)]

/-- A scalar operation does nothing, or schedules its result. -/
theorem scalarOp_next {i : Issue} {lat : Nat} {p : BitVec 2} {f : State → ScalarOut} {s t : State}
    (h : scalarOp i lat p f s = .next t) :
    ((issueGate s i p).c0 = true ∧ (issueGate s i p).c1 = true ∧ t = scheduleScalar i lat (f s) s) ∨
      ((issueGate s i p).c0 = false ∧ (issueGate s i p).c1 = false ∧ t = s) := by
  rcases scalarGate_next h with ⟨h0, h1, h2⟩ | h2
  · cases h2; exact .inl ⟨h0, h1, rfl⟩
  · exact .inr h2

theorem scalarOp_on {i : Issue} {lat : Nat} {p : BitVec 2} {f : State → ScalarOut} {s : State}
    (h0 : (issueGate s i p).c0 = true) (h1 : (issueGate s i p).c1 = true) :
    scalarOp i lat p f s = .next (scheduleScalar i lat (f s) s) := scalarGate_on h0 h1 _ _

/-- A compare of pairs does nothing, or schedules the two condition flags. -/
theorem pairCompare_next {p : BitVec 2} {l : List (BitVec 8)} {f : State → Bool × Bool} {s t : State}
    (h : pairCompare p l f s = .next t) :
    t = s ∨ t = s.later 3 (.cond (fpuMask (issueGate s .add p).c0 (issueGate s .add p).c1)
      (fpuMask (f s).1 (f s).2)) := by
  unfold pairCompare at h
  dsimp only at h
  split at h
  · cases h; exact .inl rfl
  · split at h
    · cases h
    · cases h; exact .inr rfl

theorem pairCompare_on {p : BitVec 2} {l : List (BitVec 8)} {f : State → Bool × Bool} {s : State}
    (h : ((issueGate s .add p).c0 || (issueGate s .add p).c1) = true) (hl : ∀ r ∈ l, evenPair r = true) :
    pairCompare p l f s = .next (s.later 3 (.cond (fpuMask (issueGate s .add p).c0 (issueGate s .add p).c1)
      (fpuMask (f s).1 (f s).2))) := by
  unfold pairCompare
  dsimp only
  rw [if_neg (by revert h; cases (issueGate s .add p).c0 <;> cases (issueGate s .add p).c1 <;> simp), if_neg (by simp_all)]
  rfl

theorem scalarCompare_next {p : BitVec 2} {f : State → Bool} {s t : State} (h : scalarCompare p f s = .next t) :
    t = s ∨ t = s.later 3 (.cond (fpuMask true true) (fpuMask (f s) (f s))) := by
  rcases scalarGate_next h with ⟨_, _, h2⟩ | h2
  · cases h2; exact .inr rfl
  · exact .inl h2.2.2

theorem scalarCompare_on {p : BitVec 2} {f : State → Bool} {s : State}
    (h0 : (issueGate s .add p).c0 = true) (h1 : (issueGate s .add p).c1 = true) :
    scalarCompare p f s = .next (s.later 3 (.cond (fpuMask true true) (fpuMask (f s) (f s)))) := scalarGate_on h0 h1 _ _

/-! ## Operations of the AGU issues -/

/-- An access does nothing, is dropped with its address exceptions, or updates the pointer and goes on to its data. -/
theorem aguAccess_next {u : AguUnit} {vec rf : Bool} {m : AguMode} {p : BitVec 2} {x : BitVec 4}
    {data : Gate → BitVec 16 → State → Res} {s t : State} (h : aguAccess u vec rf m p x data s = .next t) :
    ((issueGate s (aguIssue u) p).g = false ∧ t = s) ∨
      (∃ b0 b1, t = raiseIf b1 (ptyExc u) (raiseIf b0 (ovfExc u) s)) ∨
        ((issueGate s (aguIssue u) p).g = true ∧
          data (issueGate s (aguIssue u) p) (aguAddress m (aguIn s u x)).addr
            { s with pend := s.pend ++ addressEffects u x (aguAddress m (aguIn s u x)) } = .next t) := by
  unfold aguAccess at h
  dsimp only at h
  split at h
  · cases h; left; simp_all
  · split at h
    · cases h
    · split at h
      · cases h; exact .inr (.inl ⟨_, _, rfl⟩)
      · exact .inr (.inr ⟨by simp_all, h⟩)

theorem aguAccess_on {u : AguUnit} {vec rf : Bool} {m : AguMode} {p : BitVec 2} {x : BitVec 4}
    {data : Gate → BitVec 16 → State → Res} {s : State} (hg : (issueGate s (aguIssue u) p).g = true)
    (hs : rf = true → (issueGate s (aguIssue u) p).c0 = (issueGate s (aguIssue u) p).c1)
    (ho : addrOver (aguAddress m (aguIn s u x)).addr = false)
    (hp : addrOdd vec (aguAddress m (aguIn s u x)).addr = false) :
    aguAccess u vec rf m p x data s = data (issueGate s (aguIssue u) p) (aguAddress m (aguIn s u x)).addr
      { s with pend := s.pend ++ addressEffects u x (aguAddress m (aguIn s u x)) } := by
  have h1 : (rf && (issueGate s (aguIssue u) p).c0 != (issueGate s (aguIssue u) p).c1) = false := by
    cases rf with
    | false => simp
    | true => simp [hs rfl]
  unfold aguAccess
  simp [hg, h1, ho, hp]

/-- An arithmetic operation does nothing, or raises its overflow and schedules its results. -/
theorem aguArith_next {u : AguUnit} {p : BitVec 2} {x : BitVec 4} {f : AguIn → AguOut} {s t : State}
    (h : aguArith u p x f s = .next t) :
    t = s ∨ t = { raiseIf (f (aguIn s u x)).ovf (aovfExc u) s with
      pend := s.pend ++ arithEffects u x (f (aguIn s u x)) } := by
  unfold aguArith at h
  split at h
  · cases h; exact .inl rfl
  · cases h; right; simp

theorem aguArith_on {u : AguUnit} {p : BitVec 2} {x : BitVec 4} {f : AguIn → AguOut} {s : State}
    (h : (issueGate s (aguIssue u) p).g = true) :
    aguArith u p x f s = .next { raiseIf (f (aguIn s u x)).ovf (aovfExc u) s with
      pend := s.pend ++ arithEffects u x (f (aguIn s u x)) } := by
  simp [aguArith, h]

/-- A read toward the Register File schedules one port access. -/
theorem readRf_next {u : AguUnit} {q : RfPort} {vec : Bool} {n : BitVec 8} {g : Gate} {a : BitVec 16} {s t : State}
    (h : readRf u q vec n g a s = .next t) : t = s.port u 1 (.read a vec (.rf q n g.c0 (vec && g.c1))) := by
  unfold readRf at h
  split at h
  · cases h
  · cases h; rfl

/-- A read toward the first bank schedules one port access. -/
theorem readFirst_next {vec : Bool} {a : BitVec 7} {ad : BitVec 16} {s t : State} (h : readFirst vec a ad s = .next t) :
    ∃ d, t = s.port .agu0 1 (.read ad vec d) := by
  unfold readFirst at h
  cases vec
  · cases h; exact ⟨_, rfl⟩
  · simp only [if_true] at h
    split at h
    · cases h; exact ⟨_, rfl⟩
    · cases h

/-- A store of a result does nothing, or schedules one port access. -/
theorem storeResult_next {u : AguUnit} {vec : Bool} {o : Option OpOut} {g : Gate} {a : BitVec 16} {s t : State}
    (h : storeResult u vec o g a s = .next t) :
    t = s ∨ ∃ r, o = some r ∧ r.vec = vec ∧ t = s.port u (r.lat + 1) (.write a (if g.c0 then r.e0 else none)
      (if vec && g.c1 then r.e1 else none)) := by
  unfold storeResult at h
  dsimp only at h
  split at h
  · cases h; exact .inl rfl
  · split at h
    · cases h
    · split at h
      · cases h
      · cases h
        refine .inr ⟨_, rfl, ?_, rfl⟩
        simp_all

/-- A store of a first-bank register reads it and schedules one port access. -/
theorem storeFirst_next {vec : Bool} {a : BitVec 7} {ad : BitVec 16} {s t : State}
    (h : storeFirst vec a ad s = .next t) :
    (∃ e0 e1, t = s.port .agu0 1 (.write ad e0 e1)) ∨ (∃ e0, t = (readMark a s).port .agu0 1 (.write ad e0 none)) := by
  unfold storeFirst at h
  split at h
  · split at h
    · cases h
    · cases h; exact .inl ⟨_, _, rfl⟩
  · cases h; exact .inr ⟨_, rfl⟩

/-! ## Operations of the FLOW issue -/

theorem flowOp_on {p : BitVec 2} {f : State → Res} {s : State} (h : (gateOf s p).g = true) : flowOp p f s = f s := by
  simp [flowOp, h]

theorem flowOp_off {p : BitVec 2} {f : State → Res} {s : State} (h : (gateOf s p).g = false) : flowOp p f s = .next s := by
  simp [flowOp, h]

theorem flowOp_next {p : BitVec 2} {f : State → Res} {s t : State} (h : flowOp p f s = .next t) :
    t = s ∨ ((gateOf s p).g = true ∧ f s = .next t) := by
  unfold flowOp at h
  split at h
  · exact .inr ⟨by assumption, h⟩
  · cases h; exact .inl rfl

/-- A scalar movement does nothing, or schedules one write of its value. -/
theorem moveScalar_next {p : BitVec 2} {d : BitVec 9} {lat : Nat} {src : Option MoveClass} {bad : Option Refusal}
    {val : State → Word40} {after : State → State} {s t : State}
    (h : moveScalar p d lat src bad val after s = .next t) :
    t = s ∨ t = (after s).later lat (.rf .p7 [(d.setWidth 8, val s)]) ∨
      t = (after s).later lat (.move (d.setWidth 7) (val s) (lat == 1)) := by
  unfold moveScalar at h
  split at h
  · rcases scalarGate_next h with ⟨_, _, h2⟩ | h2
    · split at h2
      · cases h2
      · cases h2; exact .inr (.inl rfl)
    · exact .inl h2.2.2
  · split at h
    · cases h; exact .inl rfl
    · split at h
      · cases h
      · split at h
        · cases h
        · dsimp only at h
          split at h
          · cases h
          · split at h
            · cases h
            · cases h; exact .inr (.inr rfl)

/-- A vector movement does nothing, or schedules one write of its two values. -/
theorem moveVector_next {p : BitVec 2} {d : BitVec 9} {lat : Nat} {bad : Option Refusal}
    {val : State → Word40 × Word40} {s t : State} (h : moveVector p d lat bad val s = .next t) :
    t = s ∨ t = s.later lat (.rf .p7 (pairWrites (gateOf s p).c0 (gateOf s p).c1 (d.setWidth 8) (val s).1 (val s).2)) ∨
      ∃ k, arfVector (d.setWidth 7) = some k ∧ t = s.later lat (.moveArf k (val s).1 (val s).2) := by
  unfold moveVector at h
  dsimp only at h
  split at h
  · split at h
    · cases h; exact .inl rfl
    · split at h
      · cases h
      · split at h
        · cases h
        · cases h; exact .inr (.inl rfl)
  · split at h
    · cases h; exact .inl rfl
    · split at h
      · cases h
      · split at h
        · cases h
        · split at h
          · cases h
          · cases h; exact .inr (.inr ⟨_, by assumption, rfl⟩)

/-- A stack operation does nothing, or schedules both stacks. -/
theorem stackOp_next {p : BitVec 2} {f : State → BitVec 16 × BitVec 16} {s t : State} (h : stackOp p f s = .next t) :
    t = s ∨ t = s.later 1 (.stkiq ((f s).2 ++ (f s).1)) := by
  rcases flowOp_next h with h | ⟨_, h⟩
  · exact .inl h
  · cases h; exact .inr rfl

/-- Setting a predication register schedules bits of MGCPRED. -/
theorem setPredReg_next {r : Nat} {c0 c1 : Bool} {s t : State} (h : setPredReg r c0 c1 s = .next t) :
    ∃ m v, t = s.later 1 (.pred m v) := by
  unfold setPredReg at h
  dsimp only at h
  split at h
  · cases h
  · cases h; exact ⟨_, _, rfl⟩

/-- A conditional operation does nothing, or acts by its jump condition. -/
theorem jumpOp_next {p : BitVec 2} {jt : BitVec 8} {f after : State → State} {s t : State}
    (h : jumpOp p jt f after s = .next t) :
    t = s ∨ ∃ c, jcond s jt = some c ∧ t = after (if c then f s else s) := by
  rcases flowOp_next h with h | ⟨_, h⟩
  · exact .inl h
  · split at h
    · cases h
    · cases h; exact .inr ⟨_, by assumption, rfl⟩

/-- A DMA start sets the channel busy, or raises dmabusy. -/
theorem dmaStart_next {r : Bool} {c : BitVec 2} {s t : State} (h : dmaStart r c s = .next t) :
    t = raise .dmabusy s ∨ t = s.setDma (s.dma.setChan c { s.dma.chan c with busy := true, isRead := r }) := by
  unfold dmaStart at h
  split at h
  · cases h
  · split at h
    · cases h; exact .inl rfl
    · cases h; exact .inr rfl

end Sys2Proof.Machine
end

