-- ==== Sys2Proof/Laws/Invariant.lean ====
section
/-! SUPPORT. The shared operations keep the machine's invariant (Safety's `State.Inv`). -/

namespace Sys2Proof.Machine

/-! ## Bits under a mask -/

theorem masked_or {n : Nat} {a b m : BitVec n} (ha : a &&& m = 0) (hb : b &&& m = 0) : (a ||| b) &&& m = 0 := by
  apply BitVec.eq_of_getLsbD_eq
  intro i hi
  have h1 := congrArg (fun v => BitVec.getLsbD v i) ha
  have h2 := congrArg (fun v => BitVec.getLsbD v i) hb
  simp at h1 h2 ⊢
  intro h
  rcases h with h | h
  · exact h1 h
  · exact h2 h

theorem masked_and {n : Nat} {a m : BitVec n} (ha : a &&& m = 0) (b : BitVec n) : (a &&& b) &&& m = 0 := by
  apply BitVec.eq_of_getLsbD_eq
  intro i hi
  have h1 := congrArg (fun v => BitVec.getLsbD v i) ha
  simp at h1 ⊢
  intro h _
  exact h1 h

theorem masked_self {n : Nat} (a w : BitVec n) : (a &&& w) &&& ~~~w = 0 := by
  apply BitVec.eq_of_getLsbD_eq
  intro i hi
  simp
  intros
  assumption

theorem masked_blend {n : Nat} {a w : BitVec n} (ha : a &&& ~~~w = 0) (m v : BitVec n) :
    blend a (m &&& w) v &&& ~~~w = 0 := by
  refine masked_or (masked_and ha _) ?_
  apply BitVec.eq_of_getLsbD_eq
  intro i hi
  simp
  intros
  assumption

/-! ## What the invariant reads -/

/-- What the invariant reads of a state. -/
def State.invPart (s : State) :
    Mem × BitVec 16 × BitVec 16 × BitVec 32 × BitVec 32 × Bool × Bool × Vector (BitVec 32) 8 :=
  (s.mem, s.regs.cond, s.regs.pred, s.regs.mask, s.regs.exception, s.mode.allfatal, s.mode.nonefatal, s.pmu.mapped)

/-- A state that agrees on what the invariant reads has it too. -/
theorem State.Inv.congr {s t : State} (h : s.Inv) (e : t.invPart = s.invPart) : t.Inv := by
  simp only [State.invPart, Prod.mk.injEq] at e
  obtain ⟨e1, e2, e3, e4, e5, e6, e7, e8⟩ := e
  obtain ⟨h1, h2, h3, h4, h5, h6, h7⟩ := h
  refine ⟨e1 ▸ h1, e2 ▸ h2, e3 ▸ h3, e4 ▸ h4, e5 ▸ h5, by rw [e6, e7]; exact h6, fun q => ?_⟩
  have := h7 q
  unfold Pmu.mappedAt at this ⊢
  simp only [e8]; exact this

/-- An operation that keeps the invariant wherever it goes on. -/
def Keeps (f : State → Res) : Prop := ∀ s t, s.Inv → f s = .next t → t.Inv

theorem Keeps.andThen {f g : State → Res} (hf : Keeps f) (hg : Keeps g) : Keeps (fun s => andThen (f s) g) := by
  intro s t hs h
  obtain ⟨m, h1, h2⟩ := andThen_eq_next.mp h
  exact hg m t (hf s m hs h1) h2

theorem keeps_runAll {l : List (State → Res)} (h : ∀ f ∈ l, Keeps f) : Keeps (runAll l) := fun s t hs ht =>
  runAll_keeps State.Inv h s t hs ht

/-- An update of the state that leaves alone what the invariant reads. -/
theorem keeps_of_invPart {f : State → Res} (h : ∀ s t, f s = .next t → t.invPart = s.invPart) : Keeps f :=
  fun s t hs ht => hs.congr (h s t ht)

/-! ## Exceptions, events, flags -/

theorem lineEvent_inv {s : State} (h : s.Inv) (x : Nat) : (lineEvent x s).Inv := h.congr rfl

theorem exc_bit_inside (e : Exc) : bitAt 32 e.bit &&& ~~~excBits = 0 := by cases e <;> decide

theorem raise_inv {s : State} (h : s.Inv) (e : Exc) : (raise e s).Inv := by
  cases hm : s.regs.mask.getLsbD e.bit with
  | true => rw [raise_masked hm]; exact h
  | false =>
    obtain ⟨h1, h2, h3, h4, h5, h6, h7⟩ := h
    refine ⟨by simpa using h1, by simpa using h2, by simpa using h3, by simpa using h4, ?_, by simpa using h6,
      by simpa using h7⟩
    rw [raise_exception hm]
    exact masked_or h5 (exc_bit_inside e)

theorem raiseIf_inv {s : State} (h : s.Inv) (b : Bool) (e : Exc) : (raiseIf b e s).Inv := by
  cases b
  · exact h
  · exact raise_inv h e

theorem setCond_inv {s : State} (h : s.Inv) (m v : BitVec 16) : (s.setCond m v).Inv := by
  obtain ⟨h1, h2, h3, h4, h5, h6, h7⟩ := h
  exact ⟨h1, masked_blend h2 m v, h3, h4, h5, h6, h7⟩

theorem setPred_inv {s : State} (h : s.Inv) (m v : BitVec 16) : (s.setPred m v).Inv := by
  obtain ⟨h1, h2, h3, h4, h5, h6, h7⟩ := h
  refine ⟨h1, h2, ?_, h4, h5, h6, h7⟩
  simp only [State.setPred, State.setRegs, blend, BitVec.getLsbD_or, BitVec.getLsbD_and, h3]
  simp

theorem clearRead_inv {s : State} (h : s.Inv) (c : BitVec 3) : (clearRead c s).Inv := by
  obtain ⟨h1, h2, h3, h4, h5, h6, h7⟩ := h
  refine ⟨h1, h2, h3, h4, ?_, h6, h7⟩
  simp only [clearRead, State.setRegs]
  split
  · exact masked_and h5 _
  · exact h5

theorem readClear_inv {s : State} (h : s.Inv) (a : BitVec 7) : (readClear a s).Inv := by
  have := clearRead_inv h (clearBit a)
  unfold readClear drawRead
  split
  · exact this.congr rfl
  · exact this

theorem readMark_invPart (a : BitVec 7) (s : State) : (readMark a s).invPart = s.invPart := by
  unfold readMark drawRead
  split <;> rfl

/-! ## Memory -/

theorem setMem_inv {s : State} (h : s.Inv) {m : Mem} (hm : m.wf) : (s.setMem m).Inv :=
  ⟨hm, h.cond, h.pred, h.mask, h.exception, h.override, h.mapped⟩

theorem watchWrite_inv {s : State} (h : s.Inv) (a : Nat) : (watchWrite a s).Inv := by
  unfold watchWrite
  split
  · split
    · exact h.congr rfl
    · exact lineEvent_inv h 5
  · exact h

theorem dmStore_inv {s : State} (h : s.Inv) (p : MemPort) (a : Nat) (v : Word40) : (dmStore p a v s).Inv := by
  refine watchWrite_inv ?_ a
  exact (setMem_inv h (Mem.setDm_wf h.mem a v)).congr rfl

theorem pmLoad_inv {s : State} (h : s.Inv) (p k : Nat) (v : BitVec 32) : (pmLoad p k v s).Inv :=
  (setMem_inv h (Mem.setPmPart_wf h.mem p k v)).congr rfl

/-! ## Issues -/

theorem latch_invPart (i : Issue) (o : Option OpOut) (s : State) : (latch i o s).invPart = s.invPart := by
  cases i <;> rfl

theorem keeps_pairOp (i : Issue) (lat : Nat) (p : BitVec 2) (l : List (BitVec 8)) (f : State → PairOut) :
    Keeps (pairOp i lat p l f) := keeps_of_invPart fun s t h => by
  rcases pairOp_next h with ⟨_, _, rfl⟩ | ⟨_, _, rfl⟩
  · rfl
  · unfold schedulePair; rw [latch_invPart]; rfl

theorem keeps_scalarOp (i : Issue) (lat : Nat) (p : BitVec 2) (f : State → ScalarOut) : Keeps (scalarOp i lat p f) :=
  keeps_of_invPart fun s t h => by
    rcases scalarOp_next h with ⟨_, _, rfl⟩ | ⟨_, _, rfl⟩
    · unfold scheduleScalar; rw [latch_invPart]; rfl
    · rfl

theorem keeps_pairCompare (p : BitVec 2) (l : List (BitVec 8)) (f : State → Bool × Bool) : Keeps (pairCompare p l f) :=
  keeps_of_invPart fun s t h => by rcases pairCompare_next h with rfl | rfl <;> rfl

theorem keeps_scalarCompare (p : BitVec 2) (f : State → Bool) : Keeps (scalarCompare p f) :=
  keeps_of_invPart fun s t h => by rcases scalarCompare_next h with rfl | rfl <;> rfl

theorem keeps_aguAccess {u : AguUnit} {vec rf : Bool} {m : AguMode} {p : BitVec 2} {x : BitVec 4}
    {data : Gate → BitVec 16 → State → Res} (hd : ∀ g a s t, data g a s = .next t → t.invPart = s.invPart) :
    Keeps (aguAccess u vec rf m p x data) := by
  intro s t hs h
  rcases aguAccess_next h with ⟨_, rfl⟩ | ⟨b0, b1, rfl⟩ | ⟨_, h⟩
  · exact hs
  · exact raiseIf_inv (raiseIf_inv hs _ _) _ _
  · exact hs.congr ((hd _ _ _ _ h).trans rfl)

theorem readRf_invPart {u : AguUnit} {q : RfPort} {vec : Bool} {n : BitVec 8} {g : Gate} {a : BitVec 16} {s t : State}
    (h : readRf u q vec n g a s = .next t) : t.invPart = s.invPart := by rw [readRf_next h]; rfl

theorem readFirst_invPart {vec : Bool} {a : BitVec 7} {ad : BitVec 16} {s t : State}
    (h : readFirst vec a ad s = .next t) : t.invPart = s.invPart := by
  obtain ⟨d, rfl⟩ := readFirst_next h; rfl

theorem storeResult_invPart {u : AguUnit} {vec : Bool} {o : Option OpOut} {g : Gate} {a : BitVec 16} {s t : State}
    (h : storeResult u vec o g a s = .next t) : t.invPart = s.invPart := by
  rcases storeResult_next h with rfl | ⟨r, _, _, rfl⟩ <;> rfl

theorem storeFirst_invPart {vec : Bool} {a : BitVec 7} {ad : BitVec 16} {s t : State}
    (h : storeFirst vec a ad s = .next t) : t.invPart = s.invPart := by
  rcases storeFirst_next h with ⟨e0, e1, rfl⟩ | ⟨e0, rfl⟩
  · rfl
  · exact Eq.trans rfl (readMark_invPart a s)

theorem keeps_agu0Read (vec : Bool) (m : AguMode) (p : BitVec 2) (x : BitVec 4) (r : BitVec 9) :
    Keeps (agu0Read vec m p x r) := keeps_aguAccess fun g a s t h => by
  split at h
  · exact readRf_invPart h
  · split at h
    · cases h
    · exact readFirst_invPart h

theorem keeps_agu1Read (vec : Bool) (m : AguMode) (p : BitVec 2) (x : BitVec 4) (r : BitVec 8) :
    Keeps (agu1Read vec m p x r) := keeps_aguAccess fun _ _ _ _ h => readRf_invPart h

theorem keeps_agu0Write (vec : Bool) (m : AguMode) (p : BitVec 2) (x : BitVec 4) (r : BitVec 9) :
    Keeps (agu0Write vec m p x r) := keeps_aguAccess fun g a s t h => by
  split at h
  · exact storeFirst_invPart h
  · exact storeResult_invPart h

theorem keeps_agu1Write (vec : Bool) (m : AguMode) (p : BitVec 2) (x : BitVec 4) : Keeps (agu1Write vec m p x) :=
  keeps_aguAccess fun _ _ _ _ h => storeResult_invPart h

theorem keeps_aguArith (u : AguUnit) (p : BitVec 2) (x : BitVec 4) (f : AguIn → AguOut) : Keeps (aguArith u p x f) := by
  intro s t hs h
  rcases aguArith_next h with rfl | rfl
  · exact hs
  · exact (raiseIf_inv hs (f (aguIn s u x)).ovf (aovfExc u)).congr rfl

theorem keeps_moveScalar {p : BitVec 2} {d : BitVec 9} {lat : Nat} {src : Option MoveClass} {bad : Option Refusal}
    {val : State → Word40} {after : State → State} (ha : ∀ s, (after s).invPart = s.invPart) :
    Keeps (moveScalar p d lat src bad val after) := keeps_of_invPart fun s t h => by
  rcases moveScalar_next h with rfl | rfl | rfl
  · rfl
  · exact Eq.trans rfl (ha s)
  · exact Eq.trans rfl (ha s)

theorem keeps_moveVector (p : BitVec 2) (d : BitVec 9) (lat : Nat) (bad : Option Refusal) (val : State → Word40 × Word40) :
    Keeps (moveVector p d lat bad val) := keeps_of_invPart fun s t h => by
  rcases moveVector_next h with rfl | rfl | ⟨k, _, rfl⟩ <;> rfl

theorem keeps_flowOp {p : BitVec 2} {f : State → Res} (hf : Keeps f) : Keeps (flowOp p f) := by
  intro s t hs h
  rcases flowOp_next h with rfl | ⟨_, h⟩
  · exact hs
  · exact hf s t hs h

theorem keeps_stackOp (p : BitVec 2) (f : State → BitVec 16 × BitVec 16) : Keeps (stackOp p f) :=
  keeps_of_invPart fun s t h => by rcases stackOp_next h with rfl | rfl <;> rfl

theorem keeps_setPredReg (r : Nat) (c0 c1 : Bool) : Keeps (setPredReg r c0 c1) := keeps_of_invPart fun s t h => by
  obtain ⟨m, v, rfl⟩ := setPredReg_next h; rfl

theorem keeps_jumpOp {p : BitVec 2} {jt : BitVec 8} {f after : State → State} (hf : ∀ s, (f s).invPart = s.invPart)
    (ha : ∀ s, (after s).invPart = s.invPart) : Keeps (jumpOp p jt f after) := keeps_of_invPart fun s t h => by
  rcases jumpOp_next h with rfl | ⟨c, _, rfl⟩
  · rfl
  · rw [ha]; split
    · exact hf s
    · rfl

theorem keeps_dmaStart (r : Bool) (c : BitVec 2) : Keeps (dmaStart r c) := by
  intro s t hs h
  rcases dmaStart_next h with rfl | rfl
  · exact raise_inv hs _
  · exact hs.congr rfl

theorem keeps_dmaSleep (r : Bool) : Keeps (dmaSleep r) := by
  intro s t hs h
  unfold dmaSleep at h
  split at h
  · cases h
  · obtain ⟨m, h1, h2⟩ := andThen_eq_next.mp h
    cases h2
    have h0 : (s.setInts (wakeCtrl (bitAt 24 (16 + 2 * s.dma.active.toNat)) s.ints)).Inv := hs.congr rfl
    exact (keeps_dmaStart _ _ _ _ h0 h1).congr rfl

theorem returnFromInterrupt_inv {s : State} (h : s.Inv) : (returnFromInterrupt s).Inv := by
  unfold returnFromInterrupt
  split
  · exact h.congr rfl
  · exact raise_inv h _

/-! ## The PMU -/

theorem setPmu_inv {s : State} (h : s.Inv) {p : Pmu} (hm : ∀ q, p.mappedAt q &&& 0x0000FF80 = 0) : (s.setPmu p).Inv :=
  ⟨h.mem, h.cond, h.pred, h.mask, h.exception, h.override, hm⟩

theorem mappedAt_setMapped (p : Pmu) (q r : BitVec 3) (d : BitVec 32) :
    (p.setMapped q d).mappedAt r = if r = q then d else p.mappedAt r := by
  unfold Pmu.setMapped Pmu.mappedAt
  by_cases h : r = q
  · subst h; simp
  · have : q.toNat ≠ r.toNat := fun e => h (BitVec.eq_of_toNat_eq e.symm)
    simp [h, this]

theorem choosePage_mapped (l : List Nat) : ∀ (p : Pmu), (choosePage l p).2.mapped = p.mapped := by
  induction l with
  | nil => intro p; rfl
  | cons i l ih =>
    intro p
    unfold choosePage
    dsimp only
    split
    · split
      · rw [ih]; rfl
      · rfl
    · rfl

theorem page_entry_inside : ∀ v : BitVec 6, (v.setWidth 32 ||| bitAt 32 6) &&& (0x0000FF80 : BitVec 32) = 0 := by decide

theorem mapPage_mapped {p : Pmu} (h : ∀ q, p.mappedAt q &&& 0x0000FF80 = 0) (q : BitVec 3) (a : BitVec 16) :
    ∀ r, (p.mapPage q a).mappedAt r &&& 0x0000FF80 = 0 := by
  intro r
  have e : (p.mapPage q a).mappedAt r = if r = q then (pageOf a).setWidth 32 ||| bitAt 32 6 else p.mappedAt r := by
    have : ∀ p1 : Pmu, p1.mapped = p.mapped →
        (p1.setMapped q ((pageOf a).setWidth 32 ||| bitAt 32 6)).mappedAt r =
          if r = q then (pageOf a).setWidth 32 ||| bitAt 32 6 else p.mappedAt r := by
      intro p1 e1
      rw [mappedAt_setMapped]
      unfold Pmu.mappedAt
      simp only [e1]
    unfold Pmu.mapPage
    dsimp only
    split
    · exact (this (p.setVirt _ _) rfl)
    · exact (this p rfl)
  rw [e]
  split
  · exact page_entry_inside (pageOf a)
  · exact h r

end Sys2Proof.Machine
end

