-- ==== Sys2Proof/Laws/Agents.lean ====
section
/-! SUPPORT. The agents of a clock cycle keep the machine's invariant: the PMU, the DMA engine, register writes, landing,
the memory ports, the AHB slave, and the ends of a core step. -/

namespace Sys2Proof.Machine

theorem setDma_inv {s : State} (h : s.Inv) (d : Dma) : (s.setDma d).Inv := h.congr rfl
theorem updInts_inv {s : State} (h : s.Inv) (f : Ints → Ints) : (s.updInts f).Inv := h.congr rfl
theorem holdSight_inv {s : State} (h : s.Inv) (a : BitVec 7) (i : Ints) : (s.holdSight a i).Inv :=
  h.congr (by simp [State.invPart])
theorem emit_inv {s : State} (h : s.Inv) (o : Out) : (s.emit o).Inv := h.congr rfl
theorem dmLoad_inv {s : State} (h : s.Inv) (p : MemPort) (a : Nat) : (dmLoad p a s).Inv := h.congr rfl

/-! ## The PMU -/

theorem startLoad_inv {s : State} (h : s.Inv) (b : Bool) (a : BitVec 16) : (startLoad b a s).Inv := by
  unfold startLoad
  split
  · exact h
  · exact h.congr rfl
  · split
    · rename_i q p heq
      refine (setPmu_inv h (p := p.mapPage q a) (mapPage_mapped (fun r => ?_) q a)).congr rfl
      have : p.mapped = s.pmu.mapped := by
        have := choosePage_mapped (List.range 16) s.pmu
        rwa [heq] at this
      have h7 := h.mapped r
      unfold Pmu.mappedAt at h7 ⊢
      simp only [this]; exact h7
    · rename_i p heq
      refine raise_inv (h.congr ?_) _
      have := choosePage_mapped (List.range 16) s.pmu
      rw [heq] at this
      have e : p.mapped = s.pmu.mapped := this
      simp [State.invPart, e]

theorem recordMiss_mapped (a : BitVec 16) (p : Pmu) : (recordMiss a p).mapped = p.mapped := by
  unfold recordMiss
  split <;> rfl

theorem fetchMiss_inv {s : State} (h : s.Inv) (a : BitVec 16) : (fetchMiss a s).Inv := by
  have h1 : (s.setPmu (recordMiss a s.pmu)).Inv := h.congr (by simp [State.invPart, recordMiss_mapped])
  unfold fetchMiss
  dsimp only
  split
  · exact h1
  · exact startLoad_inv h1 _ _

theorem prefetchAt_inv {s : State} (h : s.Inv) (a : BitVec 16) : (prefetchAt a s).Inv := by
  unfold prefetchAt
  split
  · exact h
  · exact startLoad_inv h _ _

theorem keeps_pmuCommand (c : BitVec 2) : Keeps (pmuCommand c) := by
  intro s t hs h
  unfold pmuCommand at h
  split at h
  · cases h; exact hs
  · split at h
    · cases h; exact hs.congr rfl
    · split at h
      · cases h; exact hs.congr rfl
      · cases h

theorem touchPage_inv {s : State} (h : s.Inv) (a : BitVec 16) : (touchPage a s).Inv := by
  unfold touchPage
  split
  · exact h.congr rfl
  · exact h

theorem chunk_bit_inside : ∀ c : BitVec 4, bitAt 32 (16 + c.toNat) &&& (0x0000FF80 : BitVec 32) = 0 := by decide

theorem loaded_inv {s : State} (h : s.Inv) (j : PmuJob) : (s.setPmu (s.pmu.loaded j)).Inv := by
  refine State.Inv.congr (setPmu_inv h (p := Pmu.setMapped _ j.page (Pmu.mappedAt _ j.page ||| _)) fun q => ?_) rfl
  rw [mappedAt_setMapped]
  split
  · exact masked_or (h.mapped _) (chunk_bit_inside _)
  · exact h.mapped q

theorem pmuSoftReset_inv {s : State} (h : s.Inv) : (pmuSoftReset s).Inv := h.congr rfl

theorem keeps_pmuCtl (w : BitVec 32) : Keeps (pmuCtl w) := by
  intro s t hs h
  unfold pmuCtl at h
  split at h
  · cases h
  · cases h
    have h1 : (if w.getLsbD 0 then pmuSoftReset s else s).Inv := by
      split
      · exact pmuSoftReset_inv hs
      · exact hs
    generalize (if w.getLsbD 0 then pmuSoftReset s else s) = u at h1
    exact h1.congr rfl

/-! ## The DMA engine -/

theorem keeps_dmaRegWrite (a : Nat) (v : BitVec 32) : Keeps (dmaRegWrite a v) := by
  intro s t hs h
  unfold dmaRegWrite at h
  split at h
  · cases h
  · split at h
    · cases h; exact raise_inv hs _
    · cases h; exact hs.congr rfl

theorem abortChannel_invPart (c : BitVec 2) (s : State) : (abortChannel c s).invPart = s.invPart := by
  unfold abortChannel
  split <;> rfl

theorem dmaFlags_invPart (w : BitVec 32) (s : State) : (dmaFlags w s).invPart = s.invPart := by
  have h : (dmaAborts w (s.setDma (s.dma.lockEot w))).invPart = s.invPart := by
    unfold dmaAborts
    split
    · simp only [abortChannel_invPart]; rfl
    · split
      · simp only [abortChannel_invPart]; rfl
      · rfl
  exact Eq.trans rfl h

theorem keeps_dmaCtrl (c : Bool) (w : BitVec 32) : Keeps (dmaCtrl c w) := by
  intro s t hs h
  unfold dmaCtrl at h
  dsimp only at h
  split at h
  · cases h
  · split at h
    · cases h
    · split at h
      · cases h
      · obtain ⟨s3, h3, h⟩ := andThen_eq_next.mp h
        obtain ⟨s4, h4, h⟩ := andThen_eq_next.mp h
        have h0 : (if c then s.setCond (bitAt 16 10) (flag 16 10 (dmaWat (dmaStat s) w)) else s).Inv := by
          split
          · exact setCond_inv hs _ _
          · exact hs
        have h2 := h0.congr (dmaFlags_invPart w _)
        have i3 : s3.Inv := by
          split at h3
          · exact keeps_dmaStart _ _ _ _ h2 h3
          · cases h3; exact h2
        have i4 : s4.Inv := by
          split at h4
          · exact keeps_dmaStart _ _ _ _ i3 h4
          · cases h4; exact i3
        cases h
        split
        · exact i4.congr rfl
        · exact i4

theorem dmaFail_inv {s : State} (h : s.Inv) (x : BitVec 2) : (dmaFail x s).Inv := raise_inv (setDma_inv h _) _

theorem dmaEot_inv {s : State} (h : s.Inv) (x : BitVec 2) : (dmaEot x s).Inv := by
  exact h.congr rfl

/-- All a program memory write of the engine can do (R195). -/
theorem pmStore_eq_next {p k : Nat} {v : BitVec 32} {s t : State} :
    pmStore p k v s = .next t ↔ nearPc s p = false ∧ t = pmLoad p k v s := by
  unfold pmStore
  cases nearPc s p <;> simp [eq_comm]

theorem keeps_pmStore (p k : Nat) (v : BitVec 32) : Keeps (pmStore p k v) := by
  intro s t hs h
  rw [(pmStore_eq_next.mp h).2]
  exact pmLoad_inv hs _ _ _

theorem keeps_dmaStoreWord (seg : BitVec 4) (ia : BitVec 16) (part : Nat) (v : BitVec 32) :
    Keeps (dmaStoreWord seg ia part v) := by
  intro s t hs h
  unfold dmaStoreWord at h
  split at h
  · exact keeps_pmStore _ _ _ _ _ hs h
  · dsimp only at h
    split at h
    · cases h
    · cases h; exact dmStore_inv hs _ _ _

theorem keeps_dmaWord (x : BitVec 2) (r : BusReply) : Keeps (dmaWord x r) := by
  intro s t hs h
  have fin : ∀ s' : State, s'.Inv → ∀ d : Dma,
      (if (s'.setDma d).dma.curLen = 0 then dmaEot x (s'.setDma d) else s'.setDma d).Inv := by
    intro s' h' d
    split
    · exact dmaEot_inv (setDma_inv h' d) x
    · exact setDma_inv h' d
  unfold dmaWord at h
  dsimp only at h
  split at h
  · cases h
  · split at h
    · split at h
      · obtain ⟨m, h1, h2⟩ := andThen_eq_next.mp h
        cases h2
        exact fin m (keeps_dmaStoreWord _ _ _ _ _ _ (emit_inv hs _) h1) _
      · cases h; exact dmaFail_inv (emit_inv hs _) x
    · split at h
      · cases h
      · split at h
        · cases h
          refine fin _ ?_ _
          split
          · exact hs.congr rfl
          · exact hs.congr rfl
        · cases h
          refine dmaFail_inv ?_ x
          split
          · exact hs.congr rfl
          · exact hs.congr rfl

theorem keeps_dmaPick (x : BitVec 2) : Keeps (dmaPick x) := by
  intro s t hs h
  unfold dmaPick at h
  dsimp only at h
  repeat' split at h
  all_goals first
    | (cases h; done)
    | (cases h; exact dmaFail_inv (setDma_inv hs _) x)
    | (cases h; exact setDma_inv hs _)

theorem keeps_dmaNext : Keeps dmaNext := by
  intro s t hs h
  unfold dmaNext at h
  split at h
  · exact keeps_dmaPick _ _ _ hs h
  · cases h; exact hs

theorem keeps_chunkWord (j : PmuJob) (r : BusReply) : Keeps (chunkWord j r) := by
  intro s t hs h
  have h1 : (s.emit (.busRead s.dma.curExt)).Inv := hs.congr rfl
  unfold chunkWord at h
  dsimp only at h
  split at h
  · obtain ⟨s2, e2, e3⟩ := andThen_eq_next.mp h
    have h2 := keeps_pmStore _ _ _ _ _ h1 e2
    cases e3
    split
    · exact loaded_inv (setDma_inv h2 _) j
    · exact setDma_inv h2 _
  · cases h
    refine raise_inv ?_ _
    exact h1.congr rfl

theorem keeps_dmaReady : Keeps dmaReady := by
  intro s t hs h
  unfold dmaReady at h
  repeat' split at h
  all_goals first
    | exact keeps_dmaNext _ _ hs h
    | (cases h; exact hs.congr rfl)

theorem keeps_dmaMove (r : BusReply) : Keeps (dmaMove r) := by
  intro s t hs h
  unfold dmaMove at h
  split at h
  · exact keeps_dmaWord _ _ _ _ hs h
  · exact keeps_chunkWord _ _ _ _ hs h
  · cases h; exact hs

theorem keeps_dmaMoves (l : List BusReply) : Keeps (dmaMoves l) := by
  induction l with
  | nil => intro s t hs h; cases h; exact hs
  | cons r l ih =>
    refine keeps_dmaReady.andThen fun s t hs h => ?_
    split at h
    · cases h; exact hs
    · exact (keeps_dmaMove r).andThen ih s t hs h

theorem keeps_dmaCycle : Keeps dmaCycle := by
  intro s t hs h
  unfold dmaCycle at h
  split at h
  · exact keeps_dmaReady _ _ hs h
  · exact keeps_dmaMoves _ _ _ hs h

/-! ## Register writes -/

theorem reset_regs_inside : Regs.reset.cond &&& ~~~condWritable = 0 ∧ Regs.reset.pred.getLsbD 15 = false ∧
    Regs.reset.mask &&& ~~~excBits = 0 ∧ Regs.reset.exception &&& ~~~excBits = 0 := by decide

theorem softReset_inv {s t : State} (h : s.Inv) (e : softReset s = .next t) : t.Inv := by
  unfold softReset at e
  split at e
  · cases e
  · cases e
    exact ⟨h.mem, reset_regs_inside.1, reset_regs_inside.2.1, reset_regs_inside.2.2.1, reset_regs_inside.2.2.2, rfl, h.mapped⟩

theorem ctrlRun_inv {s : State} (h : s.Inv) {m : Mode} (hm : (m.allfatal && m.nonefatal) = false) (w : BitVec 32)
    (b : Bool) : (ctrlRun w b (s.setMode m)).Inv := by
  have h0 : ∀ m' : Mode, m'.allfatal = m.allfatal → m'.nonefatal = m.nonefatal → (s.setMode m').Inv := fun m' e1 e2 =>
    ⟨h.mem, h.cond, h.pred, h.mask, h.exception, by rw [setMode_mode, e1, e2]; exact hm, h.mapped⟩
  have h1 : ∀ m' : Mode, (s.setMode m').Inv → ((s.setMode m').setRegs { s.regs with cond := 0 }).Inv := fun m' h' =>
    ⟨h.mem, reset_regs_inside.1, h.pred, h.mask, h.exception, h'.override, h.mapped⟩
  unfold ctrlRun
  cases w.getLsbD 2 && b <;> cases w.getLsbD 3 <;> cases w.getLsbD 4
  all_goals first
    | exact h1 _ (h0 _ rfl rfl)
    | exact h0 _ rfl rfl

/-- A write of MGCCTRL leaves the class overrides apart (R1122). -/
theorem keeps_ctrlWrite (w : BitVec 32) : Keeps (ctrlWrite w) := by
  intro s t hs h
  unfold ctrlWrite at h
  split at h
  · exact softReset_inv hs h
  · split at h
    · cases h
    · split at h
      · cases h
      · split at h
        · cases h
        · dsimp only at h
          split at h
          · cases h
          · rename_i hm
            cases h
            generalize ctrlModes w s.mode = m at hm
            have hm' : (m.allfatal && m.nonefatal) = false := by simpa using hm
            exact ctrlRun_inv hs hm' w _

theorem setWat_inv {s : State} (h : s.Inv) (w : Writer) (b : Bool) : (setWat w b s).Inv := by
  cases w
  · exact setCond_inv h _ _
  · exact h

theorem mutexStep_invRegs (b : Bool) (w : BitVec 32) (r : Regs) (n : Nat) :
    (mutexStep b w r n).1.cond = r.cond ∧ (mutexStep b w r n).1.pred = r.pred ∧ (mutexStep b w r n).1.mask = r.mask ∧
      (mutexStep b w r n).1.exception = r.exception := by
  induction n with
  | zero => exact ⟨rfl, rfl, rfl, rfl⟩
  | succ n ih =>
    unfold mutexStep
    generalize mutexStep b w r n = x at ih ⊢
    obtain ⟨r1, ok⟩ := x
    dsimp only at ih ⊢
    split
    · split <;> exact ih
    · split
      · split <;> exact ih
      · exact ih

theorem keeps_mutexWrite (who : Writer) (w : BitVec 32) : Keeps (mutexWrite who w) := by
  intro s t hs h
  unfold mutexWrite at h
  split at h
  · cases h
  · obtain ⟨e1, e2, e3, e4⟩ := mutexStep_invRegs (who == .host) w s.regs 16
    generalize mutexStep (who == .host) w s.regs 16 = x at e1 e2 e3 e4 h
    cases h
    refine setWat_inv ?_ _ _
    exact hs.congr (by simp [State.invPart, e1, e2, e3, e4])

theorem keeps_intCtrl (w : BitVec 32) : Keeps (intCtrl w) := by
  intro s t hs h
  unfold intCtrl at h
  split at h
  · cases h
  · cases h; exact updInts_inv hs _

theorem keeps_intSetReset (w : BitVec 16) : Keeps (intSetReset w) := by
  intro s t hs h
  unfold intSetReset at h
  split at h
  · cases h
  · cases h; exact updInts_inv hs _

theorem keeps_wakeCtrlWrite (w : BitVec 24) : Keeps (wakeCtrlWrite w) := by
  intro s t hs h
  unfold wakeCtrlWrite at h
  split at h
  · cases h
  · cases h; exact updInts_inv hs _

theorem arfWrite_invPart (a : Nat) (v : BitVec 32) (s : State) : (arfWrite a v s).invPart = s.invPart := by
  unfold arfWrite
  repeat' split
  all_goals rfl

theorem setMask_inv {s : State} (h : s.Inv) (v : BitVec 32) : (s.setRegs { s.regs with mask := v &&& excBits }).Inv :=
  ⟨h.mem, h.cond, h.pred, masked_self v excBits, h.exception, h.override, h.mapped⟩

theorem keeps_flowWrite (who : Writer) (a : Nat) (v : BitVec 32) : Keeps (flowWrite who a v) := by
  intro s t hs h
  unfold flowWrite at h
  dsimp only at h
  split at h
  · split at h
    · cases h; exact raise_inv hs _
    · exact keeps_ctrlWrite _ _ _ hs h
  · cases h; exact setWat_inv hs _ _
  · cases h; exact setMask_inv hs v
  · cases h; exact setCond_inv hs _ _
  · cases h; exact hs.congr rfl
  · split at h
    · cases h
    · cases h; exact hs.congr rfl
  · cases h; exact hs.congr rfl
  · cases h; exact hs.congr rfl
  · cases h; exact setPred_inv hs _ _
  · cases h; exact hs.congr rfl
  · cases h; exact hs.congr rfl
  · exact keeps_mutexWrite _ _ _ _ hs h
  · cases h; exact hs.congr rfl
  · cases h; exact hs.congr rfl
  · cases h; exact hs.congr rfl
  · cases h; exact hs.congr rfl
  · cases h; exact hs.congr rfl
  · cases h; exact hs

theorem keeps_sysWrite (a : Nat) (v : BitVec 32) : Keeps (sysWrite a v) := by
  intro s t hs h
  unfold sysWrite at h
  split at h
  · cases h; exact hs.congr rfl
  · cases h; exact updInts_inv hs _
  · cases h; exact hs
  · cases h; exact hs
  · exact keeps_intCtrl _ _ _ hs h
  · exact keeps_wakeCtrlWrite _ _ _ hs h
  · exact keeps_intSetReset _ _ _ hs h
  · cases h; exact updInts_inv hs _
  · cases h; exact updInts_inv hs _

theorem keeps_firstWrite (who : Writer) (a : BitVec 7) (v : BitVec 32) : Keeps (firstWrite who a v) := by
  intro s t hs h
  unfold firstWrite at h
  dsimp only at h
  repeat' split at h
  · exact keeps_flowWrite _ _ _ _ _ hs h
  · cases h; exact hs.congr (arfWrite_invPart _ _ _)
  · exact keeps_dmaRegWrite _ _ _ _ hs h
  · cases h; exact hs
  · exact keeps_dmaCtrl _ _ _ _ hs h
  · exact keeps_sysWrite _ _ _ _ hs h

/-! ## Landing -/

theorem landSticky_inv {s : State} (h : s.Inv) (b : Bool) (f : BitVec 32) : (landSticky b f s).Inv := by
  unfold landSticky
  refine raiseIf_inv (raiseIf_inv (raiseIf_inv ?_ _ _) _ _) _ _
  cases b <;> exact h.congr rfl

theorem landRf_invPart (w : List (BitVec 8 × Word40)) : ∀ s : State,
    (w.foldl (fun s x => s.setRf x.1 x.2) s).invPart = s.invPart := by
  induction w with
  | nil => intro s; rfl
  | cons x w ih => intro s; exact (ih _).trans rfl

theorem landEffect_inv {s : State} (h : s.Inv) (e : Effect) : (landEffect e s).Inv := by
  cases e with
  | rf q w => exact h.congr (landRf_invPart w s)
  | aguA u k v => exact h.congr rfl
  | aguTmp u v => cases u <;> exact h.congr rfl
  | cond m v => exact setCond_inv h _ _
  | sticky b f => exact landSticky_inv h b f
  | stkiq v => exact h.congr rfl
  | pred m v => exact setPred_inv h _ _
  | stk v => exact h.congr rfl
  | rept v => exact h.congr rfl
  | swpipe b k v => exact h.congr rfl
  | move a v soon => exact h
  | moveArf k v0 v1 => exact h

theorem landEffects_fold_inv (es : List Effect) : ∀ {s : State}, s.Inv →
    (es.foldl (fun s e => landEffect e s) s).Inv := by
  induction es with
  | nil => intro s h; exact h
  | cons e es ih => intro s h; exact ih (landEffect_inv h e)

theorem keeps_landMove (e : Effect) : Keeps (landMove e) := by
  intro s t hs h
  unfold landMove at h
  split at h
  · rw [andThen_eq_next] at h
    obtain ⟨m, h1, h2⟩ := h
    cases h2
    have hm := keeps_firstWrite _ _ _ _ _ hs h1
    split
    · exact holdSight_inv hm _ _
    · exact hm
  · cases h; exact hs.congr rfl
  · cases h; exact hs

/-- The service point of the core step in which a movement of latency 1 toward a register of R1082 lands sees what it saw before
it. -/
theorem landMove_sight {a : BitVec 7} {v : Word40} {s t : State} (ha : heldRegister a = true)
    (h : landMove (.move a v true) s = .next t) : t.sight = s.sight := by
  unfold landMove at h
  rw [andThen_eq_next] at h
  obtain ⟨m, -, h2⟩ := h
  cases h2
  rw [if_pos rfl, holdSight_sight, if_pos ha]

/-- A movement of another latency is the register write alone. -/
theorem landMove_late (a : BitVec 7) (v : Word40) (s : State) :
    landMove (.move a v false) s = firstWrite .core a (v.setWidth 32) s := by
  show andThen (firstWrite .core a (v.setWidth 32) s) (fun t => .next t) = _
  cases firstWrite .core a (v.setWidth 32) s <;> rfl

theorem scramble_inv {s : State} (h : s.Inv) (es ms : List Effect) : (scramble es ms s).Inv := by
  have step : ∀ (b : Bool) (u v : State), v.Inv → (v.Inv → u.Inv) → (if b then u else v).Inv := by
    intro b u v hv hu
    cases b
    · exact hv
    · exact hu hv
  unfold scramble
  refine step _ _ _ ?_ fun h => h.congr rfl
  refine step _ _ _ ?_ fun h => h.congr rfl
  refine step _ _ _ ?_ fun h => h.congr rfl
  refine step _ _ _ ?_ fun h => h.congr rfl
  refine step _ _ _ ?_ fun h => (setPred_inv h _ _).congr rfl
  refine step _ _ _ h fun h => (setCond_inv h _ _).congr rfl

theorem oneOf_inv {s : State} (h : s.Inv) (p : Effect → Bool) (e : Exc) (es : List Effect) : (oneOf p e es s).2.Inv := by
  unfold oneOf
  split
  · exact raise_inv h e
  · exact h

theorem oneOf_few {p : Effect → Bool} {e : Exc} {es : List Effect} (s : State) (h : (es.filter p).length ≤ 1) :
    oneOf p e es s = (es, s) := if_neg (by omega)

/-- A landing in which no port and no register class meets twice: no exception of R337, then the checks of U1, U19 and U21. -/
theorem landEffects_plain {es : List Effect} (s : State) (h7 : (es.filter (Effect.onPort .p7)).length ≤ 1)
    (h5 : (es.filter (Effect.onPort .p5)).length ≤ 1)
    (hm : ∀ c, (es.filter (fun e => e.moveClass == some c)).length ≤ 1) :
    landEffects es s =
      (let ops := es.filter (fun e => e.moveClass.isNone)
       let moves := es.filter (fun e => e.moveClass.isSome)
       if rfClash (ops.flatMap Effect.rfWrites) then .fault .rfDoubleWrite
       else if arfClash es then .refused .arfFieldTwice
       else if movesTo moves 0x70 && ops.any (fun e => match e with | .stkiq _ => true | _ => false) then .refused .moveStkiq
       else
         let byClass := fun c => moves.filter (fun e => e.moveClass == some c)
         andThen (runAll ((byClass .arf ++ byClass .dma).map landMove) (ops.foldl (fun s e => landEffect e s) s)) fun s1 =>
         andThen (runAll ((byClass .flow).map landMove) s1) fun s2 => .next (if s2.resetNow then s2 else scramble ops moves s2)) := by
  unfold landEffects
  rw [oneOf_few s h7]; dsimp only
  rw [oneOf_few s h5]; dsimp only
  rw [oneOf_few s (hm _)]; dsimp only
  rw [oneOf_few s (hm _)]; dsimp only
  rewrite [oneOf_few s (hm _)]
  rfl

theorem keeps_landEffects (es : List Effect) : Keeps (landEffects es) := by
  intro s t hs h
  unfold landEffects at h
  dsimp only at h
  split at h
  · cases h
  · split at h
    · cases h
    · split at h
      · cases h
      · obtain ⟨s7, h7, h⟩ := andThen_eq_next.mp h
        obtain ⟨s8, h8, h⟩ := andThen_eq_next.mp h
        have km : ∀ l : List Effect, ∀ f ∈ l.map landMove, Keeps f := by
          intro l f hf
          obtain ⟨e, _, rfl⟩ := List.mem_map.mp hf
          exact keeps_landMove e
        have i7 := keeps_runAll (km _) _ _ (landEffects_fold_inv _ (oneOf_inv (oneOf_inv (oneOf_inv (oneOf_inv
          (oneOf_inv hs _ _ _) _ _ _) _ _ _) _ _ _) _ _ _)) h7
        have i8 := keeps_runAll (km _) _ _ i7 h8
        cases h
        split
        · exact i8
        · exact scramble_inv i8 _ _

/-! ## Memory ports -/

theorem doWrites_inv (p : MemPort) (w : List (Nat × Word40)) : ∀ {s : State}, s.Inv →
    (w.foldl (fun s w => dmStore p w.1 w.2 s) s).Inv := by
  induction w with
  | nil => intro s h; exact h
  | cons x w ih => intro s h; exact ih (dmStore_inv h p x.1 x.2)

theorem doPort_inv {s : State} (h : s.Inv) (u : AguUnit) (o : PortOp) : (doPort u o s).Inv := by
  cases o with
  | read a vec d =>
    have h2 : (if vec then dmLoad (portOf u) (a.toNat + 1) (dmLoad (portOf u) a.toNat s)
        else dmLoad (portOf u) a.toNat s).Inv := by
      split
      · exact dmLoad_inv (dmLoad_inv h _ _) _ _
      · exact dmLoad_inv h _ _
    unfold doPort
    dsimp only
    split
    · exact h2
    · exact h2.congr rfl
  | write a e0 e1 => exact doWrites_inv _ _ h

theorem failWrites_inv {s : State} (h : s.Inv) (ws : List Nat) (o : PortOp) : (failWrites ws o s).Inv := h.congr rfl

theorem unitPort_inv {s t : State} {u : AguUnit} {due : List PortEntry} {o : Option PortOp} (h : s.Inv)
    (e : unitPort u due s = .ok (o, t)) : t.Inv := by
  unfold unitPort at e
  dsimp only at e
  split at e
  · cases e
  · split at e
    · cases e; exact raise_inv h _
    · cases e; exact h

theorem keeps_doPorts (o0 o1 : Option PortOp) : Keeps (doPorts o0 o1) := by
  intro s t hs h
  unfold doPorts at h
  split at h
  · cases h; exact hs
  · cases h; exact doPort_inv hs _ _
  · cases h; exact doPort_inv hs _ _
  · dsimp only at h
    split at h
    · cases h
    · split at h
      · cases h; exact doPort_inv (failWrites_inv (doPort_inv (raise_inv hs _) _ _) _ _) _ _
      · cases h; exact doPort_inv (doPort_inv hs _ _) _ _

theorem keeps_landPorts (due : List PortEntry) : Keeps (landPorts due) := by
  intro s t hs h
  unfold landPorts at h
  split at h
  · cases h
  · rename_i o0 s1 h1
    split at h
    · cases h
    · rename_i o1 s2 h2
      exact keeps_doPorts _ _ _ _ (unitPort_inv (unitPort_inv hs h1) h2) h

theorem keeps_land : Keeps land := by
  intro s t hs h
  unfold land at h
  dsimp only at h
  obtain ⟨m, h1, h2⟩ := andThen_eq_next.mp h
  have i1 := by
    refine keeps_landEffects _ _ _ ?_ h1
    exact hs.congr rfl
  split at h2
  · cases h2; exact i1
  · exact keeps_landPorts _ _ _ i1 h2

/-! ## The AHB slave and the resets -/

theorem reset_mapped : ∀ q : BitVec 3, State.reset.pmu.mappedAt q &&& 0x0000FF80 = 0 := by decide

theorem hardReset_inv (s : State) : (hardReset s).Inv :=
  ⟨⟨List.Pairwise.nil, fun _ h => nomatch h⟩, reset_regs_inside.1, reset_regs_inside.2.1, reset_regs_inside.2.2.1,
    reset_regs_inside.2.2.2, rfl, reset_mapped⟩

theorem slaveFail_inv {s : State} (h : s.Inv) : (slaveFail s).Inv := emit_inv (raise_inv h _) _

theorem keeps_slavePm (p k : Nat) (wd : Option (BitVec 32)) : Keeps (slavePm p k wd) := by
  intro s t hs h
  unfold slavePm at h
  split at h
  · cases h; exact emit_inv hs _
  · split at h
    · cases h
    · cases h
      refine emit_inv ?_ _
      exact (setMem_inv hs (Mem.setPmPart_wf hs.mem p k _)).congr rfl

theorem keeps_pmuRegWrite (off : Nat) (v : BitVec 32) : Keeps (pmuRegWrite off v) := by
  intro s t hs h
  unfold pmuRegWrite at h
  dsimp only at h
  repeat' split at h
  · cases h; exact hs.congr rfl
  · cases h
    refine setPmu_inv hs fun q => ?_
    rw [mappedAt_setMapped]
    split
    · have : (0xFFFF007F : BitVec 32) &&& 0x0000FF80 = 0 := by decide
      rw [BitVec.and_assoc, this]
      exact BitVec.and_zero
    · exact hs.mapped q
  · cases h; exact hs.congr rfl
  · cases h; exact hs.congr rfl
  · exact keeps_pmuCtl _ _ _ hs h
  · cases h; exact hs.congr rfl
  · cases h; exact hs.congr rfl

theorem keeps_slaveReg (off : Nat) (wd : Option (BitVec 32)) : Keeps (slaveReg off wd) := by
  intro s t hs h
  unfold slaveReg at h
  split at h
  · dsimp only at h
    repeat' split at h
    · cases h; exact emit_inv (readClear_inv hs _) _
    · cases h; exact emit_inv hs _
    · cases h; exact emit_inv hs _
    · cases h; exact emit_inv hs _
    · cases h; exact emit_inv hs _
    · cases h; exact hs.congr rfl
    · cases h; exact slaveFail_inv hs
  · split at h
    · obtain ⟨m, h1, h2⟩ := andThen_eq_next.mp h
      cases h2
      exact emit_inv (keeps_firstWrite _ _ _ _ _ hs h1) _
    · split at h
      · obtain ⟨m, h1, h2⟩ := andThen_eq_next.mp h
        cases h2
        exact emit_inv (keeps_pmuRegWrite _ _ _ _ hs h1) _
      · split at h
        · cases h; exact emit_inv hs _
        · split at h
          · cases h
            refine emit_inv ?_ _
            split
            · exact hardReset_inv s
            · exact hs
          · cases h; exact slaveFail_inv hs

theorem keeps_slaveEarly : Keeps slaveEarly := by
  intro s t hs h
  unfold slaveEarly at h
  split at h
  · cases h; exact hs
  · dsimp only at h
    repeat' split at h
    · cases h; exact slaveFail_inv hs
    · exact keeps_slavePm _ _ _ _ _ hs h
    · exact keeps_slaveReg _ _ _ _ hs h
    · cases h; exact hs
    · cases h; exact slaveFail_inv hs

theorem keeps_slaveLate : Keeps slaveLate := by
  intro s t hs h
  unfold slaveLate at h
  split at h
  · cases h; exact hs
  · split at h
    · cases h; exact hs
    · split at h
      · cases h; exact hs
      · split at h
        · split at h
          · cases h
          · cases h; exact emit_inv hs _
          · cases h; exact emit_inv (dmStore_inv hs _ _ _) _
        · split at h
          · cases h
          · cases h; exact emit_inv (dmLoad_inv hs _ _) _
          · cases h; exact emit_inv (dmLoad_inv hs _ _) _

/-! ## The ends of a core step -/

theorem eventIf_inv {s : State} (h : s.Inv) (b : Bool) (x : Nat) : (eventIf b x s).Inv := by
  cases b
  · exact h
  · exact lineEvent_inv h x

theorem inputLines_inv {s : State} (h : s.Inv) : (inputLines s).Inv := by
  have h0 : (if s.inp.reset then hardReset s else s).Inv := by
    split
    · exact hardReset_inv s
    · exact h
  unfold inputLines
  refine eventIf_inv (eventIf_inv (eventIf_inv (eventIf_inv ?_ _ _) _ _) _ _) _ _
  generalize (if s.inp.reset = true then hardReset s else s) = s0 at h0
  dsimp only
  split
  · exact h0.congr rfl
  · exact h0.congr rfl

theorem raiseUnknown_inv {s : State} (h : s.Inv) (d : Slots) : (raiseUnknown d s).Inv :=
  raiseIf_inv (raiseIf_inv (raiseIf_inv (raiseIf_inv h _ _) _ _) _ _) _ _

/-! With BRANCH_DELAY_SLOTS = 0 (D2) a transfer and an interrupt entry take effect with the next bundle. -/

theorem taken_own (s : State) : taken s = s.npc := by
  unfold taken dueOf
  cases s.npc <;> rfl

theorem servedLine_own (l : Option (Fin 8)) (s : State) : servedLine l s = if s.svc then l else none := by
  simp [servedLine, Config.branchDelaySlots]

theorem shiftTurns_turns (l : Option (Fin 8)) (s : State) : (shiftTurns l s).turns = [] := rfl

theorem serve_own (l : Option (Fin 8)) (s : State) :
    serve l s = if s.svc then (match l with | some x => enterInterrupt x s.regs.pc s | none => s) else s := by
  have h : ∀ o : Option (Fin 8), dueOf Config.branchDelaySlots o (s.turns.map Turn.line) = o := by
    intro o; cases o <;> rfl
  unfold serve
  rw [h, servedLine_own]
  cases s.svc <;> rfl

theorem advancePc_invPart (s : State) : (advancePc s).invPart = s.invPart := by
  unfold advancePc
  dsimp only
  repeat' split
  all_goals rfl

theorem serve_invPart (l : Option (Fin 8)) (s : State) : (serve l s).invPart = s.invPart := by
  unfold serve
  repeat' split
  all_goals rfl

theorem endBundle_inv {s : State} (h : s.Inv) (d : Slots) (l : Option (Fin 8)) : (endBundle d l s).Inv := by
  have h1 : (raiseUnknown d (clearRead s.clears s)).Inv := raiseUnknown_inv (clearRead_inv h _) d
  refine State.Inv.congr h1 ?_
  refine Eq.trans ?_ ((serve_invPart l _).trans (advancePc_invPart _))
  unfold endBundle nextLanding freshBundle stepMode shiftTurns
  split <;> rfl

theorem parityCheck_inv {s : State} (h : s.Inv) (p : BitVec 13) : (parityCheck p s).2.Inv := by
  unfold parityCheck
  repeat' split
  · exact h.congr rfl
  · exact raise_inv h _
  · exact h

theorem latchWord_inv {s : State} (h : s.Inv) (p : BitVec 13) : (latchWord p s).Inv := by
  have h1 := touchPage_inv h s.regs.pc
  unfold latchWord
  generalize touchPage s.regs.pc s = u at h1
  generalize s.mem.pm p.toNat = w
  exact h1.congr rfl

theorem tick_inv {s : State} (h : s.Inv) (b : Bool) : (tick b s).Inv := by
  unfold tick
  split
  · dsimp only
    split
    · exact h.congr rfl
    · exact h.congr rfl
  · exact h

end Sys2Proof.Machine
end

