-- ==== Sys2Proof/Laws/Fields.lean ====
section
/-! SUPPORT. Laws of the fields of a program word: a field reads as it was set, and setting one leaves the bits outside
it alone. -/

namespace Sys2Proof

theorem getLsbD_setField {n : Nat} (w : Bundle) (lo : Nat) (v : BitVec n) (h : lo + n ≤ 128) (i : Nat) (hi : i < 128) :
    (setField w lo v).getLsbD i = if lo ≤ i ∧ i < lo + n then v.getLsbD (i - lo) else w.getLsbD i := by
  unfold setField
  by_cases h1 : lo ≤ i
  · by_cases h2 : i < lo + n
    · have h3 : i - lo < n := by omega
      have h4 : i - lo < 128 := by omega
      have h5 : ¬ i < lo := by omega
      simp [h1, h2, h3, h4, hi, h5]
    · have h3 : ¬ i - lo < n := by omega
      have h5 : ¬ i < lo := by omega
      have h6 : v.getLsbD (i - lo) = false := BitVec.getLsbD_of_ge v _ (by omega)
      simp [h2, h3, hi, h5, h6]
  · have h5 : i < lo := by omega
    simp [h1, h5, hi]

/-- A field reads as it was set. -/
theorem getField_setField_same {n : Nat} (w : Bundle) (lo : Nat) (v : BitVec n) (h : lo + n ≤ 128) :
    getField (setField w lo v) lo n = v := by
  apply BitVec.eq_of_getLsbD_eq
  intro i hi
  rw [getField, BitVec.getLsbD_extractLsb', getLsbD_setField w lo v h _ (by omega)]
  simp [hi]

/-- A field apart from the one that is set is unchanged. -/
theorem getField_setField_apart {n : Nat} (w : Bundle) (lo : Nat) (v : BitVec n) (h : lo + n ≤ 128) (lo' n' : Nat)
    (h' : lo' + n' ≤ 128) (hd : lo' + n' ≤ lo ∨ lo + n ≤ lo') :
    getField (setField w lo v) lo' n' = getField w lo' n' := by
  apply BitVec.eq_of_getLsbD_eq
  intro i hi
  rw [getField, getField, BitVec.getLsbD_extractLsb', BitVec.getLsbD_extractLsb',
    getLsbD_setField w lo v h _ (by omega)]
  have : ¬ (lo ≤ lo' + i ∧ lo' + i < lo + n) := by omega
  simp [this]

/-- A smaller field inside the one that is set. -/
theorem getField_setField_inside {n : Nat} (w : Bundle) (lo : Nat) (v : BitVec n) (h : lo + n ≤ 128) (lo' n' : Nat)
    (h1 : lo ≤ lo') (h2 : lo' + n' ≤ lo + n) :
    getField (setField w lo v) lo' n' = v.extractLsb' (lo' - lo) n' := by
  apply BitVec.eq_of_getLsbD_eq
  intro i hi
  rw [getField, BitVec.getLsbD_extractLsb', getLsbD_setField w lo v h _ (by omega), BitVec.getLsbD_extractLsb']
  have h3 : lo ≤ lo' + i ∧ lo' + i < lo + n := by omega
  have h4 : lo' + i - lo = lo' - lo + i := by omega
  simp [hi, h3, h4]

/-- A field of the no-operation word. -/
theorem getField_nopWord (lo n : Nat) : getField nopWord lo n = nopWord.extractLsb' lo n := rfl

theorem pick_cons_same {n : Nat} {α : Type} (c : BitVec n) (x : α) (t : List (BitVec n × α)) :
    pick c ((c, x) :: t) = some x := by simp [pick]

/-- What `pick` finds is in the table. -/
theorem mem_of_pick {n : Nat} {α : Type} {c : BitVec n} {x : α} {t : List (BitVec n × α)} (h : pick c t = some x) :
    (c, x) ∈ t := by
  induction t with
  | nil => simp [pick] at h
  | cons e t ih =>
    unfold pick at h
    split at h
    · rename_i h1
      obtain ⟨a, b⟩ := e
      simp only at h1
      subst h1
      simp only [Option.some.injEq] at h
      subst h
      simp
    · exact List.mem_cons_of_mem _ (ih h)

end Sys2Proof
end

