-- ==== Sys2Proof/Laws/Decode.lean ====
section
/-! SUPPORT. Laws of the decoder: a program word survives its bytes (R172), a byte list decodes as its word does, and what
each issue decodes from a word its builder made. -/

namespace Sys2Proof

open Machine (Issue)

theorem length_bytesOf (w : Bundle) : (bytesOf w).length = 16 := by simp [bytesOf]

/-- One byte put in front of the bytes above it. -/
theorem shift_byte (w : Bundle) (n : Nat) :
    ((w >>> (n + 8)) <<< 8) ||| (getField w n 8).setWidth 128 = w >>> n := by
  apply BitVec.eq_of_getLsbD_eq
  intro i hi
  simp only [getField, BitVec.getLsbD_or, BitVec.getLsbD_shiftLeft, BitVec.getLsbD_ushiftRight, BitVec.getLsbD_setWidth,
    BitVec.getLsbD_extractLsb', hi, decide_true, Bool.true_and]
  by_cases h8 : i < 8
  · simp [h8]
  · have : n + 8 + (i - 8) = n + i := by omega
    simp [h8, this]

/-- A word is what its bytes hold (R172). -/
theorem ofBytes_bytesOf (w : Bundle) : ofBytes (bytesOf w) = w := by
  have h16 : w >>> 128 = 0 := by
    apply BitVec.eq_of_getLsbD_eq
    intro i hi
    simp [BitVec.getLsbD_of_ge]
  unfold ofBytes bytesOf
  rw [show List.range 16 = [0, 1, 2, 3, 4, 5, 6, 7, 8, 9, 10, 11, 12, 13, 14, 15] from by decide]
  simp only [List.map_cons, List.map_nil, List.foldr_cons, List.foldr_nil]
  rw [← h16, shift_byte w 120, shift_byte w 112, shift_byte w 104,
    shift_byte w 96, shift_byte w 88, shift_byte w 80, shift_byte w 72,
    shift_byte w 64, shift_byte w 56, shift_byte w 48, shift_byte w 40,
    shift_byte w 32, shift_byte w 24, shift_byte w 16, shift_byte w 8,
    shift_byte w 0]
  simp

/-- The bytes of a word decode as the word does. -/
theorem decodeBytes_eq_ok {i : Issue} {w : Bundle} {x : Instr} :
    decodeBytes i (bytesOf w) = .ok x ↔ decodeIssue i w = some x := by
  unfold decodeBytes
  rw [if_pos (length_bytesOf w), ofBytes_bytesOf]
  cases decodeIssue i w <;> simp

/-! ## Words that the encoder builds -/

theorem decodeIssue_addWord (c : BitVec 7) (p : BitVec 2) (d s1 s2 : BitVec 8) :
    decodeIssue .add (addWord c p d s1 s2) =
      (pick c addTable).map (fun mk => mk { p := p, d := d, d2 := getField nopWord 96 8, s1 := s1, s2 := s2 }) := by
  simp [decodeIssue, addWord, addCmpWord, addNopWord, addCode, AddF.of, getField_setField_same, getField_setField_apart]

theorem decodeIssue_addWord2 (c : BitVec 7) (p : BitVec 2) (d1 d2 s1 s2 : BitVec 8) :
    decodeIssue .add (addWord2 c p d1 d2 s1 s2) =
      (pick c addTable).map (fun mk => mk { p := p, d := d1, d2 := d2, s1 := s1, s2 := s2 }) := by
  simp [decodeIssue, addWord2, addWord, addCmpWord, addNopWord, addCode, AddF.of, getField_setField_same,
    getField_setField_apart]

theorem decodeIssue_addCmpWord (c : BitVec 7) (p : BitVec 2) (s1 s2 : BitVec 8) :
    decodeIssue .add (addCmpWord c p s1 s2) =
      (pick c addTable).map (fun mk => mk
        { p := p, d := getField nopWord 29 8, d2 := getField nopWord 96 8, s1 := s1, s2 := s2 }) := by
  simp [decodeIssue, addCmpWord, addNopWord, addCode, AddF.of, getField_setField_same, getField_setField_apart]

theorem decodeIssue_mulWord (c : BitVec 7) (p : BitVec 2) (d s1 s2 : BitVec 8) :
    decodeIssue .mul (mulWord c p d s1 s2) =
      (pick c mulTable).map (fun mk => mk { p := p, d := d, s1 := s1, s2 := s2 }) := by
  simp [decodeIssue, mulWord, mulWord1, mulNopWord, mulCode, MulF.of, getField_setField_same, getField_setField_apart]

theorem decodeIssue_mulWord1 (c : BitVec 7) (p : BitVec 2) (d s1 : BitVec 8) :
    decodeIssue .mul (mulWord1 c p d s1) =
      (pick c mulTable).map (fun mk => mk { p := p, d := d, s1 := s1, s2 := getField nopWord 69 8 }) := by
  simp [decodeIssue, mulWord1, mulNopWord, mulCode, MulF.of, getField_setField_same, getField_setField_apart]

theorem decodeIssue_agu0Word (c : BitVec 7) (p : BitVec 2) (x : BitVec 4) (r : BitVec 9) :
    decodeIssue .agu0 (agu0Word c p x r) = (pick c agu0Table).map (fun mk => mk { p := p, x := x, rfa7 := r }) := by
  simp [decodeIssue, agu0Word, agu0Word1, agu0NopWord, agu0Code, Agu0F.of, getField_setField_same,
    getField_setField_apart]

theorem decodeIssue_agu0Word1 (c : BitVec 7) (p : BitVec 2) (x : BitVec 4) :
    decodeIssue .agu0 (agu0Word1 c p x) =
      (pick c agu0Table).map (fun mk => mk { p := p, x := x, rfa7 := getField nopWord 104 9 }) := by
  simp [decodeIssue, agu0Word1, agu0NopWord, agu0Code, Agu0F.of, getField_setField_same, getField_setField_apart]

theorem decodeIssue_agu1ReadWord (c : BitVec 7) (p : BitVec 2) (x : BitVec 4) (r : BitVec 8) :
    decodeIssue .agu1 (agu1ReadWord c p x r) = (pick c agu1Table).map (fun mk => mk { p := p, x := x, rfa5 := r }) := by
  simp [decodeIssue, agu1ReadWord, agu1Word, agu1NopWord, agu1Code, Agu1F.of, getField_setField_same,
    getField_setField_apart]

theorem decodeIssue_agu1Word (c : BitVec 7) (p : BitVec 2) (x : BitVec 4) :
    decodeIssue .agu1 (agu1Word c p x) =
      (pick c agu1Table).map (fun mk => mk { p := p, x := x, rfa5 := getField nopWord 96 8 }) := by
  simp [decodeIssue, agu1Word, agu1NopWord, agu1Code, Agu1F.of, getField_setField_same, getField_setField_apart]

/-- The FLOW issue decodes by its code alone; the fields come from the word. -/
theorem decodeIssue_flow {w : Bundle} {c : BitVec 6} (h : flowCode w = c) :
    decodeIssue .flow w = (pick c flowTable).map (fun mk => mk (FlowF.of w)) := by rw [← h]; rfl

end Sys2Proof
end

