-- ==== Sys2Proof/Laws/Meanings.lean ====
section
/-! SUPPORT. Every meaning keeps the machine's invariant, one lemma each. -/

namespace Sys2Proof.Machine

theorem keeps_moveArfSource (p : BitVec 2) (d : BitVec 9) (src : BitVec 8) : Keeps (moveArfSource p d src) := by
  intro s t hs h
  unfold moveArfSource at h
  repeat' split at h
  all_goals exact keeps_moveVector _ _ _ _ _ _ _ hs h

theorem keeps_moveImm (p : BitVec 2) (d : BitVec 9) (v : Word40) : Keeps (moveImm p d v) := fun s t hs h => by
  unfold moveImm at h
  exact keeps_moveScalar (fun _ => rfl) s t hs h

theorem execCfaddPP_keeps (p : BitVec 2) (d s1 s2 : BitVec 8) : Keeps (execCfaddPP p d s1 s2) :=
  keeps_pairOp _ _ _ _ _
theorem execCfaddPN_keeps (p : BitVec 2) (d s1 s2 : BitVec 8) : Keeps (execCfaddPN p d s1 s2) :=
  keeps_pairOp _ _ _ _ _
theorem execCfaddNN_keeps (p : BitVec 2) (d s1 s2 : BitVec 8) : Keeps (execCfaddNN p d s1 s2) :=
  keeps_pairOp _ _ _ _ _
theorem execCfaddNP_keeps (p : BitVec 2) (d s1 s2 : BitVec 8) : Keeps (execCfaddNP p d s1 s2) :=
  keeps_pairOp _ _ _ _ _
theorem execCfjaddPP_keeps (p : BitVec 2) (d s1 s2 : BitVec 8) : Keeps (execCfjaddPP p d s1 s2) :=
  keeps_pairOp _ _ _ _ _
theorem execCfjaddPN_keeps (p : BitVec 2) (d s1 s2 : BitVec 8) : Keeps (execCfjaddPN p d s1 s2) :=
  keeps_pairOp _ _ _ _ _
theorem execCfjaddNN_keeps (p : BitVec 2) (d s1 s2 : BitVec 8) : Keeps (execCfjaddNN p d s1 s2) :=
  keeps_pairOp _ _ _ _ _
theorem execCfjaddNP_keeps (p : BitVec 2) (d s1 s2 : BitVec 8) : Keeps (execCfjaddNP p d s1 s2) :=
  keeps_pairOp _ _ _ _ _
theorem execCjjaddPP_keeps (p : BitVec 2) (d s1 s2 : BitVec 8) : Keeps (execCjjaddPP p d s1 s2) :=
  keeps_pairOp _ _ _ _ _
theorem execCjjaddPN_keeps (p : BitVec 2) (d s1 s2 : BitVec 8) : Keeps (execCjjaddPN p d s1 s2) :=
  keeps_pairOp _ _ _ _ _
theorem execCjjaddNN_keeps (p : BitVec 2) (d s1 s2 : BitVec 8) : Keeps (execCjjaddNN p d s1 s2) :=
  keeps_pairOp _ _ _ _ _
theorem execCjjaddNP_keeps (p : BitVec 2) (d s1 s2 : BitVec 8) : Keeps (execCjjaddNP p d s1 s2) :=
  keeps_pairOp _ _ _ _ _
theorem execCfraddPP_keeps (p : BitVec 2) (d s1 s2 : BitVec 8) : Keeps (execCfraddPP p d s1 s2) :=
  keeps_pairOp _ _ _ _ _
theorem execCfraddPN_keeps (p : BitVec 2) (d s1 s2 : BitVec 8) : Keeps (execCfraddPN p d s1 s2) :=
  keeps_pairOp _ _ _ _ _
theorem execCfraddNN_keeps (p : BitVec 2) (d s1 s2 : BitVec 8) : Keeps (execCfraddNN p d s1 s2) :=
  keeps_pairOp _ _ _ _ _
theorem execCfraddNP_keeps (p : BitVec 2) (d s1 s2 : BitVec 8) : Keeps (execCfraddNP p d s1 s2) :=
  keeps_pairOp _ _ _ _ _
theorem execCiaddPP_keeps (p : BitVec 2) (d s1 s2 : BitVec 8) : Keeps (execCiaddPP p d s1 s2) :=
  keeps_pairOp _ _ _ _ _
theorem execCiaddPN_keeps (p : BitVec 2) (d s1 s2 : BitVec 8) : Keeps (execCiaddPN p d s1 s2) :=
  keeps_pairOp _ _ _ _ _
theorem execCiaddNN_keeps (p : BitVec 2) (d s1 s2 : BitVec 8) : Keeps (execCiaddNN p d s1 s2) :=
  keeps_pairOp _ _ _ _ _
theorem execCiaddNP_keeps (p : BitVec 2) (d s1 s2 : BitVec 8) : Keeps (execCiaddNP p d s1 s2) :=
  keeps_pairOp _ _ _ _ _
theorem execCijaddPP_keeps (p : BitVec 2) (d s1 s2 : BitVec 8) : Keeps (execCijaddPP p d s1 s2) :=
  keeps_pairOp _ _ _ _ _
theorem execCijaddPN_keeps (p : BitVec 2) (d s1 s2 : BitVec 8) : Keeps (execCijaddPN p d s1 s2) :=
  keeps_pairOp _ _ _ _ _
theorem execCijaddNN_keeps (p : BitVec 2) (d s1 s2 : BitVec 8) : Keeps (execCijaddNN p d s1 s2) :=
  keeps_pairOp _ _ _ _ _
theorem execCijaddNP_keeps (p : BitVec 2) (d s1 s2 : BitVec 8) : Keeps (execCijaddNP p d s1 s2) :=
  keeps_pairOp _ _ _ _ _
theorem execCijjaddPP_keeps (p : BitVec 2) (d s1 s2 : BitVec 8) : Keeps (execCijjaddPP p d s1 s2) :=
  keeps_pairOp _ _ _ _ _
theorem execCijjaddPN_keeps (p : BitVec 2) (d s1 s2 : BitVec 8) : Keeps (execCijjaddPN p d s1 s2) :=
  keeps_pairOp _ _ _ _ _
theorem execCijjaddNN_keeps (p : BitVec 2) (d s1 s2 : BitVec 8) : Keeps (execCijjaddNN p d s1 s2) :=
  keeps_pairOp _ _ _ _ _
theorem execCijjaddNP_keeps (p : BitVec 2) (d s1 s2 : BitVec 8) : Keeps (execCijjaddNP p d s1 s2) :=
  keeps_pairOp _ _ _ _ _
theorem execCiraddPP_keeps (p : BitVec 2) (d s1 s2 : BitVec 8) : Keeps (execCiraddPP p d s1 s2) :=
  keeps_pairOp _ _ _ _ _
theorem execCiraddPN_keeps (p : BitVec 2) (d s1 s2 : BitVec 8) : Keeps (execCiraddPN p d s1 s2) :=
  keeps_pairOp _ _ _ _ _
theorem execCiraddNN_keeps (p : BitVec 2) (d s1 s2 : BitVec 8) : Keeps (execCiraddNN p d s1 s2) :=
  keeps_pairOp _ _ _ _ _
theorem execCiraddNP_keeps (p : BitVec 2) (d s1 s2 : BitVec 8) : Keeps (execCiraddNP p d s1 s2) :=
  keeps_pairOp _ _ _ _ _
theorem execVfabsaddPP_keeps (p : BitVec 2) (d s1 s2 : BitVec 8) : Keeps (execVfabsaddPP p d s1 s2) :=
  keeps_pairOp _ _ _ _ _
theorem execVfabsaddPN_keeps (p : BitVec 2) (d s1 s2 : BitVec 8) : Keeps (execVfabsaddPN p d s1 s2) :=
  keeps_pairOp _ _ _ _ _
theorem execVfabsaddNN_keeps (p : BitVec 2) (d s1 s2 : BitVec 8) : Keeps (execVfabsaddNN p d s1 s2) :=
  keeps_pairOp _ _ _ _ _
theorem execVfabsaddNP_keeps (p : BitVec 2) (d s1 s2 : BitVec 8) : Keeps (execVfabsaddNP p d s1 s2) :=
  keeps_pairOp _ _ _ _ _
theorem execViabsaddPP_keeps (p : BitVec 2) (d s1 s2 : BitVec 8) : Keeps (execViabsaddPP p d s1 s2) :=
  keeps_pairOp _ _ _ _ _
theorem execViabsaddPN_keeps (p : BitVec 2) (d s1 s2 : BitVec 8) : Keeps (execViabsaddPN p d s1 s2) :=
  keeps_pairOp _ _ _ _ _
theorem execViabsaddNN_keeps (p : BitVec 2) (d s1 s2 : BitVec 8) : Keeps (execViabsaddNN p d s1 s2) :=
  keeps_pairOp _ _ _ _ _
theorem execViabsaddNP_keeps (p : BitVec 2) (d s1 s2 : BitVec 8) : Keeps (execViabsaddNP p d s1 s2) :=
  keeps_pairOp _ _ _ _ _
theorem execVfaddsub_keeps (p : BitVec 2) (d1 d2 s1 s2 : BitVec 8) : Keeps (execVfaddsub p d1 d2 s1 s2) :=
  keeps_pairOp _ _ _ _ _
theorem execFaddPP_keeps (p : BitVec 2) (d s1 s2 : BitVec 8) : Keeps (execFaddPP p d s1 s2) := keeps_scalarOp _ _ _ _
theorem execFaddPN_keeps (p : BitVec 2) (d s1 s2 : BitVec 8) : Keeps (execFaddPN p d s1 s2) := keeps_scalarOp _ _ _ _
theorem execFaddNN_keeps (p : BitVec 2) (d s1 s2 : BitVec 8) : Keeps (execFaddNN p d s1 s2) := keeps_scalarOp _ _ _ _
theorem execFaddNP_keeps (p : BitVec 2) (d s1 s2 : BitVec 8) : Keeps (execFaddNP p d s1 s2) := keeps_scalarOp _ _ _ _
theorem execFaddsub_keeps (p : BitVec 2) (d1 d2 s1 s2 : BitVec 8) : Keeps (execFaddsub p d1 d2 s1 s2) :=
  keeps_scalarOp _ _ _ _
theorem execIaddPP_keeps (p : BitVec 2) (d s1 s2 : BitVec 8) : Keeps (execIaddPP p d s1 s2) := keeps_scalarOp _ _ _ _
theorem execIaddPN_keeps (p : BitVec 2) (d s1 s2 : BitVec 8) : Keeps (execIaddPN p d s1 s2) := keeps_scalarOp _ _ _ _
theorem execIaddNN_keeps (p : BitVec 2) (d s1 s2 : BitVec 8) : Keeps (execIaddNN p d s1 s2) := keeps_scalarOp _ _ _ _
theorem execIaddNP_keeps (p : BitVec 2) (d s1 s2 : BitVec 8) : Keeps (execIaddNP p d s1 s2) := keeps_scalarOp _ _ _ _
theorem execIaddsub_keeps (p : BitVec 2) (d1 d2 s1 s2 : BitVec 8) : Keeps (execIaddsub p d1 d2 s1 s2) :=
  keeps_scalarOp _ _ _ _
theorem execFabsaddPP_keeps (p : BitVec 2) (d s1 s2 : BitVec 8) : Keeps (execFabsaddPP p d s1 s2) :=
  keeps_scalarOp _ _ _ _
theorem execFabsaddPN_keeps (p : BitVec 2) (d s1 s2 : BitVec 8) : Keeps (execFabsaddPN p d s1 s2) :=
  keeps_scalarOp _ _ _ _
theorem execFabsaddNN_keeps (p : BitVec 2) (d s1 s2 : BitVec 8) : Keeps (execFabsaddNN p d s1 s2) :=
  keeps_scalarOp _ _ _ _
theorem execFabsaddNP_keeps (p : BitVec 2) (d s1 s2 : BitVec 8) : Keeps (execFabsaddNP p d s1 s2) :=
  keeps_scalarOp _ _ _ _
theorem execIabsaddPP_keeps (p : BitVec 2) (d s1 s2 : BitVec 8) : Keeps (execIabsaddPP p d s1 s2) :=
  keeps_scalarOp _ _ _ _
theorem execIabsaddPN_keeps (p : BitVec 2) (d s1 s2 : BitVec 8) : Keeps (execIabsaddPN p d s1 s2) :=
  keeps_scalarOp _ _ _ _
theorem execIabsaddNN_keeps (p : BitVec 2) (d s1 s2 : BitVec 8) : Keeps (execIabsaddNN p d s1 s2) :=
  keeps_scalarOp _ _ _ _
theorem execIabsaddNP_keeps (p : BitVec 2) (d s1 s2 : BitVec 8) : Keeps (execIabsaddNP p d s1 s2) :=
  keeps_scalarOp _ _ _ _
theorem execVfmin_keeps (p : BitVec 2) (d s1 s2 : BitVec 8) : Keeps (execVfmin p d s1 s2) := keeps_pairOp _ _ _ _ _
theorem execVimin_keeps (p : BitVec 2) (d s1 s2 : BitVec 8) : Keeps (execVimin p d s1 s2) := keeps_pairOp _ _ _ _ _
theorem execVfmax_keeps (p : BitVec 2) (d s1 s2 : BitVec 8) : Keeps (execVfmax p d s1 s2) := keeps_pairOp _ _ _ _ _
theorem execVimax_keeps (p : BitVec 2) (d s1 s2 : BitVec 8) : Keeps (execVimax p d s1 s2) := keeps_pairOp _ _ _ _ _
theorem execVfminmax_keeps (p : BitVec 2) (d1 d2 s1 s2 : BitVec 8) : Keeps (execVfminmax p d1 d2 s1 s2) :=
  keeps_pairOp _ _ _ _ _
theorem execViminmax_keeps (p : BitVec 2) (d1 d2 s1 s2 : BitVec 8) : Keeps (execViminmax p d1 d2 s1 s2) :=
  keeps_pairOp _ _ _ _ _
theorem execVswap_keeps (p : BitVec 2) (d1 d2 s1 s2 : BitVec 8) : Keeps (execVswap p d1 d2 s1 s2) :=
  keeps_pairOp _ _ _ _ _
theorem execFmin_keeps (p : BitVec 2) (d s1 s2 : BitVec 8) : Keeps (execFmin p d s1 s2) := keeps_scalarOp _ _ _ _
theorem execImin_keeps (p : BitVec 2) (d s1 s2 : BitVec 8) : Keeps (execImin p d s1 s2) := keeps_scalarOp _ _ _ _
theorem execFmax_keeps (p : BitVec 2) (d s1 s2 : BitVec 8) : Keeps (execFmax p d s1 s2) := keeps_scalarOp _ _ _ _
theorem execImax_keeps (p : BitVec 2) (d s1 s2 : BitVec 8) : Keeps (execImax p d s1 s2) := keeps_scalarOp _ _ _ _
theorem execFminmax_keeps (p : BitVec 2) (d1 d2 s1 s2 : BitVec 8) : Keeps (execFminmax p d1 d2 s1 s2) :=
  keeps_scalarOp _ _ _ _
theorem execIminmax_keeps (p : BitVec 2) (d1 d2 s1 s2 : BitVec 8) : Keeps (execIminmax p d1 d2 s1 s2) :=
  keeps_scalarOp _ _ _ _
theorem execFsel_keeps (p : BitVec 2) (d s1 s2 : BitVec 8) : Keeps (execFsel p d s1 s2) := keeps_scalarOp _ _ _ _
theorem execIsel_keeps (p : BitVec 2) (d s1 s2 : BitVec 8) : Keeps (execIsel p d s1 s2) := keeps_scalarOp _ _ _ _
theorem execSwap_keeps (p : BitVec 2) (d1 d2 s1 s2 : BitVec 8) : Keeps (execSwap p d1 d2 s1 s2) :=
  keeps_scalarOp _ _ _ _
theorem execViaddsub_keeps (p : BitVec 2) (d1 d2 s1 s2 : BitVec 8) : Keeps (execViaddsub p d1 d2 s1 s2) :=
  keeps_pairOp _ _ _ _ _
theorem execAddNop_keeps (p : BitVec 2) : Keeps (execAddNop p) := by intro s t hs h; cases h; exact hs
theorem execCfeq_keeps (p : BitVec 2) (s1 s2 : BitVec 8) : Keeps (execCfeq p s1 s2) := keeps_pairCompare _ _ _
theorem execCfne_keeps (p : BitVec 2) (s1 s2 : BitVec 8) : Keeps (execCfne p s1 s2) := keeps_pairCompare _ _ _
theorem execVfeq_keeps (p : BitVec 2) (s1 s2 : BitVec 8) : Keeps (execVfeq p s1 s2) := keeps_pairCompare _ _ _
theorem execVflt_keeps (p : BitVec 2) (s1 s2 : BitVec 8) : Keeps (execVflt p s1 s2) := keeps_pairCompare _ _ _
theorem execVfgt_keeps (p : BitVec 2) (s1 s2 : BitVec 8) : Keeps (execVfgt p s1 s2) := keeps_pairCompare _ _ _
theorem execVfle_keeps (p : BitVec 2) (s1 s2 : BitVec 8) : Keeps (execVfle p s1 s2) := keeps_pairCompare _ _ _
theorem execVfge_keeps (p : BitVec 2) (s1 s2 : BitVec 8) : Keeps (execVfge p s1 s2) := keeps_pairCompare _ _ _
theorem execVfne_keeps (p : BitVec 2) (s1 s2 : BitVec 8) : Keeps (execVfne p s1 s2) := keeps_pairCompare _ _ _
theorem execVieq_keeps (p : BitVec 2) (s1 s2 : BitVec 8) : Keeps (execVieq p s1 s2) := keeps_pairCompare _ _ _
theorem execVilt_keeps (p : BitVec 2) (s1 s2 : BitVec 8) : Keeps (execVilt p s1 s2) := keeps_pairCompare _ _ _
theorem execVigt_keeps (p : BitVec 2) (s1 s2 : BitVec 8) : Keeps (execVigt p s1 s2) := keeps_pairCompare _ _ _
theorem execVile_keeps (p : BitVec 2) (s1 s2 : BitVec 8) : Keeps (execVile p s1 s2) := keeps_pairCompare _ _ _
theorem execVige_keeps (p : BitVec 2) (s1 s2 : BitVec 8) : Keeps (execVige p s1 s2) := keeps_pairCompare _ _ _
theorem execVine_keeps (p : BitVec 2) (s1 s2 : BitVec 8) : Keeps (execVine p s1 s2) := keeps_pairCompare _ _ _
theorem execFeq_keeps (p : BitVec 2) (s1 s2 : BitVec 8) : Keeps (execFeq p s1 s2) := keeps_scalarCompare _ _
theorem execFlt_keeps (p : BitVec 2) (s1 s2 : BitVec 8) : Keeps (execFlt p s1 s2) := keeps_scalarCompare _ _
theorem execFgt_keeps (p : BitVec 2) (s1 s2 : BitVec 8) : Keeps (execFgt p s1 s2) := keeps_scalarCompare _ _
theorem execFle_keeps (p : BitVec 2) (s1 s2 : BitVec 8) : Keeps (execFle p s1 s2) := keeps_scalarCompare _ _
theorem execFge_keeps (p : BitVec 2) (s1 s2 : BitVec 8) : Keeps (execFge p s1 s2) := keeps_scalarCompare _ _
theorem execFne_keeps (p : BitVec 2) (s1 s2 : BitVec 8) : Keeps (execFne p s1 s2) := keeps_scalarCompare _ _
theorem execIeq_keeps (p : BitVec 2) (s1 s2 : BitVec 8) : Keeps (execIeq p s1 s2) := keeps_scalarCompare _ _
theorem execIlt_keeps (p : BitVec 2) (s1 s2 : BitVec 8) : Keeps (execIlt p s1 s2) := keeps_scalarCompare _ _
theorem execIgt_keeps (p : BitVec 2) (s1 s2 : BitVec 8) : Keeps (execIgt p s1 s2) := keeps_scalarCompare _ _
theorem execIle_keeps (p : BitVec 2) (s1 s2 : BitVec 8) : Keeps (execIle p s1 s2) := keeps_scalarCompare _ _
theorem execIge_keeps (p : BitVec 2) (s1 s2 : BitVec 8) : Keeps (execIge p s1 s2) := keeps_scalarCompare _ _
theorem execIne_keeps (p : BitVec 2) (s1 s2 : BitVec 8) : Keeps (execIne p s1 s2) := keeps_scalarCompare _ _
theorem execCieq_keeps (p : BitVec 2) (s1 s2 : BitVec 8) : Keeps (execCieq p s1 s2) := keeps_pairCompare _ _ _
theorem execCine_keeps (p : BitVec 2) (s1 s2 : BitVec 8) : Keeps (execCine p s1 s2) := keeps_pairCompare _ _ _
theorem execCfmulP_keeps (p : BitVec 2) (d s1 s2 : BitVec 8) : Keeps (execCfmulP p d s1 s2) := keeps_pairOp _ _ _ _ _
theorem execCfmulN_keeps (p : BitVec 2) (d s1 s2 : BitVec 8) : Keeps (execCfmulN p d s1 s2) := keeps_pairOp _ _ _ _ _
theorem execCfjmulP_keeps (p : BitVec 2) (d s1 s2 : BitVec 8) : Keeps (execCfjmulP p d s1 s2) :=
  keeps_pairOp _ _ _ _ _
theorem execCfjmulN_keeps (p : BitVec 2) (d s1 s2 : BitVec 8) : Keeps (execCfjmulN p d s1 s2) :=
  keeps_pairOp _ _ _ _ _
theorem execCfjmmulP_keeps (p : BitVec 2) (d s1 s2 : BitVec 8) : Keeps (execCfjmmulP p d s1 s2) :=
  keeps_pairOp _ _ _ _ _
theorem execCfjmmulN_keeps (p : BitVec 2) (d s1 s2 : BitVec 8) : Keeps (execCfjmmulN p d s1 s2) :=
  keeps_pairOp _ _ _ _ _
theorem execCfrmulP_keeps (p : BitVec 2) (d s1 s2 : BitVec 8) : Keeps (execCfrmulP p d s1 s2) :=
  keeps_pairOp _ _ _ _ _
theorem execCfrmulN_keeps (p : BitVec 2) (d s1 s2 : BitVec 8) : Keeps (execCfrmulN p d s1 s2) :=
  keeps_pairOp _ _ _ _ _
theorem execCimulP_keeps (p : BitVec 2) (d s1 s2 : BitVec 8) : Keeps (execCimulP p d s1 s2) := keeps_pairOp _ _ _ _ _
theorem execCimulN_keeps (p : BitVec 2) (d s1 s2 : BitVec 8) : Keeps (execCimulN p d s1 s2) := keeps_pairOp _ _ _ _ _
theorem execCijmulP_keeps (p : BitVec 2) (d s1 s2 : BitVec 8) : Keeps (execCijmulP p d s1 s2) :=
  keeps_pairOp _ _ _ _ _
theorem execCijmulN_keeps (p : BitVec 2) (d s1 s2 : BitVec 8) : Keeps (execCijmulN p d s1 s2) :=
  keeps_pairOp _ _ _ _ _
theorem execCijmmulP_keeps (p : BitVec 2) (d s1 s2 : BitVec 8) : Keeps (execCijmmulP p d s1 s2) :=
  keeps_pairOp _ _ _ _ _
theorem execCijmmulN_keeps (p : BitVec 2) (d s1 s2 : BitVec 8) : Keeps (execCijmmulN p d s1 s2) :=
  keeps_pairOp _ _ _ _ _
theorem execCirmulP_keeps (p : BitVec 2) (d s1 s2 : BitVec 8) : Keeps (execCirmulP p d s1 s2) :=
  keeps_pairOp _ _ _ _ _
theorem execCirmulN_keeps (p : BitVec 2) (d s1 s2 : BitVec 8) : Keeps (execCirmulN p d s1 s2) :=
  keeps_pairOp _ _ _ _ _
theorem execVfmulP_keeps (p : BitVec 2) (d s1 s2 : BitVec 8) : Keeps (execVfmulP p d s1 s2) := keeps_pairOp _ _ _ _ _
theorem execVfmulN_keeps (p : BitVec 2) (d s1 s2 : BitVec 8) : Keeps (execVfmulN p d s1 s2) := keeps_pairOp _ _ _ _ _
theorem execVimulP_keeps (p : BitVec 2) (d s1 s2 : BitVec 8) : Keeps (execVimulP p d s1 s2) := keeps_pairOp _ _ _ _ _
theorem execVimulN_keeps (p : BitVec 2) (d s1 s2 : BitVec 8) : Keeps (execVimulN p d s1 s2) := keeps_pairOp _ _ _ _ _
theorem execFmulP_keeps (p : BitVec 2) (d s1 s2 : BitVec 8) : Keeps (execFmulP p d s1 s2) := keeps_scalarOp _ _ _ _
theorem execFmulN_keeps (p : BitVec 2) (d s1 s2 : BitVec 8) : Keeps (execFmulN p d s1 s2) := keeps_scalarOp _ _ _ _
theorem execImulP_keeps (p : BitVec 2) (d s1 s2 : BitVec 8) : Keeps (execImulP p d s1 s2) := keeps_scalarOp _ _ _ _
theorem execImulN_keeps (p : BitVec 2) (d s1 s2 : BitVec 8) : Keeps (execImulN p d s1 s2) := keeps_scalarOp _ _ _ _
theorem execVsh_keeps (p : BitVec 2) (d s1 s2 : BitVec 8) : Keeps (execVsh p d s1 s2) := keeps_pairOp _ _ _ _ _
theorem execVshand_keeps (p : BitVec 2) (d s1 s2 : BitVec 8) : Keeps (execVshand p d s1 s2) := keeps_pairOp _ _ _ _ _
theorem execVshor_keeps (p : BitVec 2) (d s1 s2 : BitVec 8) : Keeps (execVshor p d s1 s2) := keeps_pairOp _ _ _ _ _
theorem execVshxor_keeps (p : BitVec 2) (d s1 s2 : BitVec 8) : Keeps (execVshxor p d s1 s2) := keeps_pairOp _ _ _ _ _
theorem execVbitset_keeps (p : BitVec 2) (d s1 s2 : BitVec 8) : Keeps (execVbitset p d s1 s2) :=
  keeps_pairOp _ _ _ _ _
theorem execVbitclr_keeps (p : BitVec 2) (d s1 s2 : BitVec 8) : Keeps (execVbitclr p d s1 s2) :=
  keeps_pairOp _ _ _ _ _
theorem execVbittgl_keeps (p : BitVec 2) (d s1 s2 : BitVec 8) : Keeps (execVbittgl p d s1 s2) :=
  keeps_pairOp _ _ _ _ _
theorem execVbittst_keeps (p : BitVec 2) (d s1 s2 : BitVec 8) : Keeps (execVbittst p d s1 s2) :=
  keeps_pairOp _ _ _ _ _
theorem execSh_keeps (p : BitVec 2) (d s1 s2 : BitVec 8) : Keeps (execSh p d s1 s2) := keeps_scalarOp _ _ _ _
theorem execShand_keeps (p : BitVec 2) (d s1 s2 : BitVec 8) : Keeps (execShand p d s1 s2) := keeps_scalarOp _ _ _ _
theorem execShor_keeps (p : BitVec 2) (d s1 s2 : BitVec 8) : Keeps (execShor p d s1 s2) := keeps_scalarOp _ _ _ _
theorem execShxor_keeps (p : BitVec 2) (d s1 s2 : BitVec 8) : Keeps (execShxor p d s1 s2) := keeps_scalarOp _ _ _ _
theorem execBitset_keeps (p : BitVec 2) (d s1 s2 : BitVec 8) : Keeps (execBitset p d s1 s2) := keeps_scalarOp _ _ _ _
theorem execBitclr_keeps (p : BitVec 2) (d s1 s2 : BitVec 8) : Keeps (execBitclr p d s1 s2) := keeps_scalarOp _ _ _ _
theorem execBittgl_keeps (p : BitVec 2) (d s1 s2 : BitVec 8) : Keeps (execBittgl p d s1 s2) := keeps_scalarOp _ _ _ _
theorem execBittst_keeps (p : BitVec 2) (d s1 s2 : BitVec 8) : Keeps (execBittst p d s1 s2) := keeps_scalarOp _ _ _ _
theorem execVftoi_keeps (p : BitVec 2) (d s1 : BitVec 8) : Keeps (execVftoi p d s1) := keeps_pairOp _ _ _ _ _
theorem execVitof_keeps (p : BitVec 2) (d s1 : BitVec 8) : Keeps (execVitof p d s1) := keeps_pairOp _ _ _ _ _
theorem execFtoi_keeps (p : BitVec 2) (d s1 : BitVec 8) : Keeps (execFtoi p d s1) := keeps_scalarOp _ _ _ _
theorem execItof_keeps (p : BitVec 2) (d s1 : BitVec 8) : Keeps (execItof p d s1) := keeps_scalarOp _ _ _ _
theorem execVrf2rf_keeps (p : BitVec 2) (d s1 : BitVec 8) : Keeps (execVrf2rf p d s1) := keeps_pairOp _ _ _ _ _
theorem execRf2rf_keeps (p : BitVec 2) (d s1 : BitVec 8) : Keeps (execRf2rf p d s1) := keeps_scalarOp _ _ _ _
theorem execInvseed_keeps (p : BitVec 2) (d s1 : BitVec 8) : Keeps (execInvseed p d s1) := keeps_scalarOp _ _ _ _
theorem execInvsqrtseed_keeps (p : BitVec 2) (d s1 : BitVec 8) : Keeps (execInvsqrtseed p d s1) :=
  keeps_scalarOp _ _ _ _
theorem execVinvseed_keeps (p : BitVec 2) (d s1 : BitVec 8) : Keeps (execVinvseed p d s1) := keeps_pairOp _ _ _ _ _
theorem execVinvsqrtseed_keeps (p : BitVec 2) (d s1 : BitVec 8) : Keeps (execVinvsqrtseed p d s1) :=
  keeps_pairOp _ _ _ _ _
theorem execMulNop_keeps (p : BitVec 2) : Keeps (execMulNop p) := by intro s t hs h; cases h; exact hs
theorem execAgu0DirRs_keeps (p : BitVec 2) (x : BitVec 4) (rfa7 : BitVec 9) : Keeps (execAgu0DirRs p x rfa7) :=
  keeps_agu0Read _ _ _ _ _
theorem execAgu0DirRv_keeps (p : BitVec 2) (x : BitVec 4) (rfa7 : BitVec 9) : Keeps (execAgu0DirRv p x rfa7) :=
  keeps_agu0Read _ _ _ _ _
theorem execAgu0DirWs_keeps (p : BitVec 2) (x : BitVec 4) (rfa7 : BitVec 9) : Keeps (execAgu0DirWs p x rfa7) :=
  keeps_agu0Write _ _ _ _ _
theorem execAgu0DirWv_keeps (p : BitVec 2) (x : BitVec 4) (rfa7 : BitVec 9) : Keeps (execAgu0DirWv p x rfa7) :=
  keeps_agu0Write _ _ _ _ _
theorem execAgu1DirRs_keeps (p : BitVec 2) (x : BitVec 4) (rfa5 : BitVec 8) : Keeps (execAgu1DirRs p x rfa5) :=
  keeps_agu1Read _ _ _ _ _
theorem execAgu1DirRv_keeps (p : BitVec 2) (x : BitVec 4) (rfa5 : BitVec 8) : Keeps (execAgu1DirRv p x rfa5) :=
  keeps_agu1Read _ _ _ _ _
theorem execAgu1DirWs_keeps (p : BitVec 2) (x : BitVec 4) : Keeps (execAgu1DirWs p x) := keeps_agu1Write _ _ _ _
theorem execAgu1DirWv_keeps (p : BitVec 2) (x : BitVec 4) : Keeps (execAgu1DirWv p x) := keeps_agu1Write _ _ _ _
theorem execAgu0PostincRs_keeps (p : BitVec 2) (x : BitVec 4) (rfa7 : BitVec 9) : Keeps (execAgu0PostincRs p x rfa7) :=
  keeps_agu0Read _ _ _ _ _
theorem execAgu0PostincRv_keeps (p : BitVec 2) (x : BitVec 4) (rfa7 : BitVec 9) : Keeps (execAgu0PostincRv p x rfa7) :=
  keeps_agu0Read _ _ _ _ _
theorem execAgu0PostincWs_keeps (p : BitVec 2) (x : BitVec 4) (rfa7 : BitVec 9) : Keeps (execAgu0PostincWs p x rfa7) :=
  keeps_agu0Write _ _ _ _ _
theorem execAgu0PostincWv_keeps (p : BitVec 2) (x : BitVec 4) (rfa7 : BitVec 9) : Keeps (execAgu0PostincWv p x rfa7) :=
  keeps_agu0Write _ _ _ _ _
theorem execAgu1PostincRs_keeps (p : BitVec 2) (x : BitVec 4) (rfa5 : BitVec 8) : Keeps (execAgu1PostincRs p x rfa5) :=
  keeps_agu1Read _ _ _ _ _
theorem execAgu1PostincRv_keeps (p : BitVec 2) (x : BitVec 4) (rfa5 : BitVec 8) : Keeps (execAgu1PostincRv p x rfa5) :=
  keeps_agu1Read _ _ _ _ _
theorem execAgu1PostincWs_keeps (p : BitVec 2) (x : BitVec 4) : Keeps (execAgu1PostincWs p x) :=
  keeps_agu1Write _ _ _ _
theorem execAgu1PostincWv_keeps (p : BitVec 2) (x : BitVec 4) : Keeps (execAgu1PostincWv p x) :=
  keeps_agu1Write _ _ _ _
theorem execAgu0PostdecRs_keeps (p : BitVec 2) (x : BitVec 4) (rfa7 : BitVec 9) : Keeps (execAgu0PostdecRs p x rfa7) :=
  keeps_agu0Read _ _ _ _ _
theorem execAgu0PostdecRv_keeps (p : BitVec 2) (x : BitVec 4) (rfa7 : BitVec 9) : Keeps (execAgu0PostdecRv p x rfa7) :=
  keeps_agu0Read _ _ _ _ _
theorem execAgu0PostdecWs_keeps (p : BitVec 2) (x : BitVec 4) (rfa7 : BitVec 9) : Keeps (execAgu0PostdecWs p x rfa7) :=
  keeps_agu0Write _ _ _ _ _
theorem execAgu0PostdecWv_keeps (p : BitVec 2) (x : BitVec 4) (rfa7 : BitVec 9) : Keeps (execAgu0PostdecWv p x rfa7) :=
  keeps_agu0Write _ _ _ _ _
theorem execAgu1PostdecRs_keeps (p : BitVec 2) (x : BitVec 4) (rfa5 : BitVec 8) : Keeps (execAgu1PostdecRs p x rfa5) :=
  keeps_agu1Read _ _ _ _ _
theorem execAgu1PostdecRv_keeps (p : BitVec 2) (x : BitVec 4) (rfa5 : BitVec 8) : Keeps (execAgu1PostdecRv p x rfa5) :=
  keeps_agu1Read _ _ _ _ _
theorem execAgu1PostdecWs_keeps (p : BitVec 2) (x : BitVec 4) : Keeps (execAgu1PostdecWs p x) :=
  keeps_agu1Write _ _ _ _
theorem execAgu1PostdecWv_keeps (p : BitVec 2) (x : BitVec 4) : Keeps (execAgu1PostdecWv p x) :=
  keeps_agu1Write _ _ _ _
theorem execAgu0PreincRs_keeps (p : BitVec 2) (x : BitVec 4) (rfa7 : BitVec 9) : Keeps (execAgu0PreincRs p x rfa7) :=
  keeps_agu0Read _ _ _ _ _
theorem execAgu0PreincRv_keeps (p : BitVec 2) (x : BitVec 4) (rfa7 : BitVec 9) : Keeps (execAgu0PreincRv p x rfa7) :=
  keeps_agu0Read _ _ _ _ _
theorem execAgu0PreincWs_keeps (p : BitVec 2) (x : BitVec 4) (rfa7 : BitVec 9) : Keeps (execAgu0PreincWs p x rfa7) :=
  keeps_agu0Write _ _ _ _ _
theorem execAgu0PreincWv_keeps (p : BitVec 2) (x : BitVec 4) (rfa7 : BitVec 9) : Keeps (execAgu0PreincWv p x rfa7) :=
  keeps_agu0Write _ _ _ _ _
theorem execAgu1PreincRs_keeps (p : BitVec 2) (x : BitVec 4) (rfa5 : BitVec 8) : Keeps (execAgu1PreincRs p x rfa5) :=
  keeps_agu1Read _ _ _ _ _
theorem execAgu1PreincRv_keeps (p : BitVec 2) (x : BitVec 4) (rfa5 : BitVec 8) : Keeps (execAgu1PreincRv p x rfa5) :=
  keeps_agu1Read _ _ _ _ _
theorem execAgu1PreincWs_keeps (p : BitVec 2) (x : BitVec 4) : Keeps (execAgu1PreincWs p x) := keeps_agu1Write _ _ _ _
theorem execAgu1PreincWv_keeps (p : BitVec 2) (x : BitVec 4) : Keeps (execAgu1PreincWv p x) := keeps_agu1Write _ _ _ _
theorem execAgu0PredecRs_keeps (p : BitVec 2) (x : BitVec 4) (rfa7 : BitVec 9) : Keeps (execAgu0PredecRs p x rfa7) :=
  keeps_agu0Read _ _ _ _ _
theorem execAgu0PredecRv_keeps (p : BitVec 2) (x : BitVec 4) (rfa7 : BitVec 9) : Keeps (execAgu0PredecRv p x rfa7) :=
  keeps_agu0Read _ _ _ _ _
theorem execAgu0PredecWs_keeps (p : BitVec 2) (x : BitVec 4) (rfa7 : BitVec 9) : Keeps (execAgu0PredecWs p x rfa7) :=
  keeps_agu0Write _ _ _ _ _
theorem execAgu0PredecWv_keeps (p : BitVec 2) (x : BitVec 4) (rfa7 : BitVec 9) : Keeps (execAgu0PredecWv p x rfa7) :=
  keeps_agu0Write _ _ _ _ _
theorem execAgu1PredecRs_keeps (p : BitVec 2) (x : BitVec 4) (rfa5 : BitVec 8) : Keeps (execAgu1PredecRs p x rfa5) :=
  keeps_agu1Read _ _ _ _ _
theorem execAgu1PredecRv_keeps (p : BitVec 2) (x : BitVec 4) (rfa5 : BitVec 8) : Keeps (execAgu1PredecRv p x rfa5) :=
  keeps_agu1Read _ _ _ _ _
theorem execAgu1PredecWs_keeps (p : BitVec 2) (x : BitVec 4) : Keeps (execAgu1PredecWs p x) := keeps_agu1Write _ _ _ _
theorem execAgu1PredecWv_keeps (p : BitVec 2) (x : BitVec 4) : Keeps (execAgu1PredecWv p x) := keeps_agu1Write _ _ _ _
theorem execAgu0Postinc2Rs_keeps (p : BitVec 2) (x : BitVec 4) (rfa7 : BitVec 9) : Keeps (execAgu0Postinc2Rs p x rfa7) :=
  keeps_agu0Read _ _ _ _ _
theorem execAgu0Postinc2Rv_keeps (p : BitVec 2) (x : BitVec 4) (rfa7 : BitVec 9) : Keeps (execAgu0Postinc2Rv p x rfa7) :=
  keeps_agu0Read _ _ _ _ _
theorem execAgu0Postinc2Ws_keeps (p : BitVec 2) (x : BitVec 4) (rfa7 : BitVec 9) : Keeps (execAgu0Postinc2Ws p x rfa7) :=
  keeps_agu0Write _ _ _ _ _
theorem execAgu0Postinc2Wv_keeps (p : BitVec 2) (x : BitVec 4) (rfa7 : BitVec 9) : Keeps (execAgu0Postinc2Wv p x rfa7) :=
  keeps_agu0Write _ _ _ _ _
theorem execAgu1Postinc2Rs_keeps (p : BitVec 2) (x : BitVec 4) (rfa5 : BitVec 8) : Keeps (execAgu1Postinc2Rs p x rfa5) :=
  keeps_agu1Read _ _ _ _ _
theorem execAgu1Postinc2Rv_keeps (p : BitVec 2) (x : BitVec 4) (rfa5 : BitVec 8) : Keeps (execAgu1Postinc2Rv p x rfa5) :=
  keeps_agu1Read _ _ _ _ _
theorem execAgu1Postinc2Ws_keeps (p : BitVec 2) (x : BitVec 4) : Keeps (execAgu1Postinc2Ws p x) :=
  keeps_agu1Write _ _ _ _
theorem execAgu1Postinc2Wv_keeps (p : BitVec 2) (x : BitVec 4) : Keeps (execAgu1Postinc2Wv p x) :=
  keeps_agu1Write _ _ _ _
theorem execAgu0Postdec2Rs_keeps (p : BitVec 2) (x : BitVec 4) (rfa7 : BitVec 9) : Keeps (execAgu0Postdec2Rs p x rfa7) :=
  keeps_agu0Read _ _ _ _ _
theorem execAgu0Postdec2Rv_keeps (p : BitVec 2) (x : BitVec 4) (rfa7 : BitVec 9) : Keeps (execAgu0Postdec2Rv p x rfa7) :=
  keeps_agu0Read _ _ _ _ _
theorem execAgu0Postdec2Ws_keeps (p : BitVec 2) (x : BitVec 4) (rfa7 : BitVec 9) : Keeps (execAgu0Postdec2Ws p x rfa7) :=
  keeps_agu0Write _ _ _ _ _
theorem execAgu0Postdec2Wv_keeps (p : BitVec 2) (x : BitVec 4) (rfa7 : BitVec 9) : Keeps (execAgu0Postdec2Wv p x rfa7) :=
  keeps_agu0Write _ _ _ _ _
theorem execAgu1Postdec2Rs_keeps (p : BitVec 2) (x : BitVec 4) (rfa5 : BitVec 8) : Keeps (execAgu1Postdec2Rs p x rfa5) :=
  keeps_agu1Read _ _ _ _ _
theorem execAgu1Postdec2Rv_keeps (p : BitVec 2) (x : BitVec 4) (rfa5 : BitVec 8) : Keeps (execAgu1Postdec2Rv p x rfa5) :=
  keeps_agu1Read _ _ _ _ _
theorem execAgu1Postdec2Ws_keeps (p : BitVec 2) (x : BitVec 4) : Keeps (execAgu1Postdec2Ws p x) :=
  keeps_agu1Write _ _ _ _
theorem execAgu1Postdec2Wv_keeps (p : BitVec 2) (x : BitVec 4) : Keeps (execAgu1Postdec2Wv p x) :=
  keeps_agu1Write _ _ _ _
theorem execAgu0Preinc2Rs_keeps (p : BitVec 2) (x : BitVec 4) (rfa7 : BitVec 9) : Keeps (execAgu0Preinc2Rs p x rfa7) :=
  keeps_agu0Read _ _ _ _ _
theorem execAgu0Preinc2Rv_keeps (p : BitVec 2) (x : BitVec 4) (rfa7 : BitVec 9) : Keeps (execAgu0Preinc2Rv p x rfa7) :=
  keeps_agu0Read _ _ _ _ _
theorem execAgu0Preinc2Ws_keeps (p : BitVec 2) (x : BitVec 4) (rfa7 : BitVec 9) : Keeps (execAgu0Preinc2Ws p x rfa7) :=
  keeps_agu0Write _ _ _ _ _
theorem execAgu0Preinc2Wv_keeps (p : BitVec 2) (x : BitVec 4) (rfa7 : BitVec 9) : Keeps (execAgu0Preinc2Wv p x rfa7) :=
  keeps_agu0Write _ _ _ _ _
theorem execAgu1Preinc2Rs_keeps (p : BitVec 2) (x : BitVec 4) (rfa5 : BitVec 8) : Keeps (execAgu1Preinc2Rs p x rfa5) :=
  keeps_agu1Read _ _ _ _ _
theorem execAgu1Preinc2Rv_keeps (p : BitVec 2) (x : BitVec 4) (rfa5 : BitVec 8) : Keeps (execAgu1Preinc2Rv p x rfa5) :=
  keeps_agu1Read _ _ _ _ _
theorem execAgu1Preinc2Ws_keeps (p : BitVec 2) (x : BitVec 4) : Keeps (execAgu1Preinc2Ws p x) :=
  keeps_agu1Write _ _ _ _
theorem execAgu1Preinc2Wv_keeps (p : BitVec 2) (x : BitVec 4) : Keeps (execAgu1Preinc2Wv p x) :=
  keeps_agu1Write _ _ _ _
theorem execAgu0IndexRs_keeps (p : BitVec 2) (x : BitVec 4) (rfa7 : BitVec 9) : Keeps (execAgu0IndexRs p x rfa7) :=
  keeps_agu0Read _ _ _ _ _
theorem execAgu0IndexRv_keeps (p : BitVec 2) (x : BitVec 4) (rfa7 : BitVec 9) : Keeps (execAgu0IndexRv p x rfa7) :=
  keeps_agu0Read _ _ _ _ _
theorem execAgu0IndexWs_keeps (p : BitVec 2) (x : BitVec 4) (rfa7 : BitVec 9) : Keeps (execAgu0IndexWs p x rfa7) :=
  keeps_agu0Write _ _ _ _ _
theorem execAgu0IndexWv_keeps (p : BitVec 2) (x : BitVec 4) (rfa7 : BitVec 9) : Keeps (execAgu0IndexWv p x rfa7) :=
  keeps_agu0Write _ _ _ _ _
theorem execAgu1IndexRs_keeps (p : BitVec 2) (x : BitVec 4) (rfa5 : BitVec 8) : Keeps (execAgu1IndexRs p x rfa5) :=
  keeps_agu1Read _ _ _ _ _
theorem execAgu1IndexRv_keeps (p : BitVec 2) (x : BitVec 4) (rfa5 : BitVec 8) : Keeps (execAgu1IndexRv p x rfa5) :=
  keeps_agu1Read _ _ _ _ _
theorem execAgu1IndexWs_keeps (p : BitVec 2) (x : BitVec 4) : Keeps (execAgu1IndexWs p x) := keeps_agu1Write _ _ _ _
theorem execAgu1IndexWv_keeps (p : BitVec 2) (x : BitVec 4) : Keeps (execAgu1IndexWv p x) := keeps_agu1Write _ _ _ _
theorem execAgu0Base2immuRs_keeps (p : BitVec 2) (x : BitVec 4) (rfa7 : BitVec 9) : Keeps (execAgu0Base2immuRs p x rfa7) :=
  keeps_agu0Read _ _ _ _ _
theorem execAgu0Base2immuRv_keeps (p : BitVec 2) (x : BitVec 4) (rfa7 : BitVec 9) : Keeps (execAgu0Base2immuRv p x rfa7) :=
  keeps_agu0Read _ _ _ _ _
theorem execAgu0Base2immuWs_keeps (p : BitVec 2) (x : BitVec 4) (rfa7 : BitVec 9) : Keeps (execAgu0Base2immuWs p x rfa7) :=
  keeps_agu0Write _ _ _ _ _
theorem execAgu0Base2immuWv_keeps (p : BitVec 2) (x : BitVec 4) (rfa7 : BitVec 9) : Keeps (execAgu0Base2immuWv p x rfa7) :=
  keeps_agu0Write _ _ _ _ _
theorem execAgu1Base2immuRs_keeps (p : BitVec 2) (x : BitVec 4) (rfa5 : BitVec 8) : Keeps (execAgu1Base2immuRs p x rfa5) :=
  keeps_agu1Read _ _ _ _ _
theorem execAgu1Base2immuRv_keeps (p : BitVec 2) (x : BitVec 4) (rfa5 : BitVec 8) : Keeps (execAgu1Base2immuRv p x rfa5) :=
  keeps_agu1Read _ _ _ _ _
theorem execAgu1Base2immuWs_keeps (p : BitVec 2) (x : BitVec 4) : Keeps (execAgu1Base2immuWs p x) :=
  keeps_agu1Write _ _ _ _
theorem execAgu1Base2immuWv_keeps (p : BitVec 2) (x : BitVec 4) : Keeps (execAgu1Base2immuWv p x) :=
  keeps_agu1Write _ _ _ _
theorem execAgu0BaseimmuRs_keeps (p : BitVec 2) (x : BitVec 4) (rfa7 : BitVec 9) : Keeps (execAgu0BaseimmuRs p x rfa7) :=
  keeps_agu0Read _ _ _ _ _
theorem execAgu0BaseimmuRv_keeps (p : BitVec 2) (x : BitVec 4) (rfa7 : BitVec 9) : Keeps (execAgu0BaseimmuRv p x rfa7) :=
  keeps_agu0Read _ _ _ _ _
theorem execAgu0BaseimmuWs_keeps (p : BitVec 2) (x : BitVec 4) (rfa7 : BitVec 9) : Keeps (execAgu0BaseimmuWs p x rfa7) :=
  keeps_agu0Write _ _ _ _ _
theorem execAgu0BaseimmuWv_keeps (p : BitVec 2) (x : BitVec 4) (rfa7 : BitVec 9) : Keeps (execAgu0BaseimmuWv p x rfa7) :=
  keeps_agu0Write _ _ _ _ _
theorem execAgu1BaseimmuRs_keeps (p : BitVec 2) (x : BitVec 4) (rfa5 : BitVec 8) : Keeps (execAgu1BaseimmuRs p x rfa5) :=
  keeps_agu1Read _ _ _ _ _
theorem execAgu1BaseimmuRv_keeps (p : BitVec 2) (x : BitVec 4) (rfa5 : BitVec 8) : Keeps (execAgu1BaseimmuRv p x rfa5) :=
  keeps_agu1Read _ _ _ _ _
theorem execAgu1BaseimmuWs_keeps (p : BitVec 2) (x : BitVec 4) : Keeps (execAgu1BaseimmuWs p x) :=
  keeps_agu1Write _ _ _ _
theorem execAgu1BaseimmuWv_keeps (p : BitVec 2) (x : BitVec 4) : Keeps (execAgu1BaseimmuWv p x) :=
  keeps_agu1Write _ _ _ _
theorem execAgu0BaseimmRs_keeps (p : BitVec 2) (x : BitVec 4) (rfa7 : BitVec 9) : Keeps (execAgu0BaseimmRs p x rfa7) :=
  keeps_agu0Read _ _ _ _ _
theorem execAgu0BaseimmRv_keeps (p : BitVec 2) (x : BitVec 4) (rfa7 : BitVec 9) : Keeps (execAgu0BaseimmRv p x rfa7) :=
  keeps_agu0Read _ _ _ _ _
theorem execAgu0BaseimmWs_keeps (p : BitVec 2) (x : BitVec 4) (rfa7 : BitVec 9) : Keeps (execAgu0BaseimmWs p x rfa7) :=
  keeps_agu0Write _ _ _ _ _
theorem execAgu0BaseimmWv_keeps (p : BitVec 2) (x : BitVec 4) (rfa7 : BitVec 9) : Keeps (execAgu0BaseimmWv p x rfa7) :=
  keeps_agu0Write _ _ _ _ _
theorem execAgu1BaseimmRs_keeps (p : BitVec 2) (x : BitVec 4) (rfa5 : BitVec 8) : Keeps (execAgu1BaseimmRs p x rfa5) :=
  keeps_agu1Read _ _ _ _ _
theorem execAgu1BaseimmRv_keeps (p : BitVec 2) (x : BitVec 4) (rfa5 : BitVec 8) : Keeps (execAgu1BaseimmRv p x rfa5) :=
  keeps_agu1Read _ _ _ _ _
theorem execAgu1BaseimmWs_keeps (p : BitVec 2) (x : BitVec 4) : Keeps (execAgu1BaseimmWs p x) :=
  keeps_agu1Write _ _ _ _
theorem execAgu1BaseimmWv_keeps (p : BitVec 2) (x : BitVec 4) : Keeps (execAgu1BaseimmWv p x) :=
  keeps_agu1Write _ _ _ _
theorem execAgu0AbsRs_keeps (p : BitVec 2) (x : BitVec 4) (rfa7 : BitVec 9) : Keeps (execAgu0AbsRs p x rfa7) :=
  keeps_agu0Read _ _ _ _ _
theorem execAgu0AbsRv_keeps (p : BitVec 2) (x : BitVec 4) (rfa7 : BitVec 9) : Keeps (execAgu0AbsRv p x rfa7) :=
  keeps_agu0Read _ _ _ _ _
theorem execAgu0AbsWs_keeps (p : BitVec 2) (x : BitVec 4) (rfa7 : BitVec 9) : Keeps (execAgu0AbsWs p x rfa7) :=
  keeps_agu0Write _ _ _ _ _
theorem execAgu0AbsWv_keeps (p : BitVec 2) (x : BitVec 4) (rfa7 : BitVec 9) : Keeps (execAgu0AbsWv p x rfa7) :=
  keeps_agu0Write _ _ _ _ _
theorem execAgu1AbsRs_keeps (p : BitVec 2) (x : BitVec 4) (rfa5 : BitVec 8) : Keeps (execAgu1AbsRs p x rfa5) :=
  keeps_agu1Read _ _ _ _ _
theorem execAgu1AbsRv_keeps (p : BitVec 2) (x : BitVec 4) (rfa5 : BitVec 8) : Keeps (execAgu1AbsRv p x rfa5) :=
  keeps_agu1Read _ _ _ _ _
theorem execAgu1AbsWs_keeps (p : BitVec 2) (x : BitVec 4) : Keeps (execAgu1AbsWs p x) := keeps_agu1Write _ _ _ _
theorem execAgu1AbsWv_keeps (p : BitVec 2) (x : BitVec 4) : Keeps (execAgu1AbsWv p x) := keeps_agu1Write _ _ _ _
theorem execAgu0AbsldRs_keeps (p : BitVec 2) (x : BitVec 4) (rfa7 : BitVec 9) : Keeps (execAgu0AbsldRs p x rfa7) :=
  keeps_agu0Read _ _ _ _ _
theorem execAgu0AbsldRv_keeps (p : BitVec 2) (x : BitVec 4) (rfa7 : BitVec 9) : Keeps (execAgu0AbsldRv p x rfa7) :=
  keeps_agu0Read _ _ _ _ _
theorem execAgu0AbsldWs_keeps (p : BitVec 2) (x : BitVec 4) (rfa7 : BitVec 9) : Keeps (execAgu0AbsldWs p x rfa7) :=
  keeps_agu0Write _ _ _ _ _
theorem execAgu0AbsldWv_keeps (p : BitVec 2) (x : BitVec 4) (rfa7 : BitVec 9) : Keeps (execAgu0AbsldWv p x rfa7) :=
  keeps_agu0Write _ _ _ _ _
theorem execAgu1AbsldRs_keeps (p : BitVec 2) (x : BitVec 4) (rfa5 : BitVec 8) : Keeps (execAgu1AbsldRs p x rfa5) :=
  keeps_agu1Read _ _ _ _ _
theorem execAgu1AbsldRv_keeps (p : BitVec 2) (x : BitVec 4) (rfa5 : BitVec 8) : Keeps (execAgu1AbsldRv p x rfa5) :=
  keeps_agu1Read _ _ _ _ _
theorem execAgu1AbsldWs_keeps (p : BitVec 2) (x : BitVec 4) : Keeps (execAgu1AbsldWs p x) := keeps_agu1Write _ _ _ _
theorem execAgu1AbsldWv_keeps (p : BitVec 2) (x : BitVec 4) : Keeps (execAgu1AbsldWv p x) := keeps_agu1Write _ _ _ _
theorem execAgu0TmpRs_keeps (p : BitVec 2) (x : BitVec 4) (rfa7 : BitVec 9) : Keeps (execAgu0TmpRs p x rfa7) :=
  keeps_agu0Read _ _ _ _ _
theorem execAgu0TmpRv_keeps (p : BitVec 2) (x : BitVec 4) (rfa7 : BitVec 9) : Keeps (execAgu0TmpRv p x rfa7) :=
  keeps_agu0Read _ _ _ _ _
theorem execAgu0TmpWs_keeps (p : BitVec 2) (x : BitVec 4) (rfa7 : BitVec 9) : Keeps (execAgu0TmpWs p x rfa7) :=
  keeps_agu0Write _ _ _ _ _
theorem execAgu0TmpWv_keeps (p : BitVec 2) (x : BitVec 4) (rfa7 : BitVec 9) : Keeps (execAgu0TmpWv p x rfa7) :=
  keeps_agu0Write _ _ _ _ _
theorem execAgu1TmpRs_keeps (p : BitVec 2) (x : BitVec 4) (rfa5 : BitVec 8) : Keeps (execAgu1TmpRs p x rfa5) :=
  keeps_agu1Read _ _ _ _ _
theorem execAgu1TmpRv_keeps (p : BitVec 2) (x : BitVec 4) (rfa5 : BitVec 8) : Keeps (execAgu1TmpRv p x rfa5) :=
  keeps_agu1Read _ _ _ _ _
theorem execAgu1TmpWs_keeps (p : BitVec 2) (x : BitVec 4) : Keeps (execAgu1TmpWs p x) := keeps_agu1Write _ _ _ _
theorem execAgu1TmpWv_keeps (p : BitVec 2) (x : BitVec 4) : Keeps (execAgu1TmpWv p x) := keeps_agu1Write _ _ _ _
theorem execAgu0BasetmpRs_keeps (p : BitVec 2) (x : BitVec 4) (rfa7 : BitVec 9) : Keeps (execAgu0BasetmpRs p x rfa7) :=
  keeps_agu0Read _ _ _ _ _
theorem execAgu0BasetmpRv_keeps (p : BitVec 2) (x : BitVec 4) (rfa7 : BitVec 9) : Keeps (execAgu0BasetmpRv p x rfa7) :=
  keeps_agu0Read _ _ _ _ _
theorem execAgu0BasetmpWs_keeps (p : BitVec 2) (x : BitVec 4) (rfa7 : BitVec 9) : Keeps (execAgu0BasetmpWs p x rfa7) :=
  keeps_agu0Write _ _ _ _ _
theorem execAgu0BasetmpWv_keeps (p : BitVec 2) (x : BitVec 4) (rfa7 : BitVec 9) : Keeps (execAgu0BasetmpWv p x rfa7) :=
  keeps_agu0Write _ _ _ _ _
theorem execAgu1BasetmpRs_keeps (p : BitVec 2) (x : BitVec 4) (rfa5 : BitVec 8) : Keeps (execAgu1BasetmpRs p x rfa5) :=
  keeps_agu1Read _ _ _ _ _
theorem execAgu1BasetmpRv_keeps (p : BitVec 2) (x : BitVec 4) (rfa5 : BitVec 8) : Keeps (execAgu1BasetmpRv p x rfa5) :=
  keeps_agu1Read _ _ _ _ _
theorem execAgu1BasetmpWs_keeps (p : BitVec 2) (x : BitVec 4) : Keeps (execAgu1BasetmpWs p x) :=
  keeps_agu1Write _ _ _ _
theorem execAgu1BasetmpWv_keeps (p : BitVec 2) (x : BitVec 4) : Keeps (execAgu1BasetmpWv p x) :=
  keeps_agu1Write _ _ _ _
theorem execAgu0Nop_keeps (p : BitVec 2) : Keeps (execAgu0Nop p) := by intro s t hs h; cases h; exact hs
theorem execAgu1Nop_keeps (p : BitVec 2) : Keeps (execAgu1Nop p) := by intro s t hs h; cases h; exact hs
theorem execAgu0MovAAy_keeps (p : BitVec 2) (x : BitVec 4) : Keeps (execAgu0MovAAy p x) := keeps_aguArith _ _ _ _
theorem execAgu1MovAAy_keeps (p : BitVec 2) (x : BitVec 4) : Keeps (execAgu1MovAAy p x) := keeps_aguArith _ _ _ _
theorem execAgu0SubAAT_keeps (p : BitVec 2) (x : BitVec 4) : Keeps (execAgu0SubAAT p x) := keeps_aguArith _ _ _ _
theorem execAgu1SubAAT_keeps (p : BitVec 2) (x : BitVec 4) : Keeps (execAgu1SubAAT p x) := keeps_aguArith _ _ _ _
theorem execAgu0AddAAT_keeps (p : BitVec 2) (x : BitVec 4) : Keeps (execAgu0AddAAT p x) := keeps_aguArith _ _ _ _
theorem execAgu1AddAAT_keeps (p : BitVec 2) (x : BitVec 4) : Keeps (execAgu1AddAAT p x) := keeps_aguArith _ _ _ _
theorem execAgu0SubAAyT_keeps (p : BitVec 2) (x : BitVec 4) : Keeps (execAgu0SubAAyT p x) := keeps_aguArith _ _ _ _
theorem execAgu1SubAAyT_keeps (p : BitVec 2) (x : BitVec 4) : Keeps (execAgu1SubAAyT p x) := keeps_aguArith _ _ _ _
theorem execAgu0AddAAyT_keeps (p : BitVec 2) (x : BitVec 4) : Keeps (execAgu0AddAAyT p x) := keeps_aguArith _ _ _ _
theorem execAgu1AddAAyT_keeps (p : BitVec 2) (x : BitVec 4) : Keeps (execAgu1AddAAyT p x) := keeps_aguArith _ _ _ _
theorem execAgu0SubTAT_keeps (p : BitVec 2) (x : BitVec 4) : Keeps (execAgu0SubTAT p x) := keeps_aguArith _ _ _ _
theorem execAgu1SubTAT_keeps (p : BitVec 2) (x : BitVec 4) : Keeps (execAgu1SubTAT p x) := keeps_aguArith _ _ _ _
theorem execAgu0AddTAT_keeps (p : BitVec 2) (x : BitVec 4) : Keeps (execAgu0AddTAT p x) := keeps_aguArith _ _ _ _
theorem execAgu1AddTAT_keeps (p : BitVec 2) (x : BitVec 4) : Keeps (execAgu1AddTAT p x) := keeps_aguArith _ _ _ _
theorem execAgu0AddAASimm_keeps (p : BitVec 2) (x : BitVec 4) : Keeps (execAgu0AddAASimm p x) :=
  keeps_aguArith _ _ _ _
theorem execAgu1AddAASimm_keeps (p : BitVec 2) (x : BitVec 4) : Keeps (execAgu1AddAASimm p x) :=
  keeps_aguArith _ _ _ _
theorem execAgu0AddAAySimm_keeps (p : BitVec 2) (x : BitVec 4) : Keeps (execAgu0AddAAySimm p x) :=
  keeps_aguArith _ _ _ _
theorem execAgu1AddAAySimm_keeps (p : BitVec 2) (x : BitVec 4) : Keeps (execAgu1AddAAySimm p x) :=
  keeps_aguArith _ _ _ _
theorem execAgu0AddTASimm_keeps (p : BitVec 2) (x : BitVec 4) : Keeps (execAgu0AddTASimm p x) :=
  keeps_aguArith _ _ _ _
theorem execAgu1AddTASimm_keeps (p : BitVec 2) (x : BitVec 4) : Keeps (execAgu1AddTASimm p x) :=
  keeps_aguArith _ _ _ _
theorem execAgu0AddTTSimm_keeps (p : BitVec 2) (x : BitVec 4) : Keeps (execAgu0AddTTSimm p x) :=
  keeps_aguArith _ _ _ _
theorem execAgu1AddTTSimm_keeps (p : BitVec 2) (x : BitVec 4) : Keeps (execAgu1AddTTSimm p x) :=
  keeps_aguArith _ _ _ _
theorem execAgu0MulTASimm_keeps (p : BitVec 2) (x : BitVec 4) : Keeps (execAgu0MulTASimm p x) :=
  keeps_aguArith _ _ _ _
theorem execAgu1MulTASimm_keeps (p : BitVec 2) (x : BitVec 4) : Keeps (execAgu1MulTASimm p x) :=
  keeps_aguArith _ _ _ _
theorem execAgu0MulTTSimm_keeps (p : BitVec 2) (x : BitVec 4) : Keeps (execAgu0MulTTSimm p x) :=
  keeps_aguArith _ _ _ _
theorem execAgu1MulTTSimm_keeps (p : BitVec 2) (x : BitVec 4) : Keeps (execAgu1MulTTSimm p x) :=
  keeps_aguArith _ _ _ _
theorem execAgu0MulTAMy_keeps (p : BitVec 2) (x : BitVec 4) : Keeps (execAgu0MulTAMy p x) := keeps_aguArith _ _ _ _
theorem execAgu1MulTAMy_keeps (p : BitVec 2) (x : BitVec 4) : Keeps (execAgu1MulTAMy p x) := keeps_aguArith _ _ _ _
theorem execAgu0Eq_keeps (p : BitVec 2) (x : BitVec 4) : Keeps (execAgu0Eq p x) := keeps_aguArith _ _ _ _
theorem execAgu1Eq_keeps (p : BitVec 2) (x : BitVec 4) : Keeps (execAgu1Eq p x) := keeps_aguArith _ _ _ _
theorem execAgu0Neq_keeps (p : BitVec 2) (x : BitVec 4) : Keeps (execAgu0Neq p x) := keeps_aguArith _ _ _ _
theorem execAgu1Neq_keeps (p : BitVec 2) (x : BitVec 4) : Keeps (execAgu1Neq p x) := keeps_aguArith _ _ _ _
theorem execAgu0GeS_keeps (p : BitVec 2) (x : BitVec 4) : Keeps (execAgu0GeS p x) := keeps_aguArith _ _ _ _
theorem execAgu1GeS_keeps (p : BitVec 2) (x : BitVec 4) : Keeps (execAgu1GeS p x) := keeps_aguArith _ _ _ _
theorem execAgu0GtS_keeps (p : BitVec 2) (x : BitVec 4) : Keeps (execAgu0GtS p x) := keeps_aguArith _ _ _ _
theorem execAgu1GtS_keeps (p : BitVec 2) (x : BitVec 4) : Keeps (execAgu1GtS p x) := keeps_aguArith _ _ _ _
theorem execAgu0LeS_keeps (p : BitVec 2) (x : BitVec 4) : Keeps (execAgu0LeS p x) := keeps_aguArith _ _ _ _
theorem execAgu1LeS_keeps (p : BitVec 2) (x : BitVec 4) : Keeps (execAgu1LeS p x) := keeps_aguArith _ _ _ _
theorem execAgu0LtS_keeps (p : BitVec 2) (x : BitVec 4) : Keeps (execAgu0LtS p x) := keeps_aguArith _ _ _ _
theorem execAgu1LtS_keeps (p : BitVec 2) (x : BitVec 4) : Keeps (execAgu1LtS p x) := keeps_aguArith _ _ _ _
theorem execAgu0MovAT_keeps (p : BitVec 2) (x : BitVec 4) : Keeps (execAgu0MovAT p x) := keeps_aguArith _ _ _ _
theorem execAgu1MovAT_keeps (p : BitVec 2) (x : BitVec 4) : Keeps (execAgu1MovAT p x) := keeps_aguArith _ _ _ _
theorem execAgu0MovTA_keeps (p : BitVec 2) (x : BitVec 4) : Keeps (execAgu0MovTA p x) := keeps_aguArith _ _ _ _
theorem execAgu1MovTA_keeps (p : BitVec 2) (x : BitVec 4) : Keeps (execAgu1MovTA p x) := keeps_aguArith _ _ _ _
theorem execAgu0MovTM_keeps (p : BitVec 2) (x : BitVec 4) : Keeps (execAgu0MovTM p x) := keeps_aguArith _ _ _ _
theorem execAgu1MovTM_keeps (p : BitVec 2) (x : BitVec 4) : Keeps (execAgu1MovTM p x) := keeps_aguArith _ _ _ _
theorem execAgu0MovTS_keeps (p : BitVec 2) (x : BitVec 4) : Keeps (execAgu0MovTS p x) := keeps_aguArith _ _ _ _
theorem execAgu1MovTS_keeps (p : BitVec 2) (x : BitVec 4) : Keeps (execAgu1MovTS p x) := keeps_aguArith _ _ _ _
theorem execAgu0MovTL_keeps (p : BitVec 2) (x : BitVec 4) : Keeps (execAgu0MovTL p x) := keeps_aguArith _ _ _ _
theorem execAgu1MovTL_keeps (p : BitVec 2) (x : BitVec 4) : Keeps (execAgu1MovTL p x) := keeps_aguArith _ _ _ _
theorem execAgu0AddltAML_keeps (p : BitVec 2) (x : BitVec 4) : Keeps (execAgu0AddltAML p x) := keeps_aguArith _ _ _ _
theorem execAgu1AddltAML_keeps (p : BitVec 2) (x : BitVec 4) : Keeps (execAgu1AddltAML p x) := keeps_aguArith _ _ _ _
theorem execAgu0SubgtAM_keeps (p : BitVec 2) (x : BitVec 4) : Keeps (execAgu0SubgtAM p x) := keeps_aguArith _ _ _ _
theorem execAgu1SubgtAM_keeps (p : BitVec 2) (x : BitVec 4) : Keeps (execAgu1SubgtAM p x) := keeps_aguArith _ _ _ _
theorem execAgu0SubgtAT_keeps (p : BitVec 2) (x : BitVec 4) : Keeps (execAgu0SubgtAT p x) := keeps_aguArith _ _ _ _
theorem execAgu1SubgtAT_keeps (p : BitVec 2) (x : BitVec 4) : Keeps (execAgu1SubgtAT p x) := keeps_aguArith _ _ _ _
theorem execAgu0AddltATL_keeps (p : BitVec 2) (x : BitVec 4) : Keeps (execAgu0AddltATL p x) := keeps_aguArith _ _ _ _
theorem execAgu1AddltATL_keeps (p : BitVec 2) (x : BitVec 4) : Keeps (execAgu1AddltATL p x) := keeps_aguArith _ _ _ _
theorem execAgu0SubgtASimm_keeps (p : BitVec 2) (x : BitVec 4) : Keeps (execAgu0SubgtASimm p x) :=
  keeps_aguArith _ _ _ _
theorem execAgu1SubgtASimm_keeps (p : BitVec 2) (x : BitVec 4) : Keeps (execAgu1SubgtASimm p x) :=
  keeps_aguArith _ _ _ _
theorem execAgu0MovASimm_keeps (p : BitVec 2) (x : BitVec 4) : Keeps (execAgu0MovASimm p x) := keeps_aguArith _ _ _ _
theorem execAgu1MovASimm_keeps (p : BitVec 2) (x : BitVec 4) : Keeps (execAgu1MovASimm p x) := keeps_aguArith _ _ _ _
theorem execAgu0ClrT_keeps (p : BitVec 2) (x : BitVec 4) : Keeps (execAgu0ClrT p x) := keeps_aguArith _ _ _ _
theorem execAgu1ClrT_keeps (p : BitVec 2) (x : BitVec 4) : Keeps (execAgu1ClrT p x) := keeps_aguArith _ _ _ _
theorem execAgu0AbsA_keeps (p : BitVec 2) (x : BitVec 4) : Keeps (execAgu0AbsA p x) := keeps_aguArith _ _ _ _
theorem execAgu1AbsA_keeps (p : BitVec 2) (x : BitVec 4) : Keeps (execAgu1AbsA p x) := keeps_aguArith _ _ _ _
theorem execAgu0AbsTA_keeps (p : BitVec 2) (x : BitVec 4) : Keeps (execAgu0AbsTA p x) := keeps_aguArith _ _ _ _
theorem execAgu1AbsTA_keeps (p : BitVec 2) (x : BitVec 4) : Keeps (execAgu1AbsTA p x) := keeps_aguArith _ _ _ _
theorem execAgu0NegTM_keeps (p : BitVec 2) (x : BitVec 4) : Keeps (execAgu0NegTM p x) := keeps_aguArith _ _ _ _
theorem execAgu1NegTM_keeps (p : BitVec 2) (x : BitVec 4) : Keeps (execAgu1NegTM p x) := keeps_aguArith _ _ _ _
theorem execAgu0MovTUimm4_keeps (p : BitVec 2) (uimm4 : BitVec 4) : Keeps (execAgu0MovTUimm4 p uimm4) :=
  keeps_aguArith _ _ _ _
theorem execAgu1MovTUimm4_keeps (p : BitVec 2) (uimm4 : BitVec 4) : Keeps (execAgu1MovTUimm4 p uimm4) :=
  keeps_aguArith _ _ _ _
theorem execAgu0Bittest_keeps (p : BitVec 2) (x : BitVec 4) : Keeps (execAgu0Bittest p x) := keeps_aguArith _ _ _ _
theorem execAgu1Bittest_keeps (p : BitVec 2) (x : BitVec 4) : Keeps (execAgu1Bittest p x) := keeps_aguArith _ _ _ _
theorem execAgu0ShlAT_keeps (p : BitVec 2) (x : BitVec 4) : Keeps (execAgu0ShlAT p x) := keeps_aguArith _ _ _ _
theorem execAgu1ShlAT_keeps (p : BitVec 2) (x : BitVec 4) : Keeps (execAgu1ShlAT p x) := keeps_aguArith _ _ _ _
theorem execAgu0ShrAT_keeps (p : BitVec 2) (x : BitVec 4) : Keeps (execAgu0ShrAT p x) := keeps_aguArith _ _ _ _
theorem execAgu1ShrAT_keeps (p : BitVec 2) (x : BitVec 4) : Keeps (execAgu1ShrAT p x) := keeps_aguArith _ _ _ _
theorem execAgu0SarAT_keeps (p : BitVec 2) (x : BitVec 4) : Keeps (execAgu0SarAT p x) := keeps_aguArith _ _ _ _
theorem execAgu1SarAT_keeps (p : BitVec 2) (x : BitVec 4) : Keeps (execAgu1SarAT p x) := keeps_aguArith _ _ _ _
theorem execAgu0AndAT_keeps (p : BitVec 2) (x : BitVec 4) : Keeps (execAgu0AndAT p x) := keeps_aguArith _ _ _ _
theorem execAgu1AndAT_keeps (p : BitVec 2) (x : BitVec 4) : Keeps (execAgu1AndAT p x) := keeps_aguArith _ _ _ _
theorem execAgu0OrAT_keeps (p : BitVec 2) (x : BitVec 4) : Keeps (execAgu0OrAT p x) := keeps_aguArith _ _ _ _
theorem execAgu1OrAT_keeps (p : BitVec 2) (x : BitVec 4) : Keeps (execAgu1OrAT p x) := keeps_aguArith _ _ _ _
theorem execAgu0XorAT_keeps (p : BitVec 2) (x : BitVec 4) : Keeps (execAgu0XorAT p x) := keeps_aguArith _ _ _ _
theorem execAgu1XorAT_keeps (p : BitVec 2) (x : BitVec 4) : Keeps (execAgu1XorAT p x) := keeps_aguArith _ _ _ _
theorem execAgu0SubuAAT_keeps (p : BitVec 2) (x : BitVec 4) : Keeps (execAgu0SubuAAT p x) := keeps_aguArith _ _ _ _
theorem execAgu1SubuAAT_keeps (p : BitVec 2) (x : BitVec 4) : Keeps (execAgu1SubuAAT p x) := keeps_aguArith _ _ _ _
theorem execAgu0AdduAAT_keeps (p : BitVec 2) (x : BitVec 4) : Keeps (execAgu0AdduAAT p x) := keeps_aguArith _ _ _ _
theorem execAgu1AdduAAT_keeps (p : BitVec 2) (x : BitVec 4) : Keeps (execAgu1AdduAAT p x) := keeps_aguArith _ _ _ _
theorem execAgu0SubuAAyT_keeps (p : BitVec 2) (x : BitVec 4) : Keeps (execAgu0SubuAAyT p x) := keeps_aguArith _ _ _ _
theorem execAgu1SubuAAyT_keeps (p : BitVec 2) (x : BitVec 4) : Keeps (execAgu1SubuAAyT p x) := keeps_aguArith _ _ _ _
theorem execAgu0AdduAAyT_keeps (p : BitVec 2) (x : BitVec 4) : Keeps (execAgu0AdduAAyT p x) := keeps_aguArith _ _ _ _
theorem execAgu1AdduAAyT_keeps (p : BitVec 2) (x : BitVec 4) : Keeps (execAgu1AdduAAyT p x) := keeps_aguArith _ _ _ _
theorem execAgu0SubuTAT_keeps (p : BitVec 2) (x : BitVec 4) : Keeps (execAgu0SubuTAT p x) := keeps_aguArith _ _ _ _
theorem execAgu1SubuTAT_keeps (p : BitVec 2) (x : BitVec 4) : Keeps (execAgu1SubuTAT p x) := keeps_aguArith _ _ _ _
theorem execAgu0AdduTAT_keeps (p : BitVec 2) (x : BitVec 4) : Keeps (execAgu0AdduTAT p x) := keeps_aguArith _ _ _ _
theorem execAgu1AdduTAT_keeps (p : BitVec 2) (x : BitVec 4) : Keeps (execAgu1AdduTAT p x) := keeps_aguArith _ _ _ _
theorem execAgu0AdduAAImm_keeps (p : BitVec 2) (x : BitVec 4) : Keeps (execAgu0AdduAAImm p x) :=
  keeps_aguArith _ _ _ _
theorem execAgu1AdduAAImm_keeps (p : BitVec 2) (x : BitVec 4) : Keeps (execAgu1AdduAAImm p x) :=
  keeps_aguArith _ _ _ _
theorem execAgu0AdduAAyImm_keeps (p : BitVec 2) (x : BitVec 4) : Keeps (execAgu0AdduAAyImm p x) :=
  keeps_aguArith _ _ _ _
theorem execAgu1AdduAAyImm_keeps (p : BitVec 2) (x : BitVec 4) : Keeps (execAgu1AdduAAyImm p x) :=
  keeps_aguArith _ _ _ _
theorem execAgu0AdduTAImm_keeps (p : BitVec 2) (x : BitVec 4) : Keeps (execAgu0AdduTAImm p x) :=
  keeps_aguArith _ _ _ _
theorem execAgu1AdduTAImm_keeps (p : BitVec 2) (x : BitVec 4) : Keeps (execAgu1AdduTAImm p x) :=
  keeps_aguArith _ _ _ _
theorem execAgu0AdduTTImm_keeps (p : BitVec 2) (x : BitVec 4) : Keeps (execAgu0AdduTTImm p x) :=
  keeps_aguArith _ _ _ _
theorem execAgu1AdduTTImm_keeps (p : BitVec 2) (x : BitVec 4) : Keeps (execAgu1AdduTTImm p x) :=
  keeps_aguArith _ _ _ _
theorem execAgu0MuluTAImm_keeps (p : BitVec 2) (x : BitVec 4) : Keeps (execAgu0MuluTAImm p x) :=
  keeps_aguArith _ _ _ _
theorem execAgu1MuluTAImm_keeps (p : BitVec 2) (x : BitVec 4) : Keeps (execAgu1MuluTAImm p x) :=
  keeps_aguArith _ _ _ _
theorem execAgu0MuluTTImm_keeps (p : BitVec 2) (x : BitVec 4) : Keeps (execAgu0MuluTTImm p x) :=
  keeps_aguArith _ _ _ _
theorem execAgu1MuluTTImm_keeps (p : BitVec 2) (x : BitVec 4) : Keeps (execAgu1MuluTTImm p x) :=
  keeps_aguArith _ _ _ _
theorem execAgu0MuluTAMy_keeps (p : BitVec 2) (x : BitVec 4) : Keeps (execAgu0MuluTAMy p x) := keeps_aguArith _ _ _ _
theorem execAgu1MuluTAMy_keeps (p : BitVec 2) (x : BitVec 4) : Keeps (execAgu1MuluTAMy p x) := keeps_aguArith _ _ _ _
theorem execAgu0GeU_keeps (p : BitVec 2) (x : BitVec 4) : Keeps (execAgu0GeU p x) := keeps_aguArith _ _ _ _
theorem execAgu1GeU_keeps (p : BitVec 2) (x : BitVec 4) : Keeps (execAgu1GeU p x) := keeps_aguArith _ _ _ _
theorem execAgu0GtU_keeps (p : BitVec 2) (x : BitVec 4) : Keeps (execAgu0GtU p x) := keeps_aguArith _ _ _ _
theorem execAgu1GtU_keeps (p : BitVec 2) (x : BitVec 4) : Keeps (execAgu1GtU p x) := keeps_aguArith _ _ _ _
theorem execAgu0LeU_keeps (p : BitVec 2) (x : BitVec 4) : Keeps (execAgu0LeU p x) := keeps_aguArith _ _ _ _
theorem execAgu1LeU_keeps (p : BitVec 2) (x : BitVec 4) : Keeps (execAgu1LeU p x) := keeps_aguArith _ _ _ _
theorem execAgu0LtU_keeps (p : BitVec 2) (x : BitVec 4) : Keeps (execAgu0LtU p x) := keeps_aguArith _ _ _ _
theorem execAgu1LtU_keeps (p : BitVec 2) (x : BitVec 4) : Keeps (execAgu1LtU p x) := keeps_aguArith _ _ _ _
theorem execAgu0AddltuAML_keeps (p : BitVec 2) (x : BitVec 4) : Keeps (execAgu0AddltuAML p x) :=
  keeps_aguArith _ _ _ _
theorem execAgu1AddltuAML_keeps (p : BitVec 2) (x : BitVec 4) : Keeps (execAgu1AddltuAML p x) :=
  keeps_aguArith _ _ _ _
theorem execAgu0SubgtuAM_keeps (p : BitVec 2) (x : BitVec 4) : Keeps (execAgu0SubgtuAM p x) := keeps_aguArith _ _ _ _
theorem execAgu1SubgtuAM_keeps (p : BitVec 2) (x : BitVec 4) : Keeps (execAgu1SubgtuAM p x) := keeps_aguArith _ _ _ _
theorem execImmv_keeps (p : BitVec 2) (rfa7 : BitVec 9) (immh imml : BitVec 40) : Keeps (execImmv p rfa7 immh imml) :=
  keeps_moveVector _ _ _ _ _
theorem execImmvc_keeps (p : BitVec 2) (rfa7 : BitVec 9) (imm : BitVec 40) : Keeps (execImmvc p rfa7 imm) :=
  keeps_moveVector _ _ _ _ _
theorem execImmsi_keeps (p : BitVec 2) (rfa7 : BitVec 9) (imm : BitVec 40) : Keeps (execImmsi p rfa7 imm) :=
  keeps_moveImm _ _ _
theorem execImmsf_keeps (p : BitVec 2) (rfa7 : BitVec 9) (imm : BitVec 40) : Keeps (execImmsf p rfa7 imm) :=
  keeps_moveImm _ _ _
theorem execImmsic_keeps (p : BitVec 2) (rfa7 : BitVec 9) (sel : BitVec 2) : Keeps (execImmsic p rfa7 sel) :=
  keeps_moveImm _ _ _
theorem execImmsfc_keeps (p : BitVec 2) (rfa7 : BitVec 9) (sel : BitVec 2) : Keeps (execImmsfc p rfa7 sel) :=
  keeps_moveImm _ _ _
theorem execImm0v_keeps (p : BitVec 2) (rfa7 : BitVec 9) : Keeps (execImm0v p rfa7) := keeps_moveVector _ _ _ _ _
theorem execImm0s_keeps (p : BitVec 2) (rfa7 : BitVec 9) : Keeps (execImm0s p rfa7) := keeps_moveImm _ _ _
theorem execMovv_keeps (p : BitVec 2) (rfa7 : BitVec 9) (src : BitVec 8) : Keeps (execMovv p rfa7 src) :=
  keeps_moveArfSource _ _ _
theorem execMovs_keeps (p : BitVec 2) (rfa7 : BitVec 9) (src : BitVec 8) : Keeps (execMovs p rfa7 src) :=
  keeps_moveScalar (fun s => readMark_invPart _ s)
theorem execMovvf_keeps (p : BitVec 2) (rfa7 : BitVec 9) (src : BitVec 8) : Keeps (execMovvf p rfa7 src) :=
  keeps_moveVector _ _ _ _ _
theorem execMovsf_keeps (p : BitVec 2) (rfa7 : BitVec 9) (src : BitVec 8) : Keeps (execMovsf p rfa7 src) :=
  keeps_moveScalar (after := id) (fun _ => rfl)
theorem execMovss_keeps (p : BitVec 2) (rfa7 : BitVec 9) (src : BitVec 8) : Keeps (execMovss p rfa7 src) :=
  keeps_moveScalar (after := id) (fun _ => rfl)
theorem execPushOp_keeps (p : BitVec 2) : Keeps (execPushOp p) := keeps_stackOp _ _
theorem execPushAgu0_keeps (p : BitVec 2) : Keeps (execPushAgu0 p) := keeps_stackOp _ _
theorem execPushAgu1_keeps (p : BitVec 2) : Keeps (execPushAgu1 p) := keeps_stackOp _ _
theorem execPop_keeps (p : BitVec 2) : Keeps (execPop p) := keeps_stackOp _ _
theorem execFlowTrue_keeps (p : BitVec 2) : Keeps (execFlowTrue p) := keeps_stackOp _ _
theorem execFlowFalse_keeps (p : BitVec 2) : Keeps (execFlowFalse p) := keeps_stackOp _ _
theorem execFsnot_keeps (p : BitVec 2) : Keeps (execFsnot p) := keeps_stackOp _ _
theorem execFsand_keeps (p : BitVec 2) : Keeps (execFsand p) := keeps_stackOp _ _
theorem execFsor_keeps (p : BitVec 2) : Keeps (execFsor p) := keeps_stackOp _ _
theorem execFsxor_keeps (p : BitVec 2) : Keeps (execFsxor p) := keeps_stackOp _ _
theorem execRepush_keeps (p : BitVec 2) : Keeps (execRepush p) := keeps_stackOp _ _
theorem execFsswap_keeps (p : BitVec 2) : Keeps (execFsswap p) := keeps_stackOp _ _
theorem execFsand2_keeps (p : BitVec 2) : Keeps (execFsand2 p) := keeps_stackOp _ _
theorem execFsi2q_keeps (p : BitVec 2) : Keeps (execFsi2q p) := keeps_stackOp _ _
theorem execFsq2i_keeps (p : BitVec 2) : Keeps (execFsq2i p) := keeps_stackOp _ _
theorem execClrp_keeps (p r : BitVec 2) : Keeps (execClrp p r) :=
  keeps_flowOp fun s t hs h => keeps_setPredReg _ _ _ s t hs h
theorem execSetp_keeps (r : BitVec 2) : Keeps (execSetp r) := keeps_setPredReg _ _ _
theorem execSetpv_keeps (r imm : BitVec 2) : Keeps (execSetpv r imm) := keeps_setPredReg _ _ _
theorem execSettop_keeps (p r : BitVec 2) : Keeps (execSettop p r) :=
  keeps_flowOp fun s t hs h => keeps_setPredReg _ _ _ s t hs h
theorem execSetop_keeps (p r : BitVec 2) : Keeps (execSetop p r) :=
  keeps_flowOp fun s t hs h => keeps_setPredReg _ _ _ s t hs h
theorem execSetagu0_keeps (p r : BitVec 2) : Keeps (execSetagu0 p r) :=
  keeps_flowOp fun s t hs h => keeps_setPredReg _ _ _ s t hs h
theorem execSetagu1_keeps (p r : BitVec 2) : Keeps (execSetagu1 p r) :=
  keeps_flowOp fun s t hs h => keeps_setPredReg _ _ _ s t hs h
theorem execSetnotp_keeps (p r : BitVec 2) : Keeps (execSetnotp p r) := keeps_flowOp fun s t hs h => by
  split at h
  · cases h
  · exact keeps_setPredReg _ _ _ s t hs h
theorem execSetnot_keeps (p r : BitVec 2) : Keeps (execSetnot p r) :=
  keeps_flowOp fun s t hs h => keeps_setPredReg _ _ _ s t hs h
theorem execBr_keeps (p : BitVec 2) (jt : BitVec 8) (off : BitVec 16) : Keeps (execBr p jt off) :=
  keeps_jumpOp (fun _ => rfl) (fun _ => rfl)
theorem execBrReg_keeps (p : BitVec 2) (jt : BitVec 8) : Keeps (execBrReg p jt) :=
  keeps_jumpOp (fun _ => rfl) (fun _ => rfl)
theorem execCall_keeps (p : BitVec 2) (jt : BitVec 8) (off : BitVec 16) : Keeps (execCall p jt off) :=
  keeps_jumpOp (fun _ => rfl) (fun _ => rfl)
theorem execCallReg_keeps (p : BitVec 2) (jt : BitVec 8) : Keeps (execCallReg p jt) :=
  keeps_jumpOp (fun _ => rfl) (fun _ => rfl)
theorem execRet_keeps (p : BitVec 2) : Keeps (execRet p) :=
  keeps_flowOp fun s t hs h => by cases h; exact hs.congr rfl
theorem execReti_keeps (p : BitVec 2) : Keeps (execReti p) :=
  keeps_flowOp fun s t hs h => by cases h; exact returnFromInterrupt_inv hs
theorem execRepb_keeps (p : BitVec 2) (len : BitVec 16) : Keeps (execRepb p len) :=
  keeps_flowOp fun s t hs h => by cases h; exact hs.congr rfl
theorem execSwpipe_keeps (on : BitVec 1) (k : BitVec 3) : Keeps (execSwpipe on k) := fun s t hs h => by
  unfold execSwpipe at h
  split at h
  · cases h
  · cases h; exact hs.congr rfl
theorem execWatchint_keeps (p : BitVec 2) : Keeps (execWatchint p) :=
  keeps_flowOp fun s t hs h => by cases h; exact hs.congr rfl
theorem execSleepon_keeps (p : BitVec 2) : Keeps (execSleepon p) := keeps_flowOp fun s t hs h => by
  split at h
  · cases h; exact hs.congr rfl
  · cases h
theorem execSirq_keeps (p n : BitVec 2) : Keeps (execSirq p n) := keeps_flowOp fun s t hs h => by
  cases h
  unfold sirqLine
  repeat' split
  all_goals exact hs.congr rfl
theorem execHalt_keeps (p : BitVec 2) : Keeps (execHalt p) :=
  keeps_flowOp fun s t hs h => by cases h; exact hs.congr rfl
theorem execWritedma_keeps (p : BitVec 2) : Keeps (execWritedma p) := keeps_flowOp (keeps_dmaSleep _)
theorem execReaddma_keeps (p : BitVec 2) : Keeps (execReaddma p) := keeps_flowOp (keeps_dmaSleep _)
theorem execPrefetchReg_keeps (p : BitVec 2) : Keeps (execPrefetchReg p) :=
  keeps_flowOp fun s t hs h => by cases h; exact prefetchAt_inv hs _
theorem execPrefetchOff_keeps (p : BitVec 2) (off : BitVec 16) : Keeps (execPrefetchOff p off) :=
  keeps_flowOp fun s t hs h => by cases h; exact prefetchAt_inv hs _
theorem execPmucmd_keeps (p cmd : BitVec 2) : Keeps (execPmucmd p cmd) := keeps_flowOp (keeps_pmuCommand _)

/-- No instruction breaks the invariant. -/
theorem exec_keeps (i : Instr) : Keeps (exec i) := by
  cases i
  case cfaddPP => exact execCfaddPP_keeps _ _ _ _
  case cfaddPN => exact execCfaddPN_keeps _ _ _ _
  case cfaddNN => exact execCfaddNN_keeps _ _ _ _
  case cfaddNP => exact execCfaddNP_keeps _ _ _ _
  case cfjaddPP => exact execCfjaddPP_keeps _ _ _ _
  case cfjaddPN => exact execCfjaddPN_keeps _ _ _ _
  case cfjaddNN => exact execCfjaddNN_keeps _ _ _ _
  case cfjaddNP => exact execCfjaddNP_keeps _ _ _ _
  case cjjaddPP => exact execCjjaddPP_keeps _ _ _ _
  case cjjaddPN => exact execCjjaddPN_keeps _ _ _ _
  case cjjaddNN => exact execCjjaddNN_keeps _ _ _ _
  case cjjaddNP => exact execCjjaddNP_keeps _ _ _ _
  case cfraddPP => exact execCfraddPP_keeps _ _ _ _
  case cfraddPN => exact execCfraddPN_keeps _ _ _ _
  case cfraddNN => exact execCfraddNN_keeps _ _ _ _
  case cfraddNP => exact execCfraddNP_keeps _ _ _ _
  case ciaddPP => exact execCiaddPP_keeps _ _ _ _
  case ciaddPN => exact execCiaddPN_keeps _ _ _ _
  case ciaddNN => exact execCiaddNN_keeps _ _ _ _
  case ciaddNP => exact execCiaddNP_keeps _ _ _ _
  case cijaddPP => exact execCijaddPP_keeps _ _ _ _
  case cijaddPN => exact execCijaddPN_keeps _ _ _ _
  case cijaddNN => exact execCijaddNN_keeps _ _ _ _
  case cijaddNP => exact execCijaddNP_keeps _ _ _ _
  case cijjaddPP => exact execCijjaddPP_keeps _ _ _ _
  case cijjaddPN => exact execCijjaddPN_keeps _ _ _ _
  case cijjaddNN => exact execCijjaddNN_keeps _ _ _ _
  case cijjaddNP => exact execCijjaddNP_keeps _ _ _ _
  case ciraddPP => exact execCiraddPP_keeps _ _ _ _
  case ciraddPN => exact execCiraddPN_keeps _ _ _ _
  case ciraddNN => exact execCiraddNN_keeps _ _ _ _
  case ciraddNP => exact execCiraddNP_keeps _ _ _ _
  case vfabsaddPP => exact execVfabsaddPP_keeps _ _ _ _
  case vfabsaddPN => exact execVfabsaddPN_keeps _ _ _ _
  case vfabsaddNN => exact execVfabsaddNN_keeps _ _ _ _
  case vfabsaddNP => exact execVfabsaddNP_keeps _ _ _ _
  case viabsaddPP => exact execViabsaddPP_keeps _ _ _ _
  case viabsaddPN => exact execViabsaddPN_keeps _ _ _ _
  case viabsaddNN => exact execViabsaddNN_keeps _ _ _ _
  case viabsaddNP => exact execViabsaddNP_keeps _ _ _ _
  case vfaddsub => exact execVfaddsub_keeps _ _ _ _ _
  case faddPP => exact execFaddPP_keeps _ _ _ _
  case faddPN => exact execFaddPN_keeps _ _ _ _
  case faddNN => exact execFaddNN_keeps _ _ _ _
  case faddNP => exact execFaddNP_keeps _ _ _ _
  case faddsub => exact execFaddsub_keeps _ _ _ _ _
  case iaddPP => exact execIaddPP_keeps _ _ _ _
  case iaddPN => exact execIaddPN_keeps _ _ _ _
  case iaddNN => exact execIaddNN_keeps _ _ _ _
  case iaddNP => exact execIaddNP_keeps _ _ _ _
  case iaddsub => exact execIaddsub_keeps _ _ _ _ _
  case fabsaddPP => exact execFabsaddPP_keeps _ _ _ _
  case fabsaddPN => exact execFabsaddPN_keeps _ _ _ _
  case fabsaddNN => exact execFabsaddNN_keeps _ _ _ _
  case fabsaddNP => exact execFabsaddNP_keeps _ _ _ _
  case iabsaddPP => exact execIabsaddPP_keeps _ _ _ _
  case iabsaddPN => exact execIabsaddPN_keeps _ _ _ _
  case iabsaddNN => exact execIabsaddNN_keeps _ _ _ _
  case iabsaddNP => exact execIabsaddNP_keeps _ _ _ _
  case vfmin => exact execVfmin_keeps _ _ _ _
  case vimin => exact execVimin_keeps _ _ _ _
  case vfmax => exact execVfmax_keeps _ _ _ _
  case vimax => exact execVimax_keeps _ _ _ _
  case vfminmax => exact execVfminmax_keeps _ _ _ _ _
  case viminmax => exact execViminmax_keeps _ _ _ _ _
  case vswap => exact execVswap_keeps _ _ _ _ _
  case fmin => exact execFmin_keeps _ _ _ _
  case imin => exact execImin_keeps _ _ _ _
  case fmax => exact execFmax_keeps _ _ _ _
  case imax => exact execImax_keeps _ _ _ _
  case fminmax => exact execFminmax_keeps _ _ _ _ _
  case iminmax => exact execIminmax_keeps _ _ _ _ _
  case fsel => exact execFsel_keeps _ _ _ _
  case isel => exact execIsel_keeps _ _ _ _
  case swap => exact execSwap_keeps _ _ _ _ _
  case viaddsub => exact execViaddsub_keeps _ _ _ _ _
  case addNop p => exact execAddNop_keeps p
  case cfeq => exact execCfeq_keeps _ _ _
  case cfne => exact execCfne_keeps _ _ _
  case vfeq => exact execVfeq_keeps _ _ _
  case vflt => exact execVflt_keeps _ _ _
  case vfgt => exact execVfgt_keeps _ _ _
  case vfle => exact execVfle_keeps _ _ _
  case vfge => exact execVfge_keeps _ _ _
  case vfne => exact execVfne_keeps _ _ _
  case vieq => exact execVieq_keeps _ _ _
  case vilt => exact execVilt_keeps _ _ _
  case vigt => exact execVigt_keeps _ _ _
  case vile => exact execVile_keeps _ _ _
  case vige => exact execVige_keeps _ _ _
  case vine => exact execVine_keeps _ _ _
  case feq => exact execFeq_keeps _ _ _
  case flt => exact execFlt_keeps _ _ _
  case fgt => exact execFgt_keeps _ _ _
  case fle => exact execFle_keeps _ _ _
  case fge => exact execFge_keeps _ _ _
  case fne => exact execFne_keeps _ _ _
  case ieq => exact execIeq_keeps _ _ _
  case ilt => exact execIlt_keeps _ _ _
  case igt => exact execIgt_keeps _ _ _
  case ile => exact execIle_keeps _ _ _
  case ige => exact execIge_keeps _ _ _
  case ine => exact execIne_keeps _ _ _
  case cieq => exact execCieq_keeps _ _ _
  case cine => exact execCine_keeps _ _ _
  case cfmulP => exact execCfmulP_keeps _ _ _ _
  case cfmulN => exact execCfmulN_keeps _ _ _ _
  case cfjmulP => exact execCfjmulP_keeps _ _ _ _
  case cfjmulN => exact execCfjmulN_keeps _ _ _ _
  case cfjmmulP => exact execCfjmmulP_keeps _ _ _ _
  case cfjmmulN => exact execCfjmmulN_keeps _ _ _ _
  case cfrmulP => exact execCfrmulP_keeps _ _ _ _
  case cfrmulN => exact execCfrmulN_keeps _ _ _ _
  case cimulP => exact execCimulP_keeps _ _ _ _
  case cimulN => exact execCimulN_keeps _ _ _ _
  case cijmulP => exact execCijmulP_keeps _ _ _ _
  case cijmulN => exact execCijmulN_keeps _ _ _ _
  case cijmmulP => exact execCijmmulP_keeps _ _ _ _
  case cijmmulN => exact execCijmmulN_keeps _ _ _ _
  case cirmulP => exact execCirmulP_keeps _ _ _ _
  case cirmulN => exact execCirmulN_keeps _ _ _ _
  case vfmulP => exact execVfmulP_keeps _ _ _ _
  case vfmulN => exact execVfmulN_keeps _ _ _ _
  case vimulP => exact execVimulP_keeps _ _ _ _
  case vimulN => exact execVimulN_keeps _ _ _ _
  case fmulP => exact execFmulP_keeps _ _ _ _
  case fmulN => exact execFmulN_keeps _ _ _ _
  case imulP => exact execImulP_keeps _ _ _ _
  case imulN => exact execImulN_keeps _ _ _ _
  case vsh => exact execVsh_keeps _ _ _ _
  case vshand => exact execVshand_keeps _ _ _ _
  case vshor => exact execVshor_keeps _ _ _ _
  case vshxor => exact execVshxor_keeps _ _ _ _
  case vbitset => exact execVbitset_keeps _ _ _ _
  case vbitclr => exact execVbitclr_keeps _ _ _ _
  case vbittgl => exact execVbittgl_keeps _ _ _ _
  case vbittst => exact execVbittst_keeps _ _ _ _
  case sh => exact execSh_keeps _ _ _ _
  case shand => exact execShand_keeps _ _ _ _
  case shor => exact execShor_keeps _ _ _ _
  case shxor => exact execShxor_keeps _ _ _ _
  case bitset => exact execBitset_keeps _ _ _ _
  case bitclr => exact execBitclr_keeps _ _ _ _
  case bittgl => exact execBittgl_keeps _ _ _ _
  case bittst => exact execBittst_keeps _ _ _ _
  case vftoi => exact execVftoi_keeps _ _ _
  case vitof => exact execVitof_keeps _ _ _
  case ftoi => exact execFtoi_keeps _ _ _
  case itof => exact execItof_keeps _ _ _
  case vrf2rf => exact execVrf2rf_keeps _ _ _
  case rf2rf => exact execRf2rf_keeps _ _ _
  case invseed => exact execInvseed_keeps _ _ _
  case invsqrtseed => exact execInvsqrtseed_keeps _ _ _
  case vinvseed => exact execVinvseed_keeps _ _ _
  case vinvsqrtseed => exact execVinvsqrtseed_keeps _ _ _
  case mulNop p => exact execMulNop_keeps p
  case agu0DirRs => exact execAgu0DirRs_keeps _ _ _
  case agu0DirRv => exact execAgu0DirRv_keeps _ _ _
  case agu0DirWs => exact execAgu0DirWs_keeps _ _ _
  case agu0DirWv => exact execAgu0DirWv_keeps _ _ _
  case agu1DirRs => exact execAgu1DirRs_keeps _ _ _
  case agu1DirRv => exact execAgu1DirRv_keeps _ _ _
  case agu1DirWs => exact execAgu1DirWs_keeps _ _
  case agu1DirWv => exact execAgu1DirWv_keeps _ _
  case agu0PostincRs => exact execAgu0PostincRs_keeps _ _ _
  case agu0PostincRv => exact execAgu0PostincRv_keeps _ _ _
  case agu0PostincWs => exact execAgu0PostincWs_keeps _ _ _
  case agu0PostincWv => exact execAgu0PostincWv_keeps _ _ _
  case agu1PostincRs => exact execAgu1PostincRs_keeps _ _ _
  case agu1PostincRv => exact execAgu1PostincRv_keeps _ _ _
  case agu1PostincWs => exact execAgu1PostincWs_keeps _ _
  case agu1PostincWv => exact execAgu1PostincWv_keeps _ _
  case agu0PostdecRs => exact execAgu0PostdecRs_keeps _ _ _
  case agu0PostdecRv => exact execAgu0PostdecRv_keeps _ _ _
  case agu0PostdecWs => exact execAgu0PostdecWs_keeps _ _ _
  case agu0PostdecWv => exact execAgu0PostdecWv_keeps _ _ _
  case agu1PostdecRs => exact execAgu1PostdecRs_keeps _ _ _
  case agu1PostdecRv => exact execAgu1PostdecRv_keeps _ _ _
  case agu1PostdecWs => exact execAgu1PostdecWs_keeps _ _
  case agu1PostdecWv => exact execAgu1PostdecWv_keeps _ _
  case agu0PreincRs => exact execAgu0PreincRs_keeps _ _ _
  case agu0PreincRv => exact execAgu0PreincRv_keeps _ _ _
  case agu0PreincWs => exact execAgu0PreincWs_keeps _ _ _
  case agu0PreincWv => exact execAgu0PreincWv_keeps _ _ _
  case agu1PreincRs => exact execAgu1PreincRs_keeps _ _ _
  case agu1PreincRv => exact execAgu1PreincRv_keeps _ _ _
  case agu1PreincWs => exact execAgu1PreincWs_keeps _ _
  case agu1PreincWv => exact execAgu1PreincWv_keeps _ _
  case agu0PredecRs => exact execAgu0PredecRs_keeps _ _ _
  case agu0PredecRv => exact execAgu0PredecRv_keeps _ _ _
  case agu0PredecWs => exact execAgu0PredecWs_keeps _ _ _
  case agu0PredecWv => exact execAgu0PredecWv_keeps _ _ _
  case agu1PredecRs => exact execAgu1PredecRs_keeps _ _ _
  case agu1PredecRv => exact execAgu1PredecRv_keeps _ _ _
  case agu1PredecWs => exact execAgu1PredecWs_keeps _ _
  case agu1PredecWv => exact execAgu1PredecWv_keeps _ _
  case agu0Postinc2Rs => exact execAgu0Postinc2Rs_keeps _ _ _
  case agu0Postinc2Rv => exact execAgu0Postinc2Rv_keeps _ _ _
  case agu0Postinc2Ws => exact execAgu0Postinc2Ws_keeps _ _ _
  case agu0Postinc2Wv => exact execAgu0Postinc2Wv_keeps _ _ _
  case agu1Postinc2Rs => exact execAgu1Postinc2Rs_keeps _ _ _
  case agu1Postinc2Rv => exact execAgu1Postinc2Rv_keeps _ _ _
  case agu1Postinc2Ws => exact execAgu1Postinc2Ws_keeps _ _
  case agu1Postinc2Wv => exact execAgu1Postinc2Wv_keeps _ _
  case agu0Postdec2Rs => exact execAgu0Postdec2Rs_keeps _ _ _
  case agu0Postdec2Rv => exact execAgu0Postdec2Rv_keeps _ _ _
  case agu0Postdec2Ws => exact execAgu0Postdec2Ws_keeps _ _ _
  case agu0Postdec2Wv => exact execAgu0Postdec2Wv_keeps _ _ _
  case agu1Postdec2Rs => exact execAgu1Postdec2Rs_keeps _ _ _
  case agu1Postdec2Rv => exact execAgu1Postdec2Rv_keeps _ _ _
  case agu1Postdec2Ws => exact execAgu1Postdec2Ws_keeps _ _
  case agu1Postdec2Wv => exact execAgu1Postdec2Wv_keeps _ _
  case agu0Preinc2Rs => exact execAgu0Preinc2Rs_keeps _ _ _
  case agu0Preinc2Rv => exact execAgu0Preinc2Rv_keeps _ _ _
  case agu0Preinc2Ws => exact execAgu0Preinc2Ws_keeps _ _ _
  case agu0Preinc2Wv => exact execAgu0Preinc2Wv_keeps _ _ _
  case agu1Preinc2Rs => exact execAgu1Preinc2Rs_keeps _ _ _
  case agu1Preinc2Rv => exact execAgu1Preinc2Rv_keeps _ _ _
  case agu1Preinc2Ws => exact execAgu1Preinc2Ws_keeps _ _
  case agu1Preinc2Wv => exact execAgu1Preinc2Wv_keeps _ _
  case agu0IndexRs => exact execAgu0IndexRs_keeps _ _ _
  case agu0IndexRv => exact execAgu0IndexRv_keeps _ _ _
  case agu0IndexWs => exact execAgu0IndexWs_keeps _ _ _
  case agu0IndexWv => exact execAgu0IndexWv_keeps _ _ _
  case agu1IndexRs => exact execAgu1IndexRs_keeps _ _ _
  case agu1IndexRv => exact execAgu1IndexRv_keeps _ _ _
  case agu1IndexWs => exact execAgu1IndexWs_keeps _ _
  case agu1IndexWv => exact execAgu1IndexWv_keeps _ _
  case agu0Base2immuRs => exact execAgu0Base2immuRs_keeps _ _ _
  case agu0Base2immuRv => exact execAgu0Base2immuRv_keeps _ _ _
  case agu0Base2immuWs => exact execAgu0Base2immuWs_keeps _ _ _
  case agu0Base2immuWv => exact execAgu0Base2immuWv_keeps _ _ _
  case agu1Base2immuRs => exact execAgu1Base2immuRs_keeps _ _ _
  case agu1Base2immuRv => exact execAgu1Base2immuRv_keeps _ _ _
  case agu1Base2immuWs => exact execAgu1Base2immuWs_keeps _ _
  case agu1Base2immuWv => exact execAgu1Base2immuWv_keeps _ _
  case agu0BaseimmuRs => exact execAgu0BaseimmuRs_keeps _ _ _
  case agu0BaseimmuRv => exact execAgu0BaseimmuRv_keeps _ _ _
  case agu0BaseimmuWs => exact execAgu0BaseimmuWs_keeps _ _ _
  case agu0BaseimmuWv => exact execAgu0BaseimmuWv_keeps _ _ _
  case agu1BaseimmuRs => exact execAgu1BaseimmuRs_keeps _ _ _
  case agu1BaseimmuRv => exact execAgu1BaseimmuRv_keeps _ _ _
  case agu1BaseimmuWs => exact execAgu1BaseimmuWs_keeps _ _
  case agu1BaseimmuWv => exact execAgu1BaseimmuWv_keeps _ _
  case agu0BaseimmRs => exact execAgu0BaseimmRs_keeps _ _ _
  case agu0BaseimmRv => exact execAgu0BaseimmRv_keeps _ _ _
  case agu0BaseimmWs => exact execAgu0BaseimmWs_keeps _ _ _
  case agu0BaseimmWv => exact execAgu0BaseimmWv_keeps _ _ _
  case agu1BaseimmRs => exact execAgu1BaseimmRs_keeps _ _ _
  case agu1BaseimmRv => exact execAgu1BaseimmRv_keeps _ _ _
  case agu1BaseimmWs => exact execAgu1BaseimmWs_keeps _ _
  case agu1BaseimmWv => exact execAgu1BaseimmWv_keeps _ _
  case agu0AbsRs => exact execAgu0AbsRs_keeps _ _ _
  case agu0AbsRv => exact execAgu0AbsRv_keeps _ _ _
  case agu0AbsWs => exact execAgu0AbsWs_keeps _ _ _
  case agu0AbsWv => exact execAgu0AbsWv_keeps _ _ _
  case agu1AbsRs => exact execAgu1AbsRs_keeps _ _ _
  case agu1AbsRv => exact execAgu1AbsRv_keeps _ _ _
  case agu1AbsWs => exact execAgu1AbsWs_keeps _ _
  case agu1AbsWv => exact execAgu1AbsWv_keeps _ _
  case agu0AbsldRs => exact execAgu0AbsldRs_keeps _ _ _
  case agu0AbsldRv => exact execAgu0AbsldRv_keeps _ _ _
  case agu0AbsldWs => exact execAgu0AbsldWs_keeps _ _ _
  case agu0AbsldWv => exact execAgu0AbsldWv_keeps _ _ _
  case agu1AbsldRs => exact execAgu1AbsldRs_keeps _ _ _
  case agu1AbsldRv => exact execAgu1AbsldRv_keeps _ _ _
  case agu1AbsldWs => exact execAgu1AbsldWs_keeps _ _
  case agu1AbsldWv => exact execAgu1AbsldWv_keeps _ _
  case agu0TmpRs => exact execAgu0TmpRs_keeps _ _ _
  case agu0TmpRv => exact execAgu0TmpRv_keeps _ _ _
  case agu0TmpWs => exact execAgu0TmpWs_keeps _ _ _
  case agu0TmpWv => exact execAgu0TmpWv_keeps _ _ _
  case agu1TmpRs => exact execAgu1TmpRs_keeps _ _ _
  case agu1TmpRv => exact execAgu1TmpRv_keeps _ _ _
  case agu1TmpWs => exact execAgu1TmpWs_keeps _ _
  case agu1TmpWv => exact execAgu1TmpWv_keeps _ _
  case agu0BasetmpRs => exact execAgu0BasetmpRs_keeps _ _ _
  case agu0BasetmpRv => exact execAgu0BasetmpRv_keeps _ _ _
  case agu0BasetmpWs => exact execAgu0BasetmpWs_keeps _ _ _
  case agu0BasetmpWv => exact execAgu0BasetmpWv_keeps _ _ _
  case agu1BasetmpRs => exact execAgu1BasetmpRs_keeps _ _ _
  case agu1BasetmpRv => exact execAgu1BasetmpRv_keeps _ _ _
  case agu1BasetmpWs => exact execAgu1BasetmpWs_keeps _ _
  case agu1BasetmpWv => exact execAgu1BasetmpWv_keeps _ _
  case agu0Nop p => exact execAgu0Nop_keeps p
  case agu1Nop p => exact execAgu1Nop_keeps p
  case agu0MovAAy => exact execAgu0MovAAy_keeps _ _
  case agu1MovAAy => exact execAgu1MovAAy_keeps _ _
  case agu0SubAAT => exact execAgu0SubAAT_keeps _ _
  case agu1SubAAT => exact execAgu1SubAAT_keeps _ _
  case agu0AddAAT => exact execAgu0AddAAT_keeps _ _
  case agu1AddAAT => exact execAgu1AddAAT_keeps _ _
  case agu0SubAAyT => exact execAgu0SubAAyT_keeps _ _
  case agu1SubAAyT => exact execAgu1SubAAyT_keeps _ _
  case agu0AddAAyT => exact execAgu0AddAAyT_keeps _ _
  case agu1AddAAyT => exact execAgu1AddAAyT_keeps _ _
  case agu0SubTAT => exact execAgu0SubTAT_keeps _ _
  case agu1SubTAT => exact execAgu1SubTAT_keeps _ _
  case agu0AddTAT => exact execAgu0AddTAT_keeps _ _
  case agu1AddTAT => exact execAgu1AddTAT_keeps _ _
  case agu0AddAASimm => exact execAgu0AddAASimm_keeps _ _
  case agu1AddAASimm => exact execAgu1AddAASimm_keeps _ _
  case agu0AddAAySimm => exact execAgu0AddAAySimm_keeps _ _
  case agu1AddAAySimm => exact execAgu1AddAAySimm_keeps _ _
  case agu0AddTASimm => exact execAgu0AddTASimm_keeps _ _
  case agu1AddTASimm => exact execAgu1AddTASimm_keeps _ _
  case agu0AddTTSimm => exact execAgu0AddTTSimm_keeps _ _
  case agu1AddTTSimm => exact execAgu1AddTTSimm_keeps _ _
  case agu0MulTASimm => exact execAgu0MulTASimm_keeps _ _
  case agu1MulTASimm => exact execAgu1MulTASimm_keeps _ _
  case agu0MulTTSimm => exact execAgu0MulTTSimm_keeps _ _
  case agu1MulTTSimm => exact execAgu1MulTTSimm_keeps _ _
  case agu0MulTAMy => exact execAgu0MulTAMy_keeps _ _
  case agu1MulTAMy => exact execAgu1MulTAMy_keeps _ _
  case agu0Eq => exact execAgu0Eq_keeps _ _
  case agu1Eq => exact execAgu1Eq_keeps _ _
  case agu0Neq => exact execAgu0Neq_keeps _ _
  case agu1Neq => exact execAgu1Neq_keeps _ _
  case agu0GeS => exact execAgu0GeS_keeps _ _
  case agu1GeS => exact execAgu1GeS_keeps _ _
  case agu0GtS => exact execAgu0GtS_keeps _ _
  case agu1GtS => exact execAgu1GtS_keeps _ _
  case agu0LeS => exact execAgu0LeS_keeps _ _
  case agu1LeS => exact execAgu1LeS_keeps _ _
  case agu0LtS => exact execAgu0LtS_keeps _ _
  case agu1LtS => exact execAgu1LtS_keeps _ _
  case agu0MovAT => exact execAgu0MovAT_keeps _ _
  case agu1MovAT => exact execAgu1MovAT_keeps _ _
  case agu0MovTA => exact execAgu0MovTA_keeps _ _
  case agu1MovTA => exact execAgu1MovTA_keeps _ _
  case agu0MovTM => exact execAgu0MovTM_keeps _ _
  case agu1MovTM => exact execAgu1MovTM_keeps _ _
  case agu0MovTS => exact execAgu0MovTS_keeps _ _
  case agu1MovTS => exact execAgu1MovTS_keeps _ _
  case agu0MovTL => exact execAgu0MovTL_keeps _ _
  case agu1MovTL => exact execAgu1MovTL_keeps _ _
  case agu0AddltAML => exact execAgu0AddltAML_keeps _ _
  case agu1AddltAML => exact execAgu1AddltAML_keeps _ _
  case agu0SubgtAM => exact execAgu0SubgtAM_keeps _ _
  case agu1SubgtAM => exact execAgu1SubgtAM_keeps _ _
  case agu0SubgtAT => exact execAgu0SubgtAT_keeps _ _
  case agu1SubgtAT => exact execAgu1SubgtAT_keeps _ _
  case agu0AddltATL => exact execAgu0AddltATL_keeps _ _
  case agu1AddltATL => exact execAgu1AddltATL_keeps _ _
  case agu0SubgtASimm => exact execAgu0SubgtASimm_keeps _ _
  case agu1SubgtASimm => exact execAgu1SubgtASimm_keeps _ _
  case agu0MovASimm => exact execAgu0MovASimm_keeps _ _
  case agu1MovASimm => exact execAgu1MovASimm_keeps _ _
  case agu0ClrT => exact execAgu0ClrT_keeps _ _
  case agu1ClrT => exact execAgu1ClrT_keeps _ _
  case agu0AbsA => exact execAgu0AbsA_keeps _ _
  case agu1AbsA => exact execAgu1AbsA_keeps _ _
  case agu0AbsTA => exact execAgu0AbsTA_keeps _ _
  case agu1AbsTA => exact execAgu1AbsTA_keeps _ _
  case agu0NegTM => exact execAgu0NegTM_keeps _ _
  case agu1NegTM => exact execAgu1NegTM_keeps _ _
  case agu0MovTUimm4 => exact execAgu0MovTUimm4_keeps _ _
  case agu1MovTUimm4 => exact execAgu1MovTUimm4_keeps _ _
  case agu0Bittest => exact execAgu0Bittest_keeps _ _
  case agu1Bittest => exact execAgu1Bittest_keeps _ _
  case agu0ShlAT => exact execAgu0ShlAT_keeps _ _
  case agu1ShlAT => exact execAgu1ShlAT_keeps _ _
  case agu0ShrAT => exact execAgu0ShrAT_keeps _ _
  case agu1ShrAT => exact execAgu1ShrAT_keeps _ _
  case agu0SarAT => exact execAgu0SarAT_keeps _ _
  case agu1SarAT => exact execAgu1SarAT_keeps _ _
  case agu0AndAT => exact execAgu0AndAT_keeps _ _
  case agu1AndAT => exact execAgu1AndAT_keeps _ _
  case agu0OrAT => exact execAgu0OrAT_keeps _ _
  case agu1OrAT => exact execAgu1OrAT_keeps _ _
  case agu0XorAT => exact execAgu0XorAT_keeps _ _
  case agu1XorAT => exact execAgu1XorAT_keeps _ _
  case agu0SubuAAT => exact execAgu0SubuAAT_keeps _ _
  case agu1SubuAAT => exact execAgu1SubuAAT_keeps _ _
  case agu0AdduAAT => exact execAgu0AdduAAT_keeps _ _
  case agu1AdduAAT => exact execAgu1AdduAAT_keeps _ _
  case agu0SubuAAyT => exact execAgu0SubuAAyT_keeps _ _
  case agu1SubuAAyT => exact execAgu1SubuAAyT_keeps _ _
  case agu0AdduAAyT => exact execAgu0AdduAAyT_keeps _ _
  case agu1AdduAAyT => exact execAgu1AdduAAyT_keeps _ _
  case agu0SubuTAT => exact execAgu0SubuTAT_keeps _ _
  case agu1SubuTAT => exact execAgu1SubuTAT_keeps _ _
  case agu0AdduTAT => exact execAgu0AdduTAT_keeps _ _
  case agu1AdduTAT => exact execAgu1AdduTAT_keeps _ _
  case agu0AdduAAImm => exact execAgu0AdduAAImm_keeps _ _
  case agu1AdduAAImm => exact execAgu1AdduAAImm_keeps _ _
  case agu0AdduAAyImm => exact execAgu0AdduAAyImm_keeps _ _
  case agu1AdduAAyImm => exact execAgu1AdduAAyImm_keeps _ _
  case agu0AdduTAImm => exact execAgu0AdduTAImm_keeps _ _
  case agu1AdduTAImm => exact execAgu1AdduTAImm_keeps _ _
  case agu0AdduTTImm => exact execAgu0AdduTTImm_keeps _ _
  case agu1AdduTTImm => exact execAgu1AdduTTImm_keeps _ _
  case agu0MuluTAImm => exact execAgu0MuluTAImm_keeps _ _
  case agu1MuluTAImm => exact execAgu1MuluTAImm_keeps _ _
  case agu0MuluTTImm => exact execAgu0MuluTTImm_keeps _ _
  case agu1MuluTTImm => exact execAgu1MuluTTImm_keeps _ _
  case agu0MuluTAMy => exact execAgu0MuluTAMy_keeps _ _
  case agu1MuluTAMy => exact execAgu1MuluTAMy_keeps _ _
  case agu0GeU => exact execAgu0GeU_keeps _ _
  case agu1GeU => exact execAgu1GeU_keeps _ _
  case agu0GtU => exact execAgu0GtU_keeps _ _
  case agu1GtU => exact execAgu1GtU_keeps _ _
  case agu0LeU => exact execAgu0LeU_keeps _ _
  case agu1LeU => exact execAgu1LeU_keeps _ _
  case agu0LtU => exact execAgu0LtU_keeps _ _
  case agu1LtU => exact execAgu1LtU_keeps _ _
  case agu0AddltuAML => exact execAgu0AddltuAML_keeps _ _
  case agu1AddltuAML => exact execAgu1AddltuAML_keeps _ _
  case agu0SubgtuAM => exact execAgu0SubgtuAM_keeps _ _
  case agu1SubgtuAM => exact execAgu1SubgtuAM_keeps _ _
  case immv => exact execImmv_keeps _ _ _ _
  case immvc => exact execImmvc_keeps _ _ _
  case immsi => exact execImmsi_keeps _ _ _
  case immsf => exact execImmsf_keeps _ _ _
  case immsic => exact execImmsic_keeps _ _ _
  case immsfc => exact execImmsfc_keeps _ _ _
  case imm0v => exact execImm0v_keeps _ _
  case imm0s => exact execImm0s_keeps _ _
  case movv => exact execMovv_keeps _ _ _
  case movs => exact execMovs_keeps _ _ _
  case movvf => exact execMovvf_keeps _ _ _
  case movsf => exact execMovsf_keeps _ _ _
  case movss => exact execMovss_keeps _ _ _
  case pushOp => exact execPushOp_keeps _
  case pushAgu0 => exact execPushAgu0_keeps _
  case pushAgu1 => exact execPushAgu1_keeps _
  case pop => exact execPop_keeps _
  case flowTrue => exact execFlowTrue_keeps _
  case flowFalse => exact execFlowFalse_keeps _
  case fsnot => exact execFsnot_keeps _
  case fsand => exact execFsand_keeps _
  case fsor => exact execFsor_keeps _
  case fsxor => exact execFsxor_keeps _
  case repush => exact execRepush_keeps _
  case fsswap => exact execFsswap_keeps _
  case fsand2 => exact execFsand2_keeps _
  case fsi2q => exact execFsi2q_keeps _
  case fsq2i => exact execFsq2i_keeps _
  case clrp => exact execClrp_keeps _ _
  case setp => exact execSetp_keeps _
  case setpv => exact execSetpv_keeps _ _
  case settop => exact execSettop_keeps _ _
  case setop => exact execSetop_keeps _ _
  case setagu0 => exact execSetagu0_keeps _ _
  case setagu1 => exact execSetagu1_keeps _ _
  case setnotp => exact execSetnotp_keeps _ _
  case setnot => exact execSetnot_keeps _ _
  case br => exact execBr_keeps _ _ _
  case brReg => exact execBrReg_keeps _ _
  case call => exact execCall_keeps _ _ _
  case callReg => exact execCallReg_keeps _ _
  case ret => exact execRet_keeps _
  case reti => exact execReti_keeps _
  case repb => exact execRepb_keeps _ _
  case swpipe => exact execSwpipe_keeps _ _
  case watchint => exact execWatchint_keeps _
  case sleepon => exact execSleepon_keeps _
  case sirq => exact execSirq_keeps _ _
  case halt => exact execHalt_keeps _
  case writedma => exact execWritedma_keeps _
  case readdma => exact execReaddma_keeps _
  case prefetchReg => exact execPrefetchReg_keeps _
  case prefetchOff => exact execPrefetchOff_keeps _ _
  case pmucmd => exact execPmucmd_keeps _ _

end Sys2Proof.Machine
end

