-- ==== Sys2Proof/Tests/Slice0.lean ====
section
/-! SUPPORT. Tests: every table row's word, written from the spec's encoding of it, decodes to its instruction; each check of
WellFormed refuses an ill-formed term; small steps against the spec's worked examples; for every statement a concrete state
and operands that meet its hypotheses. -/

namespace Sys2Proof.Tests

-- One kernel evaluation at a time: run together they need more threads than the memory limit has room for.
set_option Elab.async false

open Sys2Proof Sys2Proof.Machine Sys2Proof.Claims

/-! ## Decoding (spec 30) -/

/-- Each word, written from the spec's encoding of it, decodes to the instruction beside it; what the encoder makes of that
instruction does too. -/
noncomputable def decodes (i : Issue) (l : List (Bundle × Instr)) : Bool :=
  l.all fun r => decodeIssue i r.1 == some r.2 && issueOf r.2 == i && decodeIssue i (encode r.2) == some r.2

theorem test_decode_add_0 : decodes .add [
    (0x1E6CC4E020, .cfaddPP 2 0xf3 0x27 0x66),
    (0x1BA626070, .cfaddPN 3 0xd 0x13 0xd3),
    (0x332CBC0B0, .cfaddNN 3 0x19 0x5e 0x96),
    (0x1D26F040D0, .cfaddNP 1 0xe9 0x82 0x37),
    (0x2ED8E0110, .cfjaddPP 1 0x17 0x70 0x6c),
    (0x7D1C30150, .cfjaddPN 1 0x3e 0x18 0x8e),
    (0x2123A81A0, .cfjaddNN 2 0x10 0xd4 0x91),
    (0x1E744741D0, .cfjaddNP 1 0xf3 0x3a 0xa2),
    (0x12C21E6230, .cjjaddPP 3 0x96 0xf3 0x10),
    (0x12C1ACC270, .cjjaddPN 3 0x96 0x66 0xd),
    (0x19B91E290, .cjjaddNN 1 0xc 0x8f 0xdc),
    (0x964AD82D0, .cjjaddNP 1 0x4b 0x6c 0x25),
    (0x3E9F26330, .cfraddPP 3 0x1f 0x93 0x4f),
    (0x1A25F5E370, .cfraddPN 3 0xd1 0xaf 0x2f),
    (0x12B4926390, .cfraddNN 1 0x95 0x93 0xa4),
    (0xC11A323D0, .cfraddNP 1 0x60 0x19 0x8d),
    (0x222122430, .ciaddPP 3 0x11 0x91 0x10),
    (0x6B5F00470, .ciaddPN 3 0x35 0x80 0xaf),
    (0xDCA38E4B0, .ciaddNN 3 0x6e 0xc7 0x51),
    (0x12CEBDA4E0, .ciaddNP 2 0x96 0xed 0x75),
    (0x9B9880520, .cijaddPP 2 0x4d 0x40 0xcc),
    (0x1667F90550, .cijaddPN 1 0xb3 0xc8 0x3f),
    (0x1290E9A590, .cijaddNN 1 0x94 0x4d 0x87),
    (0x1C376B05E0, .cijaddNP 2 0xe1 0x58 0xbb),
    (0x95F738620, .cijjaddPP 2 0x4a 0x9c 0xfb),
    (0x3ED908650, .cijjaddPN 1 0x1f 0x84 0x6c),
    (0x1844EB0690, .cijjaddNN 1 0xc2 0x58 0x27),
    (0xD9EE166E0, .cijjaddNP 2 0x6c 0xb 0xf7),
    (0x291F88730, .ciraddPP 3 0x14 0xc4 0x8f),
    (0x197A5C2770, .ciraddPN 3 0xcb 0xe1 0xd2),
    (0xB0B5647A0, .ciraddNN 2 0x58 0xb2 0x5a),
    (0x1019B2A7F0, .ciraddNP 3 0x80 0x95 0xcd),
    (0x2431B0820, .vfabsaddPP 2 0x12 0xd8 0x18),
    (0xF55766860, .vfabsaddPN 2 0x7a 0xb3 0xab),
    (0x216978890, .vfabsaddNN 1 0x10 0xbc 0xb4),
    (0x14DFF288E0, .vfabsaddNP 2 0xa6 0x94 0xff)] = true := by decide +kernel

theorem test_decode_add_1 : decodes .add [
    (0x1A692E6930, .viabsaddPP 3 0xd3 0x73 0x49),
    (0xC759C8970, .viabsaddPN 3 0x63 0xe4 0xac),
    (0xCEFE29A0, .viabsaddNN 2 6 0xf1 0x77),
    (0x583D3A9E0, .viabsaddNP 2 0x2c 0x9d 0x1e),
    (0x3800000000000000020958AA20, .vfaddsub 2 0x10 0x38 0xc5 0x4a),
    (0x17CCC80A50, .faddPP 1 0xbe 0x40 0x66),
    (0x1D701C0AA0, .faddPN 2 0xeb 0xe0 0x80),
    (0x56CEE6AD0, .faddNN 1 0x2b 0x73 0x67),
    (0x9049C6B30, .faddNP 3 0x48 0xe3 0x24),
    (0x8D000000000000001BD6A90B60, .faddsub 2 0xde 0x8d 0x48 0xb5),
    (0x1FB5EB8BA0, .iaddPP 2 0xfd 0x5c 0xaf),
    (0x1EC4E78BE0, .iaddPN 2 0xf6 0x3c 0x27),
    (0x5C784EC10, .iaddNN 1 0x2e 0x27 0x3c),
    (0x78FA08C70, .iaddNP 3 0x3c 4 0x7d),
    (0x440000000000000005E0492CB0, .iaddsub 3 0x2f 0x44 0x49 2),
    (0xD8BF12CD0, .fabsaddPP 1 0x6c 0x89 0x5f),
    (0x123E8A4D30, .fabsaddPN 3 0x91 0x52 0xf4),
    (0x16309B8D50, .fabsaddNN 1 0xb1 0xdc 0x84),
    (0x1517D5CDB0, .fabsaddNP 3 0xa8 0xae 0xbe),
    (0xEBBFCEDD0, .iabsaddPP 1 0x75 0xe7 0xdf),
    (0x19ACB20E30, .iabsaddPN 3 0xcd 0x90 0x65),
    (0xCE36CAE60, .iabsaddNN 2 0x67 0x65 0x1b),
    (0x14620CEEA0, .iabsaddNP 2 0xa3 0x67 0x10),
    (0x246DFAED0, .vfmin 1 0x12 0xfd 0x36),
    (0x54B03AF20, .vimin 2 0x2a 0x1d 0x58),
    (0x1C0236F70, .vfmax 3 0xe 0x1b 1),
    (0x4E3514FB0, .vimax 3 0x27 0x8a 0x1a),
    (0x70000000000000013DC026FE0, .vfminmax 2 0x9e 7 0x13 0xe0),
    (0x610000000000000013D464F010, .viminmax 1 0x9e 0x61 0x27 0xa3),
    (0x59000000000000001EABD37060, .vswap 2 0xf5 0x59 0x9b 0x5e),
    (0x41B43D0A0, .fmin 2 0x20 0x1e 0xda),
    (0x1FEF1F70E0, .imin 2 0xff 0xfb 0x78),
    (0xF82CA1120, .fmax 2 0x7c 0x50 0x16),
    (0x36B181150, .imax 1 0x1b 0xc0 0x58),
    (0x7B0000000000000008965AB1B0, .fminmax 3 0x44 0x7b 0xd5 0xb2),
    (0x60000000000000010BE86B1D0, .iminmax 1 0x85 6 0x35 0xf4)] = true := by decide +kernel

theorem test_decode_add_2 : decodes .add [
    (0xBB624D230, .fsel 3 0x5d 0x26 0xb1),
    (0x1D7860F270, .isel 3 0xeb 7 0xc3),
    (0xFB0000000000000009BBD4B6B0, .swap 3 0x4d 0xfb 0xa5 0xde),
    (0xD9000000000000001670A87F50, .viaddsub 1 0xb3 0xd9 0x43 0x85),
    (0x1FE0, .addNop 2),
    (0x18CB9850, .cfeq 1 0x5c 0xc6),
    (0x11713890, .cfne 1 0x89 0x8b),
    (0x146AB8F0, .vfeq 3 0x55 0xa3),
    (0x1A13B910, .vflt 1 0x9d 0xd0),
    (0x7D9F950, .vfgt 1 0xcf 0x3e),
    (0x19D7D9A0, .vfle 2 0xbe 0xce),
    (0x10A699D0, .vfge 1 0x34 0x85),
    (0x178B9A20, .vfne 2 0x5c 0xbc),
    (0x11FDA50, .vieq 1 0xfe 8),
    (0x86F3AA0, .vilt 2 0x79 0x43),
    (0x13765AD0, .vigt 1 0xb2 0x9b),
    (0x19EE7B20, .vile 2 0x73 0xcf),
    (0xB5FBB70, .vige 3 0xfd 0x5a),
    (0x722BBA0, .vine 2 0x15 0x39),
    (0xF277BD0, .feq 1 0x3b 0x79),
    (0x6AAFC10, .flt 1 0x57 0x35),
    (0x1FB41C60, .fgt 2 0xa0 0xfd),
    (0x3B1CB0, .fle 3 0xd8 1),
    (0x151D3CE0, .fge 2 0xe9 0xa8),
    (0x14B9BD20, .fne 2 0xcd 0xa5),
    (0x155ADD50, .ieq 1 0xd6 0xaa),
    (0xC9D3D90, .ilt 1 0xe9 0x64),
    (0x6983DF0, .igt 3 0xc1 0x34),
    (0x5DC9E20, .ile 2 0xe4 0x2e),
    (0x14797E60, .ige 2 0xcb 0xa3),
    (0x19C2FEA0, .ine 2 0x17 0xce),
    (0xEECDEF0, .cieq 3 0x66 0x77),
    (0x1E77FF20, .cine 2 0xbf 0xf3)] = true := by decide +kernel

theorem test_decode_mul_0 : decodes .mul [
    (0x1745852010000000000000, .cfmulP 1 0xba 0x29 0x2c),
    (0x11304E050000000000000, .cfmulN 1 8 0x27 0x98),
    (0x19E4D500A0000000000000, .cfjmulP 2 0xcf 0xa8 0x26),
    (0x1A9F7320F0000000000000, .cfjmulN 3 0xd4 0x99 0xfb),
    (0x152B5E0120000000000000, .cfjmmulP 2 0xa9 0xf0 0x5a),
    (0x11A451A150000000000000, .cfjmmulN 1 0x8d 0x8d 0x22),
    (0x9F39A190000000000000, .cfrmulP 1 4 0xcd 0xf9),
    (0x14F0E361F0000000000000, .cfrmulN 3 0xa7 0x1b 0x87),
    (0x1E0E048230000000000000, .cimulP 3 0xf0 0x24 0x70),
    (0x1A86FC0250000000000000, .cimulN 1 0xd4 0xe0 0x37),
    (0x82966E290000000000000, .cijmulP 1 0x41 0x37 0x4b),
    (0x7D2F882F0000000000000, .cijmulN 3 0x3e 0xc4 0x97),
    (0x86D918320000000000000, .cijmmulP 2 0x43 0x8c 0x6c),
    (0x217DD2350000000000000, .cijmmulN 1 0x10 0xe9 0xbe),
    (0x1CD54EC3A0000000000000, .cirmulP 2 0xe6 0x76 0xaa),
    (0x1A30BD03F0000000000000, .cirmulN 3 0xd1 0xe8 0x85),
    (0x1A9C3D6820000000000000, .vfmulP 2 0xd4 0xeb 0xe1),
    (0x444F12870000000000000, .vfmulN 3 0x22 0x89 0x27),
    (0x107C00A8B0000000000000, .vimulP 3 0x83 5 0xe0),
    (0x18F385E8E0000000000000, .vimulN 2 0xc7 0x2f 0x9c),
    (0x18E4F9AA10000000000000, .fmulP 1 0xc7 0xcd 0x27),
    (0x4B3EF4A50000000000000, .fmulN 1 0x25 0x7a 0x9f),
    (0x3E211EAB0000000000000, .imulP 3 0x1f 0x8f 0x10),
    (0x15F110AAE0000000000000, .imulN 2 0xaf 0x85 0x88),
    (0xF98F92C30000000000000, .vsh 3 0x7c 0xc9 0xc7),
    (0x1C61F20C50000000000000, .vshand 1 0xe3 0x90 0xf),
    (0x62168EC90000000000000, .vshor 1 0x31 0x47 0xb),
    (0x10520E8CD0000000000000, .vshxor 1 0x82 0x74 0x90),
    (0x187D5CAD10000000000000, .vbitset 1 0xc3 0xe5 0xea),
    (0xE53AA8D50000000000000, .vbitclr 1 0x72 0x54 0x9d),
    (0x1386908DB0000000000000, .vbittgl 3 0x9c 0x84 0x34),
    (0x8F06E8DF0000000000000, .vbittst 3 0x47 0x74 0x83),
    (0x19F04F6E30000000000000, .sh 3 0xcf 0x7b 0x82),
    (0x167C30CE50000000000000, .shand 1 0xb3 0x86 0xe1),
    (0x1DBCB20EA0000000000000, .shor 2 0xed 0x90 0xe5),
    (0x1B048E6ED0000000000000, .shxor 1 0xd8 0x73 0x24)] = true := by decide +kernel

theorem test_decode_mul_1 : decodes .mul [
    (0x40E4CAF20000000000000, .bitset 2 0x20 0x65 0x72),
    (0x267D58F60000000000000, .bitclr 2 0x13 0xac 0x3e),
    (0x27586EFA0000000000000, .bittgl 2 0x13 0x37 0xac),
    (0x193CC40FE0000000000000, .bittst 2 0xc9 0x20 0xe6),
    (0x1E20171010000000000000, .vftoi 1 0xf1 0xb8),
    (0x15400BD070000000000000, .vitof 3 0xaa 0x5e),
    (0x8201C7090000000000000, .ftoi 1 0x41 0xe3),
    (0x1F000F10D0000000000000, .itof 1 0xf8 0x78),
    (0x18001E9110000000000000, .vrf2rf 1 0xc0 0xf4),
    (0xCC01C7150000000000000, .rf2rf 1 0x66 0xe3),
    (0x5401FD1A0000000000000, .invseed 2 0x2a 0xfe),
    (0x1AC00751F0000000000000, .invsqrtseed 3 0xd6 0x3a),
    (0x16A00DF210000000000000, .vinvseed 1 0xb5 0x6f),
    (0xD000AF270000000000000, .vinvsqrtseed 3 0x68 0x57),
    (0x1FE0000000000000, .mulNop 2)] = true := by decide +kernel

theorem test_decode_agu0_0 : decodes .agu0 [
    (0xA40000C000000000000000000001, .agu0DirRs 1 6 0xa4),
    (0xBC00218000000000000000000001, .agu0DirRv 1 0xc 0xbc),
    (0x11C0040C000000000000000000001, .agu0DirWs 1 6 0x11c),
    (0x16900610000000000000000000002, .agu0DirWv 2 8 0x169),
    (0x360003E000000000000000000001, .agu0PostincRs 1 0xf 0x36),
    (0x8C0022A000000000000000000001, .agu0PostincRv 1 5 0x8c),
    (0x18F0043E000000000000000000001, .agu0PostincWs 1 0xf 0x18f),
    (0x1830062A000000000000000000001, .agu0PostincWv 1 5 0x183),
    (0xFE00054000000000000000000003, .agu0PostdecRs 3 0xa 0xfe),
    (0x2E0024C000000000000000000003, .agu0PostdecRv 3 6 0x2e),
    (0x19A00442000000000000000000002, .agu0PostdecWs 2 1 0x19a),
    (0xDA00646000000000000000000003, .agu0PostdecWv 3 3 0xda),
    (0x8800064000000000000000000001, .agu0PreincRs 1 2 0x88),
    (0x600270000000000000000000001, .agu0PreincRv 1 8 6),
    (0xD600472000000000000000000002, .agu0PreincWs 2 9 0xd6),
    (0x4300674000000000000000000002, .agu0PreincWv 2 0xa 0x43),
    (0xA00009E000000000000000000001, .agu0PredecRs 1 0xf 0xa0),
    (0x1100028A000000000000000000003, .agu0PredecRv 3 5 0x110),
    (0xE50048A000000000000000000001, .agu0PredecWs 1 5 0xe5),
    (0x5C00696000000000000000000003, .agu0PredecWv 3 0xb 0x5c),
    (0x108000A8000000000000000000003, .agu0Postinc2Rs 3 4 0x108),
    (0x1DF002A8000000000000000000002, .agu0Postinc2Rv 2 4 0x1df),
    (0x152004A4000000000000000000002, .agu0Postinc2Ws 2 2 0x152),
    (0x151006AE000000000000000000003, .agu0Postinc2Wv 3 7 0x151),
    (0x1C4000DC000000000000000000001, .agu0Postdec2Rs 1 0xe 0x1c4),
    (0x146002D8000000000000000000003, .agu0Postdec2Rv 3 0xc 0x146),
    (0x1FB004CE000000000000000000001, .agu0Postdec2Ws 1 7 0x1fb),
    (0x1AD006C2000000000000000000002, .agu0Postdec2Wv 2 1 0x1ad),
    (0x1AF000F6000000000000000000001, .agu0Preinc2Rs 1 0xb 0x1af),
    (0x104002FC000000000000000000002, .agu0Preinc2Rv 2 0xe 0x104),
    (0x133004EA000000000000000000003, .agu0Preinc2Ws 3 5 0x133),
    (0x97006F8000000000000000000001, .agu0Preinc2Wv 1 0xc 0x97),
    (0x7E0010C000000000000000000003, .agu0IndexRs 3 6 0x7e),
    (0x9F0031E000000000000000000001, .agu0IndexRv 1 0xf 0x9f),
    (0x5E0050C000000000000000000001, .agu0IndexWs 1 6 0x5e),
    (0xC40070C000000000000000000001, .agu0IndexWv 1 6 0xc4)] = true := by decide +kernel

theorem test_decode_agu0_1 : decodes .agu0 [
    (0x2E0013C000000000000000000002, .agu0Base2immuRs 2 0xe 0x2e),
    (0x12D0032E000000000000000000001, .agu0Base2immuRv 1 7 0x12d),
    (0xC0052E000000000000000000001, .agu0Base2immuWs 1 7 0xc),
    (0x1430072A000000000000000000002, .agu0Base2immuWv 2 5 0x143),
    (0x1880014E000000000000000000003, .agu0BaseimmuRs 3 7 0x188),
    (0x1F900358000000000000000000002, .agu0BaseimmuRv 2 0xc 0x1f9),
    (0x9200546000000000000000000002, .agu0BaseimmuWs 2 3 0x92),
    (0x14A00754000000000000000000003, .agu0BaseimmuWv 3 0xa 0x14a),
    (0x1D200166000000000000000000003, .agu0BaseimmRs 3 3 0x1d2),
    (0x1030037A000000000000000000003, .agu0BaseimmRv 3 0xd 0x103),
    (0x1A10057C000000000000000000003, .agu0BaseimmWs 3 0xe 0x1a1),
    (0x1600077C000000000000000000001, .agu0BaseimmWv 1 0xe 0x160),
    (0x4500182000000000000000000001, .agu0AbsRs 1 1 0x45),
    (0x1EC0038C000000000000000000003, .agu0AbsRv 3 6 0x1ec),
    (0x1AC0058E000000000000000000001, .agu0AbsWs 1 7 0x1ac),
    (0x1A00792000000000000000000002, .agu0AbsWv 2 9 0x1a),
    (0x1DE001B8000000000000000000001, .agu0AbsldRs 1 0xc 0x1de),
    (0x113003BE000000000000000000003, .agu0AbsldRv 3 0xf 0x113),
    (0x10E005B6000000000000000000001, .agu0AbsldWs 1 0xb 0x10e),
    (0x17A007B8000000000000000000001, .agu0AbsldWv 1 0xc 0x17a),
    (0x1F4001D6000000000000000000003, .agu0TmpRs 3 0xb 0x1f4),
    (0x1B1003D0000000000000000000002, .agu0TmpRv 2 8 0x1b1),
    (0xF6005C4000000000000000000002, .agu0TmpWs 2 2 0xf6),
    (0x189007CA000000000000000000003, .agu0TmpWv 3 5 0x189),
    (0x163001F8000000000000000000003, .agu0BasetmpRs 3 0xc 0x163),
    (0x123003F4000000000000000000002, .agu0BasetmpRv 2 0xa 0x123),
    (0xF7005E2000000000000000000001, .agu0BasetmpWs 1 1 0xf7),
    (0x8A007F0000000000000000000001, .agu0BasetmpWv 1 8 0x8a),
    (0x800000000000000000000002, .agu0Nop 2),
    (0x83A000000000000000000002, .agu0MovAAy 2 0xd),
    (0x848000000000000000000003, .agu0SubAAT 3 4),
    (0x862000000000000000000002, .agu0AddAAT 2 1),
    (0x89C000000000000000000001, .agu0SubAAyT 1 0xe),
    (0x8AE000000000000000000002, .agu0AddAAyT 2 7),
    (0x8C4000000000000000000001, .agu0SubTAT 1 2),
    (0x8F8000000000000000000001, .agu0AddTAT 1 0xc)] = true := by decide +kernel

theorem test_decode_agu0_2 : decodes .agu0 [
    (0x906000000000000000000002, .agu0AddAASimm 2 3),
    (0x932000000000000000000003, .agu0AddAAySimm 3 9),
    (0x958000000000000000000001, .agu0AddTASimm 1 0xc),
    (0x97E000000000000000000002, .agu0AddTTSimm 2 0xf),
    (0x986000000000000000000001, .agu0MulTASimm 1 3),
    (0x9B0000000000000000000003, .agu0MulTTSimm 3 8),
    (0x9C6000000000000000000003, .agu0MulTAMy 3 3),
    (0x9EC000000000000000000002, .agu0Eq 2 6),
    (0xA02000000000000000000002, .agu0Neq 2 1),
    (0xA3C000000000000000000002, .agu0GeS 2 0xe),
    (0xA58000000000000000000001, .agu0GtS 1 0xc),
    (0xA6A000000000000000000003, .agu0LeS 3 5),
    (0xA8E000000000000000000001, .agu0LtS 1 7),
    (0xAA4000000000000000000003, .agu0MovAT 3 2),
    (0xADA000000000000000000002, .agu0MovTA 2 0xd),
    (0xAEA000000000000000000001, .agu0MovTM 1 5),
    (0xB0A000000000000000000003, .agu0MovTS 3 5),
    (0xB28000000000000000000001, .agu0MovTL 1 4),
    (0xB4C000000000000000000003, .agu0AddltAML 3 6),
    (0xB7A000000000000000000002, .agu0SubgtAM 2 0xd),
    (0xB9A000000000000000000001, .agu0SubgtAT 1 0xd),
    (0xBB2000000000000000000003, .agu0AddltATL 3 9),
    (0xBC2000000000000000000001, .agu0SubgtASimm 1 1),
    (0xBF4000000000000000000002, .agu0MovASimm 2 0xa),
    (0xC10000000000000000000002, .agu0ClrT 2 8),
    (0xC26000000000000000000003, .agu0AbsA 3 3),
    (0xC4C000000000000000000002, .agu0AbsTA 2 6),
    (0xC78000000000000000000002, .agu0NegTM 2 0xc),
    (0xC8E000000000000000000002, .agu0MovTUimm4 2 7),
    (0xCB0000000000000000000002, .agu0Bittest 2 8),
    (0xCC4000000000000000000002, .agu0ShlAT 2 2),
    (0xCE4000000000000000000001, .agu0ShrAT 1 2),
    (0xD12000000000000000000002, .agu0SarAT 2 9),
    (0xD3A000000000000000000002, .agu0AndAT 2 0xd),
    (0xD52000000000000000000001, .agu0OrAT 1 9),
    (0xD66000000000000000000001, .agu0XorAT 1 3)] = true := by decide +kernel

theorem test_decode_agu0_3 : decodes .agu0 [
    (0xD8C000000000000000000001, .agu0SubuAAT 1 6),
    (0xDBA000000000000000000002, .agu0AdduAAT 2 0xd),
    (0xDD8000000000000000000001, .agu0SubuAAyT 1 0xc),
    (0xDF8000000000000000000002, .agu0AdduAAyT 2 0xc),
    (0xE0A000000000000000000002, .agu0SubuTAT 2 5),
    (0xE30000000000000000000001, .agu0AdduTAT 1 8),
    (0xE46000000000000000000002, .agu0AdduAAImm 2 3),
    (0xE76000000000000000000003, .agu0AdduAAyImm 3 0xb),
    (0xE9E000000000000000000002, .agu0AdduTAImm 2 0xf),
    (0xEB6000000000000000000002, .agu0AdduTTImm 2 0xb),
    (0xEDC000000000000000000002, .agu0MuluTAImm 2 0xe),
    (0xEEE000000000000000000001, .agu0MuluTTImm 1 7),
    (0xF14000000000000000000002, .agu0MuluTAMy 2 0xa),
    (0xF2E000000000000000000001, .agu0GeU 1 7),
    (0xF50000000000000000000002, .agu0GtU 2 8),
    (0xF68000000000000000000001, .agu0LeU 1 4),
    (0xF96000000000000000000003, .agu0LtU 3 0xb),
    (0xFB8000000000000000000003, .agu0AddltuAML 3 0xc),
    (0xFC4000000000000000000002, .agu0SubgtuAM 2 2)] = true := by decide +kernel

theorem test_decode_agu1_0 : decodes .agu1 [
    (0x5500000000000100E000000000, .agu1DirRs 1 7 0x55),
    (0x4C000000000003214000000000, .agu1DirRv 3 0xa 0x4c),
    (0x3404000000000, .agu1DirWs 3 2),
    (0x161E000000000, .agu1DirWv 1 0xf),
    (0x6D00000000000103C000000000, .agu1PostincRs 1 0xe 0x6d),
    (0xF300000000000323C000000000, .agu1PostincRv 3 0xe 0xf3),
    (0x242E000000000, .agu1PostincWs 2 7),
    (0x1632000000000, .agu1PostincWv 1 9),
    (0xF100000000000104A000000000, .agu1PostdecRs 1 5 0xf1),
    (0x17000000000001256000000000, .agu1PostdecRv 1 0xb 0x17),
    (0x2444000000000, .agu1PostdecWs 2 2),
    (0x365C000000000, .agu1PostdecWv 3 0xe),
    (0xB6000000000001072000000000, .agu1PreincRs 1 9 0xb6),
    (0xF9000000000001264000000000, .agu1PreincRv 1 2 0xf9),
    (0x146A000000000, .agu1PreincWs 1 5),
    (0x1666000000000, .agu1PreincWv 1 3),
    (0xCE00000000000208C000000000, .agu1PredecRs 2 6 0xce),
    (0xA00000000000128A000000000, .agu1PredecRv 1 5 0xa),
    (0x1482000000000, .agu1PredecWs 1 1),
    (0x3692000000000, .agu1PredecWv 3 9),
    (0xD60000000000020B2000000000, .agu1Postinc2Rs 2 9 0xd6),
    (0x4F0000000000022B2000000000, .agu1Postinc2Rv 2 9 0x4f),
    (0x34A8000000000, .agu1Postinc2Ws 3 4),
    (0x16AC000000000, .agu1Postinc2Wv 1 6),
    (0x130000000000010C2000000000, .agu1Postdec2Rs 1 1 0x13),
    (0xE20000000000032D8000000000, .agu1Postdec2Rv 3 0xc 0xe2),
    (0x24CE000000000, .agu1Postdec2Ws 2 7),
    (0x16C2000000000, .agu1Postdec2Wv 1 1),
    (0x300000000000010F0000000000, .agu1Preinc2Rs 1 8 0x30),
    (0x730000000000012EA000000000, .agu1Preinc2Rv 1 5 0x73),
    (0x14EA000000000, .agu1Preinc2Ws 1 5),
    (0x26EC000000000, .agu1Preinc2Wv 2 6),
    (0x48000000000001110000000000, .agu1IndexRs 1 8 0x48),
    (0x34000000000003316000000000, .agu1IndexRv 3 0xb 0x34),
    (0x1512000000000, .agu1IndexWs 1 9),
    (0x1704000000000, .agu1IndexWv 1 2)] = true := by decide +kernel

theorem test_decode_agu1_1 : decodes .agu1 [
    (0x96000000000001124000000000, .agu1Base2immuRs 1 2 0x96),
    (0xC100000000000333C000000000, .agu1Base2immuRv 3 0xe 0xc1),
    (0x1536000000000, .agu1Base2immuWs 1 0xb),
    (0x373A000000000, .agu1Base2immuWv 3 0xd),
    (0xD4000000000001142000000000, .agu1BaseimmuRs 1 1 0xd4),
    (0x8400000000000335E000000000, .agu1BaseimmuRv 3 0xf 0x84),
    (0x354E000000000, .agu1BaseimmuWs 3 7),
    (0x3758000000000, .agu1BaseimmuWv 3 0xc),
    (0xE500000000000317A000000000, .agu1BaseimmRs 3 0xd 0xe5),
    (0xF5000000000003376000000000, .agu1BaseimmRv 3 0xb 0xf5),
    (0x3576000000000, .agu1BaseimmWs 3 0xb),
    (0x1764000000000, .agu1BaseimmWv 1 2),
    (0xA1000000000003182000000000, .agu1AbsRs 3 1 0xa1),
    (0x3F000000000003396000000000, .agu1AbsRv 3 0xb 0x3f),
    (0x258A000000000, .agu1AbsWs 2 5),
    (0x1790000000000, .agu1AbsWv 1 8),
    (0xD00000000000021AA000000000, .agu1AbsldRs 2 5 0xd0),
    (0x440000000000013BC000000000, .agu1AbsldRv 1 0xe 0x44),
    (0x15B8000000000, .agu1AbsldWs 1 0xc),
    (0x17A8000000000, .agu1AbsldWv 1 4),
    (0xA20000000000011D4000000000, .agu1TmpRs 1 0xa 0xa2),
    (0x140000000000033C8000000000, .agu1TmpRv 3 4 0x14),
    (0x35C6000000000, .agu1TmpWs 3 3),
    (0x27CA000000000, .agu1TmpWv 2 5),
    (0xB20000000000031E4000000000, .agu1BasetmpRs 3 2 0xb2),
    (0x7E0000000000013F6000000000, .agu1BasetmpRv 1 0xb 0x7e),
    (0x25F8000000000, .agu1BasetmpWs 2 0xc),
    (0x37EA000000000, .agu1BasetmpWv 3 5),
    (0x2800000000000, .agu1Nop 2),
    (0x183E000000000, .agu1MovAAy 1 0xf),
    (0x2844000000000, .agu1SubAAT 2 2),
    (0x2870000000000, .agu1AddAAT 2 8),
    (0x3890000000000, .agu1SubAAyT 3 8),
    (0x18BE000000000, .agu1AddAAyT 1 0xf),
    (0x38C4000000000, .agu1SubTAT 3 2),
    (0x38EA000000000, .agu1AddTAT 3 5)] = true := by decide +kernel

theorem test_decode_agu1_2 : decodes .agu1 [
    (0x391C000000000, .agu1AddAASimm 3 0xe),
    (0x293E000000000, .agu1AddAAySimm 2 0xf),
    (0x2948000000000, .agu1AddTASimm 2 4),
    (0x296E000000000, .agu1AddTTSimm 2 7),
    (0x1990000000000, .agu1MulTASimm 1 8),
    (0x29AA000000000, .agu1MulTTSimm 2 5),
    (0x29CC000000000, .agu1MulTAMy 2 6),
    (0x19FC000000000, .agu1Eq 1 0xe),
    (0x2A1A000000000, .agu1Neq 2 0xd),
    (0x2A24000000000, .agu1GeS 2 2),
    (0x1A5E000000000, .agu1GtS 1 0xf),
    (0x2A6C000000000, .agu1LeS 2 6),
    (0x2A9C000000000, .agu1LtS 2 0xe),
    (0x2ABE000000000, .agu1MovAT 2 0xf),
    (0x2ADC000000000, .agu1MovTA 2 0xe),
    (0x1AE2000000000, .agu1MovTM 1 1),
    (0x3B1E000000000, .agu1MovTS 3 0xf),
    (0x2B2E000000000, .agu1MovTL 2 7),
    (0x1B5A000000000, .agu1AddltAML 1 0xd),
    (0x2B7E000000000, .agu1SubgtAM 2 0xf),
    (0x3B8E000000000, .agu1SubgtAT 3 7),
    (0x1BB8000000000, .agu1AddltATL 1 0xc),
    (0x3BCE000000000, .agu1SubgtASimm 3 7),
    (0x1BF6000000000, .agu1MovASimm 1 0xb),
    (0x1C1E000000000, .agu1ClrT 1 0xf),
    (0x1C30000000000, .agu1AbsA 1 8),
    (0x2C4A000000000, .agu1AbsTA 2 5),
    (0x3C76000000000, .agu1NegTM 3 0xb),
    (0x3C88000000000, .agu1MovTUimm4 3 4),
    (0x3CB6000000000, .agu1Bittest 3 0xb),
    (0x1CD6000000000, .agu1ShlAT 1 0xb),
    (0x1CF2000000000, .agu1ShrAT 1 9),
    (0x1D10000000000, .agu1SarAT 1 8),
    (0x2D2E000000000, .agu1AndAT 2 7),
    (0x1D48000000000, .agu1OrAT 1 4),
    (0x2D72000000000, .agu1XorAT 2 9)] = true := by decide +kernel

theorem test_decode_agu1_3 : decodes .agu1 [
    (0x1D8C000000000, .agu1SubuAAT 1 6),
    (0x3DA8000000000, .agu1AdduAAT 3 4),
    (0x2DCE000000000, .agu1SubuAAyT 2 7),
    (0x3DE8000000000, .agu1AdduAAyT 3 4),
    (0x2E1A000000000, .agu1SubuTAT 2 0xd),
    (0x2E34000000000, .agu1AdduTAT 2 0xa),
    (0x3E52000000000, .agu1AdduAAImm 3 9),
    (0x1E64000000000, .agu1AdduAAyImm 1 2),
    (0x1E8E000000000, .agu1AdduTAImm 1 7),
    (0x2EAE000000000, .agu1AdduTTImm 2 7),
    (0x1EC6000000000, .agu1MuluTAImm 1 3),
    (0x3EFA000000000, .agu1MuluTTImm 3 0xd),
    (0x2F02000000000, .agu1MuluTAMy 2 1),
    (0x3F3C000000000, .agu1GeU 3 0xe),
    (0x1F5A000000000, .agu1GtU 1 0xd),
    (0x1F66000000000, .agu1LeU 1 3),
    (0x1F9C000000000, .agu1LtU 1 0xe),
    (0x3FBC000000000, .agu1AddltuAML 3 0xe),
    (0x3FDA000000000, .agu1SubgtuAM 3 0xd)] = true := by decide +kernel

theorem test_decode_flow_0 : decodes .flow [
    (0x20100041908971FC00913B8A27BB4, .immv 1 1 0x20c844b8fe 0x913b8a27bb),
    (0x54B0009B6E1750B20000000000004, .immvc 1 0x14b 0x4db70ba859),
    (0x7410010E80EB22DE0000000000004, .immsi 1 0x141 0x874075916f),
    (0x8E00018765AC8746000000000000C, .immsf 3 0xe0 0xc3b2d643a3),
    (0xA3300000000000004000000000004, .immsic 1 0x33 1),
    (0xD0D0000000000000C000000000008, .immsfc 2 0x10d 3),
    (0xEC700000000000000000000000004, .imm0v 1 0xc7),
    (0x107300000000000000000000000008, .imm0s 2 0x73),
    (0x12010300000000000000000000000C, .movv 3 1 3),
    (0x149B7600000000000000000000000C, .movs 3 0x9b 0x76),
    (0x17EB0000000A200000000000000008, .movvf 2 0x1eb 0x51),
    (0x19AE0000001C60000000000000000C, .movsf 3 0x1ae 0xe3),
    (0x1AF487000000000000000000000004, .movss 1 0xf4 0x87),
    (0x1C0000000000000000000000000004, .pushOp 1),
    (0x1E000000000000000000000000000C, .pushAgu0 3),
    (0x200000000000000000000000000004, .pushAgu1 1),
    (0x220000000000000000000000000004, .pop 1),
    (0x240000000000000000000000000008, .flowTrue 2),
    (0x26000000000000000000000000000C, .flowFalse 3),
    (0x28000000000000000000000000000C, .fsnot 3),
    (0x2A0000000000000000000000000008, .fsand 2),
    (0x2C0000000000000000000000000004, .fsor 1),
    (0x2E0000000000000000000000000004, .fsxor 1),
    (0x300000000000000000000000000004, .repush 1),
    (0x320000000000000000000000000008, .fsswap 2),
    (0x34000000000000000000000000000C, .fsand2 3),
    (0x36000000000000000000000000000C, .fsi2q 3),
    (0x380000000000000000000000000008, .fsq2i 2),
    (0x5C0000000000000008000000000004, .clrp 1 2),
    (0x5E0000000000000004000000000000, .setp 1),
    (0x60000000000000000C000000000008, .setpv 3 2),
    (0x620000000000000004000000000008, .settop 2 1),
    (0x640000000000000004000000000008, .setop 2 1),
    (0x66000000000000000800000000000C, .setagu0 3 2),
    (0x68000000000000000800000000000C, .setagu1 3 2),
    (0x6A000000000000000C000000000008, .setnotp 2 3)] = true := by decide +kernel

theorem test_decode_flow_1 : decodes .flow [
    (0x6C0000000000000004000000000008, .setnot 2 1),
    (0x4C00000019A9590000000000000004, .br 1 0xcd 0x4ac8),
    (0x4E0000001B2000000000000000000C, .brReg 3 0xd9),
    (0x50000000024691400000000000000C, .call 3 0x12 0x348a),
    (0x520000001F20000000000000000008, .callReg 2 0xf9),
    (0x580000000000000000000000000004, .ret 1),
    (0x5A0000000000000000000000000008, .reti 2),
    (0x6E000000000762E000000000000004, .repb 1 0x3b17),
    (0x760000000000000008000000000008, .swpipe 1 2),
    (0x3A0000000000000000000000000008, .watchint 2),
    (0x3C0000000000000000000000000008, .sleepon 2),
    (0x3E000000000000000C000000000004, .sirq 1 3),
    (0x460000000000000000000000000008, .halt 2),
    (0x48000000000000000000000000000C, .writedma 3),
    (0x700000000000000000000000000004, .readdma 1),
    (0x560000000000000000000000000004, .prefetchReg 1),
    (0x74000000000D586000000000000008, .prefetchOff 2 0x6ac3),
    (0x7A000000000000000400000000000C, .pmucmd 3 1)] = true := by decide +kernel

/-! ## Well-formedness: an ill-formed term for each check -/

theorem test_refuses_odd_pair : (Instr.cfaddPP 0 1 2 4).wellFormed = false ∧ (Instr.cfaddPP 0 2 3 4).wellFormed = false ∧
    (Instr.cfaddPP 0 2 4 5).wellFormed = false := by decide +kernel
theorem test_refuses_transfer_type : (Instr.immsi 0 0x080 1).wellFormed = false ∧
    (Instr.agu0DirRs 0 0 0x080).wellFormed = false := by decide +kernel
theorem test_refuses_vector_destination : (Instr.immv 0 0x024 1 2).wellFormed = false ∧
    (Instr.agu0DirRv 0 0 0x024).wellFormed = false := by decide +kernel
theorem test_refuses_move_to_pc : (Instr.immsi 0 0x008 1).wellFormed = false ∧ (Instr.movs 0 0x008 0x14).wellFormed = false := by
  decide +kernel
theorem test_refuses_move_in_class : (Instr.movs 0 0x009 0x0A).wellFormed = false := by decide +kernel
theorem test_refuses_vector_source : (Instr.movv 0 0x100 0x24).wellFormed = false ∧
    (Instr.movvf 0 0x100 1).wellFormed = false := by decide +kernel
theorem test_refuses_field_source : (Instr.movss 0 0x100 0x14).wellFormed = false := by decide +kernel
theorem test_refuses_jump_type : (Instr.br 0 3 0).wellFormed = false ∧ (Instr.callReg 0 0x20).wellFormed = false := by
  decide +kernel
theorem test_refuses_setnotp_3 : (Instr.setnotp 0 3).wellFormed = false := by decide +kernel
theorem test_refuses_pmu_command : (Instr.pmucmd 0 0).wellFormed = false ∧ (Instr.pmucmd 0 3).wellFormed = false := by
  decide +kernel
theorem test_accepts_table_words : (Instr.cfaddPP 0 0 2 4).wellFormed = true ∧ (Instr.movs 0 0x100 0x24).wellFormed = true := by
  decide +kernel

/-! ## Small steps against the worked vectors of spec 95 -/

/-- Two register file registers over the reset state. -/
def with2 (a b : Word40) : State := { State.reset with rf := (State.reset.rf.set 4 a).set 6 b }
/-- What an operation schedules. -/
def scheduled (r : Res) : List Pend :=
  match r with
  | .next t => t.pend
  | _ => []
/-- What reaches the A field of ARF2 from an AGU0 operation: pending entries. -/
def withA (a t : BitVec 16) : State := { State.reset with arf := State.reset.arf.set 2 { Arf.reset with a := a }, tmp0 := t }

/-- A3: -5 - 7 with the carry of the 32-bit addition. -/
theorem test_iadd_carry : scheduled (exec (.iaddNN 0 8 4 6) (with2 5 7)) =
    [⟨3, .rf .p6 [(8, 0x00FFFFFFF4)]⟩, ⟨3, .sticky false 0x00100000⟩] := by decide +kernel
/-- A6: bits 39:32 of the operands are ignored. -/
theorem test_iadd_top_byte : scheduled (exec (.iaddPP 0 8 4 6) (with2 0xAB00000005 0xCD00000007)) =
    [⟨3, .rf .p6 [(8, 0x000000000C)]⟩, ⟨3, .sticky false 0⟩] := by decide +kernel
/-- A11: a tie goes to the even neighbour, inexact. -/
theorem test_fadd_tie : scheduled (exec (.faddPP 0 8 4 6) (with2 0x3F80000001 0x2F80000000)) =
    [⟨3, .rf .p6 [(8, 0x3F80000002)]⟩, ⟨3, .sticky false 0x00040000⟩] := by decide +kernel
/-- A15: the second result goes through port 5. -/
theorem test_faddsub_ports : scheduled (exec (.faddsub 0 8 10 4 6) (with2 0x4040000000 0x3F80000000)) =
    [⟨3, .rf .p6 [(8, 0x4080000000)]⟩, ⟨3, .rf .p5 [(10, 0x4000000000)]⟩, ⟨3, .sticky false 0⟩] := by decide +kernel
/-- A21: of two equal zeros FMAX delivers S1. -/
theorem test_fmax_zeros : scheduled (exec (.fmax 0 8 4 6) (with2 0x8000000000 0)) =
    [⟨3, .rf .p6 [(8, 0x8000000000)]⟩, ⟨3, .sticky false 0⟩] := by decide +kernel
/-- A31: a NaN is not equal to itself. -/
theorem test_fne_nan : scheduled (exec (.fne 0 4 6) (with2 0x7FC0000000 0x7FC0000000)) =
    [⟨3, .cond 0x0300 0x0300⟩] := by decide +kernel
/-- M2: the sign of -S2; M6: the sign of a zero product. -/
theorem test_fmul_signs : scheduled (exec (.fmulN 0 16 4 6) (with2 0x3FC0000000 0x4000000000)) =
    [⟨3, .rf .p4 [(16, 0xC040000000)]⟩, ⟨3, .sticky false 0⟩] ∧
    scheduled (exec (.fmulP 0 16 4 6) (with2 0xBF80000000 0)) =
    [⟨3, .rf .p4 [(16, 0x8000000000)]⟩, ⟨3, .sticky false 0⟩] := by decide +kernel
/-- S7, R619: a conversion truncates, with the inexact flag. -/
theorem test_ftoi_truncates : ftoi 0xBFC0000000 = (0x00FFFFFFFF, { inex := true }) := by decide +kernel
/-- R527, Rev A: the arithmetic left shift keeps the sign bit. -/
theorem test_shift_left_keeps_sign : shift 0x0080000001 0x01 = 0x0080000002 ∧ shift 0x0040000000 0x01 = 0 := by decide +kernel
/-- U1: A + TMP0 with its flags; U3 as an AGU0 operation: overflow raises agu0aovf and wraps. -/
theorem test_add_a_t : scheduled (exec (.agu0AddAAT 0 2) (withA 0x0100 4)) =
    [⟨1, .aguA .agu0 2 0x0104⟩, ⟨1, .cond 0x000C 0⟩] ∧
    (match exec (.agu0AddAAT 0 2) (withA 0x7FFF 1) with
      | .next t => t.regs.exception == 0x40
      | _ => false) = true := by decide +kernel
/-- G11: an address below zero raises agu0ovf and leaves the pointer. -/
theorem test_predec_below_zero :
    (match exec (.agu0PredecRs 0 2 0x102) { State.reset with arf := State.reset.arf.set 2 { Arf.reset with m := 1 } } with
      | .next t => t.pend == [] && t.ports == [] && t.regs.exception == 0x10
      | _ => false) = true := by decide +kernel
/-- C9: setnotp of predreg1 = 101 gives predreg2 = 010. -/
theorem test_setnotp : scheduled (exec (.setnotp 0 1) { State.reset with regs := { Regs.reset with pred := 0x02F } }) =
    [⟨1, .pred 0x01C0 0x0080⟩] := by decide +kernel
/-- L2: a taken br of offset -3 at 0x20; L9: a reti outside a handler raises rtierr. -/
theorem test_br_and_reti :
    (match exec (.br 0 2 0xFFFD) { State.reset with regs := { Regs.reset with pc := 0x20, cond := 0x100 } } with
      | .next t => t.npc == some 0x1D && t.svc
      | _ => false) = true ∧
    (match exec (.reti 0) State.reset with
      | .next t => t.regs.exception == 0x01000000 && inDebug t
      | _ => false) = true := by decide +kernel
/-- L8: repb of length 4 at 0x10. -/
theorem test_repb : scheduled (exec (.repb 0 4) { State.reset with regs := { Regs.reset with pc := 0x10 } }) =
    [⟨1, .rept 0x00130016⟩] := by decide +kernel
/-- The table's word of IADD (code 0x2E) placed after reset is fetched and executed by the very next step. -/
theorem test_step_runs_placed_word :
    decodeTableWord 16 0x0B80 = some (.iaddPP 0 0 0 0) ∧
    (match step (State.reset.withFetchWord 16 0x0B80) with
      | .next t => t.regs.pc == 1 && t.pend == [⟨3, .rf .p6 [(0, 0)]⟩, ⟨3, .sticky false 0⟩]
      | _ => false) = true := by decide +kernel

/-! ## Witnesses: a concrete state and operands for the hypotheses of each statement -/

/-- Predication registers: 0 all on, 1 with C0 and G only, 2 and 3 off. -/
def base : State := { State.reset with regs := { Regs.reset with pred := 0x002F } }

/-- `base` running, with A0 = a and the PMU on when `pmu`. -/
def at_ (pc a : BitVec 16) (pmu : Bool) : State :=
  { base with
    arf := base.arf.set 0 { Arf.reset with a := a }
    regs := { base.regs with pc := pc }
    mode := { Mode.reset with start := true, stop := false, pmuen := pmu } }

/-- `base` with the DMA channel 0 busy. -/
def busy0 : State := { base with dma := base.dma.setChan 0 { DmaChan.reset with busy := true } }

/-- A store's producer: a MUL and an ADD result of this bundle. -/
def withOut (vec : Bool) : State :=
  { base with mulOut := some ⟨vec, 3, some 1, some 2⟩, addOut := some ⟨vec, 3, some 1, none⟩ }

/-- Pair and scalar operations: both elements on, one, none; pairs at the ends of the register file; an odd one. -/
theorem test_witness_pairs (i : Issue) (h : i = .add ∨ i = .mul) :
    PairOn i 0 base ∧ PairOn i 1 base ∧ PairOff i 2 base ∧ (∀ x ∈ [0xFE, 0x00, 0x80], IsEven x) ∧
      (∃ x ∈ [0xFE, 0xFF, 0x00], ¬IsEven x) := by
  rcases h with rfl | rfl <;> decide +kernel

theorem test_witness_scalars (i : Issue) (h : i = .add ∨ i = .mul) :
    ScalarOn i 0 base ∧ PairOff i 2 base ∧ c0 base i 1 ≠ c1 base i 1 := by
  rcases h with rfl | rfl <;> decide +kernel

theorem test_witness_PairResults : ⟨.cfaddPN, .add1, fPN, fPN⟩ ∈ floatComplexRows ++ integerComplexRows ++ pairSelectRows ∧
    ⟨.vimax, .minmax, iMax, iMax⟩ ∈ floatComplexRows ++ integerComplexRows ++ pairSelectRows := by
  simp [floatComplexRows, pairSelectRows]
theorem test_witness_ComplexWithRealSums : ∃ r ∈ complexRealRows, r.op = .cfraddPP :=
  ⟨⟨.cfraddPP, fPP, fun _ a => (a, Ev.none)⟩, by simp [complexRealRows], rfl⟩
theorem test_witness_ScalarAddResults : ⟨.isel, .minmax, pickInt, pickInt⟩ ∈ scalarAddRows := by simp [scalarAddRows]
theorem test_witness_TwoResultOperations : (∃ r ∈ pairRows2, r.op = .vswap) ∧ ∃ r ∈ scalarRows2, r.op = .swap :=
  ⟨⟨⟨.vswap, .minmax, .minmax, swap0, swap1, pick0, pick1⟩, by simp [pairRows2], rfl⟩,
    ⟨⟨.swap, .minmax, .minmax, swap0, swap0, pick0, pick0⟩, by simp [scalarRows2], rfl⟩⟩
theorem test_witness_Compares : each .vige icmp isGe ∈ pairCompareRows ∧ each .feq fcmp isEq ∈ scalarCompareRows := by
  simp [pairCompareRows, scalarCompareRows]
theorem test_witness_ComplexProducts : (.cfrmulP, fTimes) ∈ complexRealProducts ∧
    ⟨.cijmmulN, iTimes, iNP, iPP⟩ ∈ complexProductRows := by simp [complexRealProducts, complexProductRows]
theorem test_witness_ProductsAndShifts : ⟨.vbittst, .mul1, shTst, shTst⟩ ∈ mulPairRows ∧
    ⟨.sh, .mul1, shPlain, shPlain⟩ ∈ mulScalarRows := by simp [mulPairRows, mulScalarRows]
theorem test_witness_OneSourceOperations : ⟨.vftoi, .ftoi, .conv, ftoi⟩ ∈ oneSourceRows := by simp [oneSourceRows]

/-- A first bit at either end of the word, and none at all. -/
theorem test_witness_ShiftTypes :
    (∀ j : Fin 32, 31 < j.val → (0x80000000#32).getLsbD j = false) ∧ (0x80000000#32).getLsbD 31 = true ∧
      (∀ j : Fin 32, 0 < j.val → (1#32).getLsbD j = false) ∧ (1#32).getLsbD 0 = true ∧
      (∀ j : Fin 32, (0#32).getLsbD j = false) := by decide

/-- The least and the greatest number, their sums and products; a sum that is 0; infinities of both signs. -/
theorem test_witness_FloatSums :
    Finite 0x0080000000 ∧ Finite 0xFF7FFFFFFF ∧ Finite 0x8000000000 ∧ units 0x0080000000 + units 0xFF7FFFFFFF ≠ 0 ∧
      units 0x0080000000 + units 0x8080000000 = 0 ∧ units 0 + units 0x8000000000 = 0 ∧ IsInf 0x7F80000000 ∧
      IsInf 0xFF80000000 ∧ negOf 0x7F80000000 ≠ negOf 0xFF80000000 ∧ ¬IsNan 0x7F7FFFFFFF ∧ ¬IsInf 0x7F7FFFFFFF := by
  decide +kernel
theorem test_witness_FloatProducts :
    units 0x0080000000 * units 0xFF7FFFFFFF ≠ 0 ∧ units 0x0080000000 * units 0x8000000000 = 0 ∧ Finite 0x0080000000 ∧
      units 0x0080000000 ≠ 0 ∧ IsInf 0xFF80000000 ∧ Finite 0x8000000000 ∧ units 0x8000000000 = 0 := by decide +kernel
/-- The four kinds of delivery of R612: overflow from the middle on, just below it, underflow just below the least number. -/
theorem test_witness_Delivered :
    (2 ^ 33 - 1) * 2 ^ 252 ≤ (units 0x7F7FFFFFFF + units 0x6F00000000).natAbs ∧
      ¬(2 ^ 33 - 1) * 2 ^ 252 ≤ (units 0x7F7FFFFFFF + units 0x6EFFFFFFFF).natAbs ∧
      4 * (units 0x0080000001 + units 0x8080000000).natAbs < 2 ^ 33 - 1 ∧ ¬4 * (units 0x0080000000).natAbs < 2 ^ 33 - 1 := by
  decide +kernel
/-- The greatest and the least 32-bit integer as numbers, one past the greatest, an infinity, a NaN. -/
theorem test_witness_FloatConversionsAndOrder :
    (units 0x4EFFFFFFFF).tdiv (2 ^ 157) = 2 ^ 31 - 1 ∧ (units 0xCF00000000).tdiv (2 ^ 157) = -(2 ^ 31) ∧
      (units 0x4F00000000).tdiv (2 ^ 157) = 2 ^ 31 ∧ Finite 0x4F00000000 ∧ Finite 0xCF00000000 ∧ IsInf 0xFF80000000 ∧
      IsNan 0x7F80000001 ∧ rank 0x8000000000 = rank 0 ∧ rank 0xFF80000000 < rank 0xFF7FFFFFFF := by decide +kernel

/-- The least and the greatest NaN mantissa; a zero; the least and the greatest negative number; bits 39 and 0. -/
theorem test_witness_SignsNansAndSeeds :
    0 < 40 ∧ 39 < 40 ∧ IsNan 0x7F80000001 ∧ IsNan 0xFFFFFFFFFF ∧ (fpExp 0x7F80000001 = 255 ∧ fpMant 0x7F80000001 ≠ 0) ∧
      (fpExp 0x8000000000 = 0 ∧ fpMant 0x8000000000 = 0) ∧
      (0 < fpExp 0x8080000000 ∧ fpExp 0x8080000000 < 255 ∧ fpSign 0x8080000000 = true) ∧
      (0 < fpExp 0xFF7FFFFFFF ∧ fpExp 0xFF7FFFFFFF < 255 ∧ fpSign 0xFF7FFFFFFF = true) := by decide +kernel

/-- A legal address at the end of memory, an illegal one just above, an odd one; every gate; for both units. -/
theorem test_witness_accesses (u : AguUnit) :
    AguOn u 0 base ∧ AguOn u 1 base ∧ (aguGate u 2 base).g = false ∧ LegalOne .dir u 0 (at_ 0 0x3FFF false) ∧
      LegalTwo .dir u 0 (at_ 0 0x3FFE false) ∧ ¬LegalTwo .dir u 0 (at_ 0 0x3FFF false) ∧
      ¬LegalOne .dir u 0 (at_ 0 0x4000 false) ∧ (aguGate u 0 base).c0 = (aguGate u 0 base).c1 ∧
      (aguGate u 1 base).c0 ≠ (aguGate u 1 base).c1 ∧ AguOn u 0 (at_ 0 0x3FFF false) := by
  cases u <;> decide +kernel

theorem test_witness_accessRows : ∃ r ∈ accessRows, r.mode = .dir := by simp [accessRows]
theorem test_witness_ReadsIntoRegisterFile : IsEven 0xFE ∧ ¬IsEven 0xFF := by decide
theorem test_witness_Agu0ReadsIntoFirstBank :
    (∀ k, (0x13 : BitVec 7) ≠ arfAM k) ∧ ∀ k, (0x24 : BitVec 7) ≠ arfAM k := by decide
theorem test_witness_StoresOfResults :
    (∀ a, toRf 0xFF ≠ fromFirst a) ∧ produced false (withOut false).mulOut true false = some (4, some 1, none) ∧
      produced true (withOut true).mulOut true true = some (4, some 1, some 2) ∧
      produced true (withOut true).addOut true true = none ∧ AguOn .agu0 0 (withOut true) := by decide +kernel
theorem test_witness_Agu0StoresOfFirstBank :
    AguOn .agu0 0 base ∧ LegalOne .dir .agu0 0 base ∧ LegalTwo .dir .agu0 0 base ∧
      ¬LegalOne .dir .agu0 0 (at_ 0 0x4001 false) ∧ ∀ k, (0x24 : BitVec 7) ≠ arfAM k := by
  decide +kernel
/-- R674, D42: a first-bank store under G = 1, C0 = 1, C1 = 0 is no RF transfer: it stores, and does not fault. -/
theorem test_first_bank_store_by_g :
    (match agu0Write false .dir 0 0 (fromFirst 0x11) { base with regs := { base.regs with pred := 0x005 } } with
      | .next t => t.ports.length
      | _ => 0) = 1 := by decide +kernel
theorem test_witness_AddressExceptions : (at_ 0 0x4001 false).arf[0].a = 0x4001 ∧ AguOn .agu0 0 (at_ 0 0x4001 false) ∧
    ¬LegalTwo .dir .agu0 0 (at_ 0 0x4001 false) := by decide +kernel
theorem test_witness_AddressModeTable : (0 : BitVec 16) = 0 ∧ (1 : BitVec 16) ≠ 0 := by decide
theorem test_witness_AguArithmetic : ∃ r ∈ arithRows, AguOn .agu0 0 base ∧ AguOn .agu1 0 base ∧
    (aguGate .agu0 2 base).g = false ∧ r.op0 0 0 = r.op0 0 0 :=
  ⟨arithRows.head (by simp [arithRows]), List.head_mem _, by decide +kernel, by decide +kernel, by decide +kernel, rfl⟩

/-- The gates of a movement; the first-bank addresses on both sides of 0x08. -/
theorem test_witness_ScalarMovements :
    MoveOn 0 base ∧ MoveNone 2 base ∧ (gateOf base 1).c0 ≠ (gateOf base 1).c1 ∧ FlowOn 0 base ∧ FlowOff 2 base ∧
      (0x07 : BitVec 7) ≠ 0x08 ∧ (0x09 : BitVec 7) ≠ 0x08 := by decide +kernel
theorem test_witness_VectorMovements :
    MoveSome 0 base ∧ MoveSome 1 base ∧ MoveNone 2 base ∧ FlowOn 0 base ∧ FlowOff 2 base ∧ IsEven 0xFE ∧ ¬IsEven 0xFF ∧
      ((0x7F : BitVec 8).toNat < 0x80 ∧ ∀ k, (0x7F : BitVec 8) ≠ 0#1 ++ arfAM k) ∧ 0x80 ≤ (0x80 : BitVec 8).toNat ∧
      ∀ j, (0x24 : BitVec 7) ≠ arfAM j := by decide +kernel
theorem test_witness_RegisterMovements :
    (moveClass 0x14 = .arf) ∧ (moveClass 0x6F ≠ moveClass 0x70) ∧ (moveClass 0x13 ≠ .arf ∧ moveClass 0x13 = moveClass 0x70) ∧
      (0x24 ≤ (0x63 : BitVec 7).toNat ∧ (0x63 : BitVec 7).toNat < 0x64) ∧ (0x23 : BitVec 8).toNat < 0x24 ∧
      0x64 ≤ (0x64 : BitVec 8).toNat ∧ moveClass 0x14 ≠ moveClass 0x08 ∧ moveClass 0x64 ≠ moveClass 0x08 ∧ FlowOn 0 base ∧
      FlowOff 2 base ∧ MoveOn 0 base ∧ MoveNone 2 base ∧ (gateOf base 1).c0 ≠ (gateOf base 1).c1 := by decide +kernel
theorem test_witness_StackOperations : (∃ r ∈ stackRows, r.1 = .pop) ∧ FlowOn 0 base ∧ FlowOff 2 base :=
  ⟨⟨(.pop, fun _ a b => (popped a, popped b)), by simp [stackRows], rfl⟩, by decide +kernel, by decide +kernel⟩
theorem test_witness_PredicateSetting :
    FlowOn 0 base ∧ FlowOff 2 base ∧ predmode base ≤ 3 ∧
      predmode { base with regs := { base.regs with pred := 0x4007 } } = 4 ∧ (2 : BitVec 2) ≠ 3 := by decide +kernel
/-- In an interrupt. -/
def inService : State := { base with mode := { base.mode with interrupt := true } }
theorem test_witness_JumpsCallsReturns :
    FlowOn 0 base ∧ FlowOff 2 base ∧ jumpHolds base 0x00 = some true ∧ jumpHolds base 0x10 = some false ∧
      jumpHolds base 0x20 = none ∧ FlowOn 0 inService ∧ inService.mode.interrupt = true ∧ base.mode.interrupt = false := by
  decide +kernel
/-- A software-pipelined loop of 3 + 2 iterations with c of them left. -/
def pipelined (c : BitVec 32) : State :=
  { base with
    mode := { base.mode with softpipe := true, maxstage := 2 }, regs := { base.regs with looplen := 5, loopcnt := c } }
/-- The first and the last loop-cycle of stage 0, and the one after it. -/
theorem test_witness_LoopOperations :
    inService.mode.interrupt = true ∧ base.mode.interrupt = false ∧ FlowOn 0 base ∧ FlowOff 2 base ∧ base.ports = [] ∧
      (pipelined 5).mode.softpipe = true ∧ base.mode.softpipe = false ∧ Issue.add ≠ .flow ∧ Issue.agu1 ≠ .flow ∧
      ((pipelined 5).regs.looplen - (pipelined 5).mode.maxstage.setWidth 32).toNat = 3 ∧
      (stageOf (pipelined 5).vliw .add).toNat = 0 ∧ ((pipelined 5).regs.looplen - (pipelined 5).regs.loopcnt).toNat = 0 ∧
      ((pipelined 3).regs.looplen - (pipelined 3).regs.loopcnt).toNat = 2 ∧
      ((pipelined 2).regs.looplen - (pipelined 2).regs.loopcnt).toNat = 3 := by decide +kernel
theorem test_witness_WatchHaltSleepLines :
    FlowOn 0 (at_ 0x3FC 0 true) ∧ ((at_ 0x3FC 0 true).regs.pc.setWidth 10 : BitVec 10) ≤ 0x3FC ∧
      FlowOn 0 (at_ 0x7FD 0 true) ∧ (at_ 0x7FD 0 true).mode.pmuen = true ∧
      0x3FC < ((at_ 0x7FD 0 true).regs.pc.setWidth 10 : BitVec 10) ∧ FlowOff 2 base := by decide +kernel
theorem test_witness_DmaSleepOperations :
    FlowOn 0 base ∧ base.mode.pmuen = false ∧ chanBusy base 0 = false ∧ chanBusy busy0 0 = true ∧
      FlowOn 0 busy0 ∧ (at_ 0x3FC 0 true).mode.pmuen = true ∧
      ({ at_ 0x3FC 0 true with dma := { Dma.reset with active := 3 } } : State).dma.active = 3 := by decide +kernel

/-- Virtual page 0 mapped to physical page 0 with its first chunk. -/
def mappedPage (chunk : Bool) : State :=
  { at_ 0 0 true with pmu := (Pmu.reset.setVirt 0 1).setMapped 0 (if chunk then 0x00010040 else 0x40) }
theorem test_witness_PmuOperations :
    (at_ 0 0 true).mode.pmuen = true ∧ FlowOn 0 (at_ 0 0 true) ∧ (mappedPage true).pmu.xlate 0x003F = .hit 0x3F ∧
      (mappedPage false).pmu.xlate 0 = .chunkFault 0 ∧ (mappedPage false).pmu.job = none ∧
      (mappedPage true).pmu.xlate 0xFFFF = .pageFault ∧ (choosePage (List.range 16) (at_ 0 0 true).pmu).1 = some 7 := by
  decide +kernel
/-- Eight fixed pages leave no page to replace. -/
def fullPmu : Pmu := { Pmu.reset with virt := Vector.replicate 64 3, mapped := Vector.replicate 8 0x40 }
theorem test_witness_PmuOperations_full :
    (choosePage (List.range 16) fullPmu).1 = none ∧ ({ fullPmu with virt := fullPmu.virt.set 5 0 }).xlate 0x1400 = .pageFault := by
  decide +kernel

/-- Virtual page q in physical page q, chunk 0 alone; the descriptor of virtual page q is d q. -/
def eight (d : BitVec 3 → BitVec 6) : Pmu :=
  { Pmu.reset with
    virt := Vector.ofFn fun v : Fin 64 => if v.val < 8 then d (BitVec.ofNat 3 v.val) else 0
    mapped := Vector.ofFn fun q : Fin 8 => 0x00010040 ||| BitVec.ofNat 32 q.val }
/-- From physical page 7 on: a free first page; a page neither fixed nor used last of all; one not fixed first of all. -/
theorem test_witness_PageReplacement :
    (Pmu.reset.mappedAt 7).getLsbD 6 = false ∧
      (∀ q : BitVec 3, ((eight fun _ => 5).mappedAt q).getLsbD 6 = true ∧
        ((eight fun _ => 5).mappedAt q).extractLsb' 0 6 = (q.setWidth 6 : BitVec 6)) ∧
      (∀ q : BitVec 3, ((eight fun q => if q = 6 then 1 else 5).virtAt (q.setWidth 6)).getLsbD 2 = decide (q ≠ 6)) ∧
      (∀ q : BitVec 3, ((eight fun q => if q = 7 then 5 else 3).virtAt (q.setWidth 6)).getLsbD 1 = decide (q ≠ 7)) ∧
      (choosePage (List.range 16) (eight fun _ => 5)).1 = some 7 ∧
      (choosePage (List.range 16) (eight fun q => if q = 6 then 1 else 5)).1 = some 6 ∧
      (choosePage (List.range 16) (eight fun _ => 3)).1 = none ∧ (eight fun _ => 3).xlate 0xFFFF = .pageFault ∧
      (eight fun _ => 3).xlate 0x1FFF = .chunkFault 0 ∧ (eight fun _ => 3).job = none ∧
      (eight fun _ => 3).missAt ≠ some 0xFFFF := by decide +kernel

theorem test_witness_DecodeOfEncode :
    (Instr.cfaddPP 3 0xFE 0 0x80).wellFormed = true ∧ (Instr.br 3 0x10 0xFFFF).wellFormed = true := by decide +kernel
/-- A word whose FLOW issue has an unassigned code under predication register p. -/
noncomputable def flowWord (p : BitVec 2) : Bundle := setField (setField nopWord 113 (0x3F#6)) 2 p
/-- R270, R344: an unassigned FLOW code under a false predicate changes nothing. R296: it is refused under a true one. -/
theorem test_unassigned_flow_off : runFlow (flowWord 2) .unknown base = .next base ∧
    runFlow (flowWord 0) .unknown base = .refused .flowCode := by
  refine ⟨?_, ?_⟩ <;> rfl
theorem test_witness_UnknownCodesRaise :
    (FlowOn ((flowWord 0).extractLsb' 2 2) base ∧ decodeIssue .flow (flowWord 0) = none ∧
      FlowOff ((flowWord 2).extractLsb' 2 2) base ∧ decodeIssue .flow (flowWord 2) = none) ∧
      (flowTakes 0x01 = 15 ∧ flowTakes 0x04 = 12 ∧ flowTakes 0x3A = 4 ∧ flowTakes 0x05 = 0) ∧
      (needsMore (nopWord.extractLsb' 89 7) = false ∧ needsMore (nopWord.extractLsb' 41 7) = false) ∧
    (decodeIssue .add (setField nopWord 6 (0x7E#7))).isNone = true ∧ (inhibited (setField nopWord 6 (0x7E#7))).getLsbD 0 = false ∧
      (decodeIssue .mul (setField nopWord 54 (0x10#7))).isNone = true ∧
      (decodeIssue .agu0 (setField nopWord 89 (0x7F#7))).isNone = true ∧
      (decodeIssue .agu1 (setField nopWord 41 (0x7F#7))).isNone = true ∧
      (inhibited (setField nopWord 41 (0x7F#7))).getLsbD 1 = false ∧
      decodeIssue .flow (setField nopWord 113 (0x3F#6)) = none := by decide +kernel

/-- A started core whose next word is one ADD operation beside no-operations. -/
noncomputable def ready : State := (startCore State.reset).setMem (Mem.setPm [] 0 (encode (.faddPP 0 2 0 1)))
/-- The next state, or the state itself. -/
noncomputable def go (f : State → Res) (s : State) : State :=
  match f s with
  | .next t => t
  | _ => s
theorem test_witness_StepRunsTheBundle :
    inDebug (cycleInputs ready) = false ∧ beforeCore ready = .next (go beforeCore ready) ∧ inDebug (go beforeCore ready) = false ∧
      (go beforeCore ready).mode.asleep = false ∧ (go beforeCore ready).landed = false ∧
      physOf (go beforeCore ready) (go beforeCore ready).regs.pc = some 0 ∧
      land (go beforeCore ready) = .next (go land (go beforeCore ready)) ∧
      (go land (go beforeCore ready)).resetNow = false ∧
      physOf (go land (go beforeCore ready)) (go land (go beforeCore ready)).regs.pc = some 0 ∧
      (go land (go beforeCore ready)).mode.pmcheck = false ∧
      decodeBytes .add (bytesOf ((go land (go beforeCore ready)).mem.pm 0)) = .ok (.faddPP 0 2 0 1) ∧
      agu0First ((go land (go beforeCore ready)).mem.pm 0) = false := by
  refine ⟨?_, rfl, ?_, ?_, ?_, ?_, rfl, ?_, ?_, ?_, ?_, ?_⟩ <;> decide +kernel

theorem ready_inv : ready.Inv := by
  have hr : ready.regs = Regs.reset := rfl
  have hp : ready.pmu = Pmu.reset := rfl
  constructor
  · rw [show ready.mem = Mem.setPm [] 0 (encode (.faddPP 0 2 0 1)) from rfl]
    exact Mem.setPm_wf (by decide) 0 _
  · rw [hr]; decide
  · rw [hr]; decide
  · rw [hr]; decide
  · rw [hr]; decide
  · rfl
  · rw [hp]; decide +kernel
/-- A state that keeps the invariant and steps: a bundle runs and the program counter moves on. -/
theorem test_witness_StepKeepsInvariant : ready.Inv ∧ ∃ t, step ready = .next t ∧ t.regs.pc = 1 := by
  refine ⟨ready_inv, ?_⟩
  have h : (match step ready with
    | .next t => t.regs.pc == 1
    | _ => false) = true := by decide +kernel
  revert h
  generalize step ready = r
  intro h
  cases r with
  | next t => exact ⟨t, rfl, by simpa using h⟩
  | fault _ => simp at h
  | refused _ => simp at h
/-- A cycle in which the reset input is active and every shared line changes. -/
def resetInput : CycleIn := { CycleIn.quiet with reset := true, shared := some 0xFF, line2 := true, dbgReq := some false }
theorem test_witness_ResetValues : (at_ 5 6 false).dbgReq = false ∧ (at_ 5 6 false).regs.pc ≠ 0 ∧
    ({ at_ 5 6 false with inp := resetInput } : State).inp.reset = true ∧
    ({ at_ 5 6 false with inp := resetInput } : State).inp.dbgReq.getD true = false := by decide +kernel
/-- The reset state in whose next cycle the host writes start to MGCCTRL. -/
def startedNow : State :=
  { State.reset with env := [{ CycleIn.quiet with slave := some ⟨0x680000, some 0x10, true⟩ }] }
theorem test_witness_FrozenCore :
    inDebug State.reset = true ∧ (enterSleep (at_ 0 0 false)).mode.asleep = true ∧ inDebug (at_ 0 0 true) = false ∧
      physOf (at_ 0 0 true) 0 = none ∧ (at_ 0 0 true).landed = false ∧ inDebug (cycleInputs startedNow) = true ∧
      beforeCore startedNow = .next (go beforeCore startedNow) ∧ inDebug (go beforeCore startedNow) = false := by
  refine ⟨?_, ?_, ?_, ?_, ?_, ?_, rfl, ?_⟩ <;> decide +kernel
/-- The word at MGCPC has wrong parity and is checked. -/
def wrongWord (brk nonefatal : Bool) : State :=
  { at_ 0 0 false with
    badParity := [0]
    mode := { (at_ 0 0 false).mode with pmcheck := true, pty2break := brk, nonefatal := nonefatal } }
theorem test_witness_FrozenCore_parity :
    physOf (wrongWord true false) (wrongWord true false).regs.pc = some 0 ∧ (wrongWord true false).mode.pmcheck = true ∧
      0 ∈ (wrongWord true false).badParity ∧ (wrongWord true false).mode.pty2break = true ∧
      (wrongWord false false).mode.pty2break = false ∧ (wrongWord false false).regs.mask.getLsbD 23 = false ∧
      (fatalNow (wrongWord false false)).getLsbD 23 = true ∧ (fatalNow (wrongWord false true)).getLsbD 23 = false ∧
      inDebug (wrongWord true false) = false ∧ (wrongWord true false).mode.asleep = false ∧
      (wrongWord true false).landed = false ∧ ({ wrongWord true false with landed := true } : State).landed = true ∧
      (at_ 0 0 false).mode.pmcheck = false := by decide +kernel
/-- R1067: in step mode the end of a bundle is followed by debug state, and not outside it. -/
theorem test_step_mode :
    inDebug (endBundle (decodeBundle nopWord) none
        { at_ 0 0 false with mode := { (at_ 0 0 false).mode with step := true } }) = true ∧
      inDebug (endBundle (decodeBundle nopWord) none (at_ 0 0 false)) = false := by decide +kernel
theorem test_witness_AddressTranslation :
    (at_ 0 0 true).mode.pmuen = true ∧ (at_ 0 0 false).mode.pmuen = false ∧ (at_ 0 0 true).pmu.missAt ≠ some 0 ∧
      ({ (at_ 0 0 true).pmu with missAt := some 7 } : Pmu).missAt = some 7 := by decide +kernel
/-- `base` at pc with a repeat block that ends at 7 and count n. -/
def looping (pc : BitVec 16) (n : BitVec 32) : State :=
  { base with regs := { base.regs with pc := pc, rept := 0x00030007, loopcnt := n } }
theorem test_witness_NextProgramCounter :
    (looping 7 2).npc = none ∧ (looping 7 2).regs.pc = (looping 7 2).regs.rept.setWidth 16 ∧ 1 < (looping 7 2).regs.loopcnt ∧
      (looping 7 1).regs.loopcnt = 1 ∧ (looping 7 0).regs.loopcnt = 0 ∧
      (looping 8 1).regs.pc ≠ (looping 8 1).regs.rept.setWidth 16 ∧
      ({ base with npc := some 5 } : State).npc = some 5 := by decide +kernel
/-- `base` with MGCMASK and MGCEXCEPTION. -/
def excState (mask exc : BitVec 32) : State := { base with regs := { base.regs with mask := mask, exception := exc } }
theorem test_witness_TakingAnException :
    (excState 1 0).regs.mask.getLsbD Exc.badin.bit = true ∧ base.regs.mask.getLsbD Exc.dmabusy.bit = false ∧
      (fatalNow base).getLsbD Exc.dmabusy.bit = true ∧ (fatalNow base).getLsbD Exc.badin.bit = false ∧
      (excState 0 0x10000000).regs.exception.getLsbD Exc.dmabusy.bit = true ∧
      (fatalNow (excState 0 0x10000000)).getLsbD Exc.dmabusy.bit = true ∧
      ((0x28000000 : BitVec 32).getLsbD 31 = false ∧ (ctrlModes 0x28000000 base.mode).allfatal = true ∧
        (ctrlModes 0x28000000 base.mode).nonefatal = true) := by decide +kernel
/-- Lines 0 and 7 pending and enabled, unmasked. -/
def pending (prio : BitVec 24) : State :=
  { at_ 0 0 false with ints := { Ints.reset with pend := 0x81, en := 0x81, mask := 0, prio := prio } }
theorem test_witness_Interrupts :
    takenLine (pending 0) = some 0 ∧ takenLine (pending 1) = some 7 ∧ takenLine base = none ∧
      takenLine { pending 0 with mode := { (pending 0).mode with softpipe := true } } = none ∧
      takenLine { pending 0 with held := some Ints.reset } = none ∧
      ({ pending 0 with svc := true } : State).svc = true ∧ (pending 0).svc = false := by decide +kernel
/-- Line 0 enabled and unmasked; a movement toward MGCINTSETRESET lands that sets it pending (setint0). -/
def settingInt (soon : Bool) : State :=
  { at_ 0 0 false with ints := { Ints.reset with en := 1, mask := 0 }, pend := [⟨1, .move 0x7E 1 soon⟩] }
/-- R1082: the bundle after the movement does not take the interrupt, the one after that does; one of latency 3 is seen at once. -/
theorem test_setint_seen_two_bundles_later :
    (∃ t, land (settingInt true) = .next t ∧ t.ints.pend = 1 ∧ takenLine t = none ∧ takenLine (nextLanding t) = some 0) ∧
      ∃ t, land (settingInt false) = .next t ∧ takenLine t = some 0 := by
  refine ⟨⟨go land (settingInt true), rfl, ?_, ?_, ?_⟩, go land (settingInt false), rfl, ?_⟩ <;> decide +kernel
theorem test_witness_EventsAndWaking :
    (enterSleep { base with ints := { Ints.reset with wakeInt := 0x80, wakeIntEv := 0x80 } }).mode.asleep = true ∧
      (0x80#8).getLsbD 7 = true ∧ base.mode.asleep = false ∧ (base.mode.allfatal && base.mode.nonefatal) = false ∧
      inDebug base = true ∧ inDebug (at_ 0 0 false) = false := by decide +kernel
/-- The slave's access of this cycle, and an access of a core or DMA port. -/
noncomputable def slaveNow (a : BitVec 32) (v : Option (BitVec 32)) (acc : List Access) : State :=
  { ready with inp := { CycleIn.quiet with slave := some ⟨a, v, true⟩ }, acc := acc }
/-- Shared lines 0 and 7 fall, line 1 rises; all have falling edges programmed but line 7, and lines 0 and 1 are enabled. -/
def edging : State :=
  { base with
    lineSh := 0x81, ints := { Ints.reset with en := 0x03, mask := 0, shedge := 0x80 }
    inp := { CycleIn.quiet with shared := some 0x02 } }
/-- R1081: of them line 0 alone has its edge, and interrupt line 0 its event. -/
theorem test_shared_edges : edging.inp.reset = false ∧ (inputLines edging).ints.shpend = 1 ∧ (inputLines edging).ints.pend = 1 ∧
    (inputLines edging).lineSh = 0x02 := by decide +kernel
/-- The watch on data word 5, with watchen or without; line 5 is enabled. -/
noncomputable def watching (en : Bool) : State :=
  { ready with
    regs := { ready.regs with watch := 5 }, mode := { ready.mode with watchen := en }, ints := { Ints.reset with en := 0x20 } }
theorem test_witness_EventsAndWaking_watch :
    (watching true).regs.watch.toNat ∈ only (some (1 : Word40)).isSome (5 : BitVec 16).toNat ∧
      (watching true).regs.watch.toNat ∈ only (some (1 : Word40)).isSome ((4 : BitVec 16).toNat + 1) ∧
      (watching true).regs.watch.toNat ∉ ([] : List Nat) ∧ (watching true).mode.watchen = true ∧
      (watching false).mode.watchen = false ∧ (watching true).pend = [] ∧ (watching true).resetNow = false ∧
      NoP0b (watching true) 5 ∧ Untouched (watching true) 5 ∧
      ({ watching true with inp := (slaveNow (busAddr .int 5 0) (some 1) []).inp } : State).inp.slave =
        some ⟨busAddr .int 5 0, some 1, true⟩ :=
  ⟨by decide, by decide, by decide, rfl, rfl, rfl, rfl, (by intro y hy; cases hy), (by intro y hy; cases hy), rfl⟩
/-- R1086, R1152: a store to the watched word breaks with watchen, and gives line 5 an event without it. -/
theorem test_watch_match :
    (go land { watching true with ports := [⟨.agu1, 1, .write 5 (some 1) none⟩] }).mode.watch = true ∧
      (go land { watching false with ports := [⟨.agu1, 1, .write 5 (some 1) none⟩] }).mode.watch = false ∧
      (go land { watching false with ports := [⟨.agu1, 1, .write 5 (some 1) none⟩] }).ints.pend = 0x20 := by
  decide +kernel
/-- The tick counter at v, enabled. -/
def ticking (v : BitVec 32) : State :=
  { base with regs := { base.regs with tick := v }, mode := { base.mode with ticken := true } }
theorem test_witness_TickCounter :
    (ticking 0xFFFFFFFD).mode.ticken = true ∧ (ticking 0xFFFFFFFD).tickWritten = false ∧
      (ticking 0xFFFFFFFD).regs.tick ≠ 0xFFFFFFFE ∧ (ticking 0xFFFFFFFF).regs.tick ≠ 0xFFFFFFFE ∧
      (ticking 0xFFFFFFFE).regs.tick = 0xFFFFFFFE ∧ base.mode.ticken = false := by decide +kernel

/-- R106, R970: a fetch stalled behind the prefetch of its own chunk shows busy, waitmst, chunk fault, prefetch chunk, clkdis. -/
theorem test_pmustat_behind_prefetch :
    pmuStat { mappedPage false with
      pmu := { (mappedPage false).pmu with job := some ⟨0, 0, false, true, true⟩, missAt := some 0 } } = 0x945 := by decide +kernel
/-- `Near` is what the model checks. -/
theorem near_iff (s : State) (p : Nat) : Near s p ↔ nearPc s p = true := by
  have h : ∀ i, (∃ q, physOf s (s.regs.pc + BitVec.ofNat 16 i) = some q ∧ q.toNat = p) ↔
      (match physOf s (s.regs.pc + BitVec.ofNat 16 i) with
        | some q => q.toNat == p
        | none => false) = true := by
    intro i
    cases physOf s (s.regs.pc + BitVec.ofNat 16 i) <;> simp
  simp only [Near, nearPc, Bool.and_eq_true, Bool.not_eq_true', List.any_eq_true, List.mem_range, h, and_assoc]
  all_goals exact Iff.rfl
/-- A chunk load of which `len` words are left, and the bus's answer. -/
noncomputable def loadingChunk (ok : Bool) (len : BitVec 16) : State :=
  { ready with
    pmu := { ready.pmu with job := some ⟨0xFFFF, 7, false, false, true⟩ }
    dma := { ready.dma with running := some .chunk, curLen := len, part := 3, curInt := 0x11FFF }
    inp := { CycleIn.quiet with bus := [⟨1, ok⟩] } }
theorem test_witness_ChunkLoads :
    ((loadingChunk true 1).Inv ∧ (loadingChunk false 2).Inv) ∧
      (loadingChunk true 1).pmu.job = some ⟨0xFFFF, 7, false, false, true⟩ ∧
      (loadingChunk true 1).dma.running = some .chunk ∧ (loadingChunk true 1).dma.curInt.extractLsb' 16 4 = 1#4 ∧
      (loadingChunk true 1).dma.curLen = 1 ∧ (loadingChunk true 2).dma.curLen ≠ 1 ∧
      ({ (loadingChunk true 2).dma with running := none } : Dma).running = none ∧ ¬Near (loadingChunk true 1) 0x1FFF ∧
      Near { loadingChunk true 1 with regs := { Regs.reset with pc := 0x1FFC } } 0x1FFF :=
  ⟨⟨ready_inv.congr rfl, ready_inv.congr rfl⟩, rfl, rfl, by decide +kernel, rfl, by decide +kernel, rfl,
    by rw [near_iff]; decide +kernel, by rw [near_iff]; decide +kernel⟩
/-- R1000, R970: the last two words of a chunk load in one clock cycle. -/
theorem test_two_words_one_cycle :
    (match dmaCycle { loadingChunk true 2 with
        dma := { (loadingChunk true 2).dma with part := 2 }
        inp := { CycleIn.quiet with bus := [⟨1, true⟩, ⟨2, true⟩] } } with
      | .next t => t.pmu.job.isNone && t.dma.running.isNone && t.out.length == 2
      | _ => false) = true := by decide +kernel
/-- R7: with two delay slots a transfer acts after the second bundle behind it, with none after its own. -/
theorem test_delay_slots :
    dueOf 2 (some (3 : Nat)) [some 2, some 1] = some 1 ∧ dueOf 2 (some (1 : Nat)) [] = none ∧
      dueOf 0 (some (3 : Nat)) [some 2, some 1] = some 3 := by decide
/-- Channel 3 moves a word of segment and address i; the core wrote data word 0 through P0B if `met`. -/
noncomputable def movingWord (i : BitVec 20) (isRead ok met : Bool) : State :=
  { ready with
    dma := { ready.dma.setChan 3 { DmaChan.reset with busy := true, isRead := isRead } with
      running := some (.channel 3), curInt := i, curLen := 1 }
    acc := if met then [⟨.p0b, 0, true, 0⟩] else []
    inp := { CycleIn.quiet with bus := [⟨1, ok⟩] } }
/-- R152: P0A moves one word of data memory in a clock cycle. -/
theorem test_one_data_word_a_cycle :
    (match dmaCycle { movingWord 0x20000 true true false with
        dma := { (movingWord 0x20000 true true false).dma with curLen := 2 }
        inp := { CycleIn.quiet with bus := [⟨1, true⟩, ⟨2, true⟩] } } with
      | .next t => t.out.length == 1 && t.dma.curLen == 1
      | _ => false) = true := by decide +kernel
theorem test_witness_DmaWords :
    (∀ i r o m, (movingWord i r o m).Inv) ∧ (movingWord 0x87FFE true true false).dma.running = some (.channel 3) ∧
      (movingWord 0x87FFE true true false).inp.bus = [⟨1, true⟩] ∧
      ((0x87FFE : BitVec 20).extractLsb' 16 4 = segOf .full ∧ (0x87FFE : BitVec 20).extractLsb' 0 16 = internal .full 0x3FFF) ∧
      ((0x23FFF : BitVec 20).extractLsb' 16 4 = segOf .int ∧ (0x23FFF : BitVec 20).extractLsb' 0 16 = internal .int 0x3FFF) ∧
      ((0x11FFF : BitVec 20).extractLsb' 16 4 = 1#4 ∧ ((0x11FFF : BitVec 20).extractLsb' 0 16 : BitVec 16).toNat ≤ 0x1FFF) ∧
      ((movingWord 0x20000 false true false).dma.chan 3).isRead = false ∧
      ((movingWord 0x20000 true true true).dma.chan 3).isRead = true ∧
      (movingWord 0x20000 true true true).acc = [⟨.p0b, 0, true, 0⟩] ∧ Near (movingWord 0x10003 true true false) 3 ∧
      ¬Near (movingWord 0x10004 true true false) 4 :=
  ⟨fun _ _ _ _ => ready_inv.congr rfl, rfl, rfl, by decide +kernel, by decide +kernel, by decide +kernel, rfl, rfl, rfl,
    by rw [near_iff]; decide +kernel, by rw [near_iff]; decide +kernel⟩

theorem test_witness_LandingOfEntries :
    (∀ e ∈ ({ base with pend := [⟨2, .stk 1⟩] } : State).pend, 1 < e.delay) ∧
      (∀ e ∈ ({ base with ports := [⟨.agu0, 2, .write 0 (some 1) none⟩] } : State).ports, 1 < e.delay) ∧ base.ports = [] ∧
      ({ base with pend := [⟨1, .sticky true 0x04000000⟩] } : State).pend = [⟨1, .sticky true 0x04000000⟩] ∧
      (settingInt true).pend = [⟨1, .move 0x7E 1 true⟩] := by
  decide +kernel
/-- A pair of effects for each kind of clash. -/
def clashPairs : List (Effect × Effect) := [
  (.rf .p7 [(0, 1)], .rf .p7 [(1, 1)]), (.rf .p5 [(0, 1)], .rf .p5 [(1, 1)]), (.move 0x14 1 true, .moveArf 3 1 1),
  (.move 0x13 1 true, .move 0x70 1 true), (.move 0x64 1 true, .move 0x6F 1 true)]
theorem test_witness_LandingClashes :
    (clashes.zip clashPairs).all (fun x => x.1.1 x.2.1 && x.1.1 x.2.2) = true ∧ clashes.length = clashPairs.length := by
  decide +kernel
/-- Two entries due together. -/
def both (e f : Effect) : State := { base with pend := [⟨1, e⟩, ⟨1, f⟩] }
theorem test_witness_LandingClashes_registers :
    base.ports = [] ∧ (RfPort.p6 ≠ .p4) ∧
      ((both (.rf .p6 [(7, 1)]) (.rf .p4 [(6, 2), (7, 3)])).pend = [⟨1, .rf .p6 [(7, 1)]⟩, ⟨1, .rf .p4 [(6, 2), (7, 3)]⟩] ∧
        ((7 : BitVec 8), (1 : Word40)) ∈ [((7 : BitVec 8), (1 : Word40))] ∧
        ((7 : BitVec 8), (3 : Word40)) ∈ [((6 : BitVec 8), (2 : Word40)), (7, 3)] ∧ (1 : Word40) ≠ 3) ∧
      (both (.rf .p6 [(0xFF, 1)]) (.rf .p4 [(0xFF, 1)])).pend = [⟨1, .rf .p6 [(0xFF, 1)]⟩, ⟨1, .rf .p4 [(0xFF, 1)]⟩] ∧
      (both (.aguA .agu0 15 1) (.aguA .agu1 15 2)).pend = [⟨1, .aguA .agu0 15 1⟩, ⟨1, .aguA .agu1 15 2⟩] ∧
      (both (.move (0x14 + 15) 1 true) (.aguA .agu0 15 1)).pend =
        [⟨1, .move (0x14 + (15 : BitVec 4).setWidth 7) 1 true⟩, ⟨1, .aguA .agu0 15 1⟩] ∧
      (both (.stkiq 1) (.move 0x70 2 true)).pend = [⟨1, .stkiq 1⟩, ⟨1, .move 0x70 2 true⟩] :=
  ⟨rfl, by decide, ⟨rfl, by decide, by decide, by decide⟩, rfl, rfl, rfl, rfl⟩
/-- R34, R337: one register through two ports; U19 and U21. -/
theorem test_landing_clashes :
    land (both (.rf .p6 [(7, 1)]) (.rf .p4 [(6, 2), (7, 3)])) = .fault .rfDoubleWrite ∧
      (go land (both (.rf .p6 [(7, 1)]) (.rf .p4 [(6, 2), (7, 1)]))).rfAt 7 = 1 ∧
      land (both (.aguA .agu0 15 1) (.aguA .agu1 15 2)) = .refused .arfFieldTwice ∧
      land (both (.stkiq 1) (.move 0x70 2 true)) = .refused .moveStkiq := by
  refine ⟨rfl, ?_, rfl, rfl⟩
  decide +kernel
theorem test_witness_SumVisibleAfterThreeSteps :
    base.pend = [] ∧ base.ports = [] ∧ base.resetNow = false ∧ ScalarOn .add 0 base := by decide +kernel
/-- A store to the last data word is due. -/
noncomputable def storing : State := { ready with ports := [⟨.agu1, 1, .write 0x3FFF (some 7) none⟩] }
theorem test_witness_MemoryPortAccesses :
    storing.Inv ∧ storing.pend = [] ∧ storing.inp.slave = none ∧ storing.resetNow = false ∧
      storing.ports = [⟨.agu1, 1, .write 0x3FFF (some 7) none⟩] ∧ storing.regs.mask.getLsbD 25 = false :=
  ⟨ready_inv.congr rfl, rfl, rfl, rfl, rfl, by show Regs.reset.mask.getLsbD 25 = _; decide⟩
/-- A P0B read of data words 4 and 5 is due in the cycle of a slave write of 9 to word 5. -/
noncomputable def readingSlave : State :=
  { slaveNow (busAddr .int 5 0) (some 9) [] with ports := [⟨.agu0, 1, .read 4 true (.rf .p7 0xFE true true)⟩] }
theorem test_witness_MemoryPortAccesses_slave :
    readingSlave.Inv ∧ readingSlave.pend = [] ∧ readingSlave.acc = [] ∧ readingSlave.resetNow = false ∧ 0 < partsOf .int ∧
      readingSlave.inp.slave = some ⟨busAddr .int 5 0, some 9, true⟩ ∧
      readingSlave.ports = [⟨.agu0, 1, .read 4 true (.rf .p7 0xFE true true)⟩] :=
  ⟨ready_inv.congr rfl, rfl, rfl, rfl, by decide, rfl, rfl⟩
/-- R188 case 5: the read sees the slave's word. -/
theorem test_p0b_read_sees_slave_write :
    (go land readingSlave).pend = [⟨2, .rf .p7 [(0xFE, 0), (0xFF, 9)]⟩] := by decide +kernel
theorem test_witness_DataMemoryViews :
    (∀ a v l, (slaveNow a v l).Inv) ∧
      (slaveNow (busAddr .full 0x3FFF 1) (some 5) []).inp.slave = some ⟨0x67FFFC, some 5, true⟩ ∧
      Untouched (slaveNow 0 none [⟨.p1b, 1, true, 0⟩]) 0x3FFF ∧ NoP0b (slaveNow 0 none [⟨.p1b, 1, true, 0⟩]) 1 ∧
      1 < partsOf .full ∧ 0 < partsOf .int ∧ (slaveNow 0 none [⟨.p1b, 1, true, 9⟩]).acc = [⟨.p1b, 1, true, 9⟩] :=
  ⟨fun _ _ _ => ready_inv.congr rfl, by rw [show busAddr .full 0x3FFF 1 = 0x67FFFC by decide]; rfl,
    by intro y hy; simp [slaveNow] at hy; simp [hy], by intro y hy; simp [slaveNow] at hy; simp [hy], by decide, by decide, rfl⟩
theorem test_witness_SlaveTransfers :
    (slaveNow 0x61FFFC (some 5) []).Inv ∧ 0x600000 + 16 * 0x1FFF + 4 * 3 = 0x61FFFC ∧
      0x680000 + (((0x7F : BitVec 7).setWidth 32 : BitVec 32) <<< 2) = 0x6801FC ∧
      0x680400 + (((0xFF : BitVec 8).setWidth 32 : BitVec 32) <<< 3) = 0x680BF8 ∧
      physOf (slaveNow 0x680C0C none []) (slaveNow 0x680C0C none []).regs.pc = some 0 ∧
      (slaveNow 0x61FFFC (some 5) []).inp.slave = some ⟨0x61FFFC, some 5, true⟩ ∧
      ¬Near (slaveNow 0x61FFFC (some 5) []) 0x1FFF ∧ Near (slaveNow 0x600000 (some 5) []) 0 ∧
      (slaveNow (busAddr .int 0 0) none [⟨.p0b, 0, true, 4⟩]).acc = [⟨.p0b, 0, true, 4⟩] :=
  ⟨ready_inv.congr rfl, by decide, by decide, by decide, by decide +kernel, rfl, by rw [near_iff]; decide +kernel,
    by rw [near_iff]; decide +kernel, rfl⟩
theorem test_witness_SlaveTransfers_registers :
    (∀ off ∈ [0x200 + 4 * (0x3F : BitVec 6).toNat, 0x300 + 4 * (7 : BitVec 3).toNat, 0x330],
      (slaveNow (BitVec.ofNat 32 (0x680000 + off)) (some 7) []).inp.slave = some ⟨BitVec.ofNat 32 (0x680000 + off), some 7, true⟩) ∧
      0x680000 + 0x328 = 0x680328 ∧ ((6 : BitVec 32).getLsbD 1 = true ∧ (6 : BitVec 32).getLsbD 2 = true) ∧
      ((5 : BitVec 32).getLsbD 0 = true ∧ (5 : BitVec 32).getLsbD 1 = false) ∧ (2 : BitVec 32).getLsbD 0 = false ∧
      0x680C00 + 4 * 3 = 0x680C0C ∧ (1 : BitVec 32) ≠ 0xAC1CDEAD :=
  ⟨fun _ _ => rfl, by decide, by decide, by decide, by decide, by decide, by decide⟩
/-- A slave write to address a. -/
def slaveAt (a : BitVec 32) (word : Bool) : State := { base with inp := { CycleIn.quiet with slave := some ⟨a, some 1, word⟩ } }
theorem test_witness_SlaveErrors :
    (slaveAt 0x600000 false).inp.slave = some ⟨0x600000, some 1, false⟩ ∧ (0x600001 : BitVec 32).getLsbD 0 = true ∧
      (0x600002 : BitVec 32).getLsbD 1 = true ∧ (0x5FFFFC : BitVec 32).toNat < 0x600000 ∧
      (0x630000 ≤ (0x63FFFC : BitVec 32).toNat ∧ (0x63FFFC : BitVec 32).toNat < 0x640000) ∧
      (0x650000 ≤ (0x650000 : BitVec 32).toNat ∧ (0x650000 : BitVec 32).toNat < 0x660000) ∧
      0x682000 ≤ (0x682000 : BitVec 32).toNat ∧ (0x680334 ≤ (0x6803FC : BitVec 32).toNat ∧ (0x6803FC : BitVec 32).toNat < 0x680400) ∧
      (0x680C10 ≤ (0x680FBC : BitVec 32).toNat ∧ (0x680FBC : BitVec 32).toNat < 0x680FC0) ∧
      0x680FC4 ≤ (0x680FC4 : BitVec 32).toNat := by decide +kernel
theorem test_witness_RegistersReadBack :
    ready.Inv ∧ ready.mode.pmuen = false ∧ chanBusy ready ready.dma.active = false ∧
      chanBusy busy0 busy0.dma.active = true ∧ busy0.mode.pmuen = false :=
  ⟨ready_inv, by decide +kernel, by decide +kernel, by decide +kernel, by decide +kernel⟩
/-- A chunk load is asked for. -/
def chunkAsking : State :=
  { base with pmu := { base.pmu with job := some ⟨0, 0, false, false, true⟩ } }
theorem test_witness_RegistersReadBack_masks :
    Both 0xC0000000 (2 * (15 : Fin 16)) ∧ (∀ x : Fin 16, ¬Both 0x95555556 (2 * x)) ∧ Both 0xC000 (2 * (7 : Fin 8)) ∧
      (∀ x : Fin 8, ¬Both 0x9556 (2 * x)) ∧ Both 0xC00000 (2 * (11 : Fin 12)) ∧ (∀ x : Fin 12, ¬Both 0x955556 (2 * x)) ∧
      Both 0xC00000 22 ∧ (¬(Both 0x180 0 ∨ Both 0x180 4 ∨ Both 0x180 6 ∨ Both 0x180 22) ∧ (0x180 : BitVec 32).getLsbD 8 = true ∧
        ∃ i ∈ [0, 1, 2, 4, 5, 6, 7], (0x180 : BitVec 32).getLsbD i = true) ∧
      ((0x800 : BitVec 32).getLsbD 11 = true ∧ chunkAsking.pmu.job.isSome = true) ∧ base.pmu.job.isSome = false ∧
      (¬(Both 0x0C400051 0 ∨ Both 0x0C400051 4 ∨ Both 0x0C400051 6 ∨ Both 0x0C400051 22) ∧
        (0x0C400051 : BitVec 32).getLsbD 8 = false) := by decide +kernel
theorem test_witness_ControlRegister :
    ({ base with mode := { base.mode with lock := true } } : State).mode.lock = true ∧ base.mode.lock = false ∧
      (base.mode.allfatal && base.mode.nonefatal) = false ∧ inDebug base = true ∧ inDebug (at_ 0 0 false) = false ∧
      ((at_ 0 0 false).mode.allfatal && (at_ 0 0 false).mode.nonefatal) = false ∧ Both 0x60000000 29 ∧
      (∀ k ∈ [0, 5, 7, 9, 11, 13, 15, 17, 19, 21, 23, 25, 27, 29], ¬Both 0x52AAA4A1 k ∧ ¬Both 0x800 k) ∧
      (0x52AAA4A1 : BitVec 32).getLsbD 31 = false ∧ (0x52AAA4A1 : BitVec 32).getLsbD 11 = false ∧
      (0x52AAA4A1 : BitVec 32) &&& 0x1C = 0 ∧ (0x800 : BitVec 32).getLsbD 11 = true ∧ chanBusy busy0 0 = true ∧
      ∀ c, chanBusy base c = false := by decide +kernel
theorem test_witness_MutexWrites :
    ∀ x : Fin 16, ¬((0x80000001 : BitVec 32).getLsbD x = true ∧ (0x80000001 : BitVec 32).getLsbD (16 + x) = true) := by decide
/-- Channel 3 about to start a transfer of segment g with external address e, in preserve mode when `prsv`. -/
def starting (g : BitVec 4) (e : BitVec 32) (prsv : Bool) : State :=
  { base with dma := base.dma.setChan 3 { DmaChan.reset with
      busy := true, seg := g, extAdd := e, prsvExt := prsv, savedExt := if e = 8 then some 8 else none } }
theorem test_witness_DmaTransfers :
    dmaWinner (starting 1 0 false).dma = some 3 ∧ dmaWinner base.dma = none ∧ (starting 1 0 false).dma.running = none ∧
      (starting 1 0 false).pmu.job = none ∧ ((starting 1 0 false).dma.chan 3).seg ∈ [1#4, 2#4, 4#4, 8#4] ∧
      ((starting 8 0 true).dma.chan 3).prsvExt = true ∧ ((starting 8 0 true).dma.chan 3).savedExt = none ∧
      ((starting 8 8 true).dma.chan 3).savedExt = some 8 ∧ (8 : BitVec 32).extractLsb' 0 2 = 0#2 ∧
      ((starting 2 1 false).dma.chan 3).extAdd.extractLsb' 0 2 ≠ 0#2 ∧
      ((starting 1 0 false).dma.chan 3).len.extractLsb' 0 2 = 0#2 ∧ ((starting 8 0 false).dma.chan 3).intMod.getLsbD 0 = false ∧
      (movingWord 0x20000 true true false).inp.bus ≠ [] ∧ CycleIn.quiet.bus = [] ∧
      ({ movingWord 0x20000 true true false with acc := [⟨.p0a, 0, true, 0⟩] } : State).acc.any (·.port == .p0a) = true ∧
      (movingWord 0x20000 true true false).dma.running = some (.channel 3) ∧
      (movingWord 0x20000 true true false).dma.curInt.extractLsb' 16 4 ≠ 1#4 := by
  decide +kernel

end Sys2Proof.Tests
end

section
/-! SUPPORT. Every step keeps the machine's invariant: the agents of a clock cycle one after another. -/

namespace Sys2Proof.Machine

theorem reset_inv : State.reset.Inv := (hardReset_inv State.reset).congr rfl

theorem cycleInputs_inv {s : State} (h : s.Inv) : (cycleInputs s).Inv :=
  inputLines_inv (h.congr rfl)

theorem wake_inv {s : State} (h : s.Inv) : (wake s).Inv := by
  unfold wake
  split
  · exact h.congr rfl
  · exact h

theorem keeps_beforeCore : Keeps beforeCore := by
  intro s t hs h
  obtain ⟨m, hm, ht⟩ := andThen_eq_next.mp h
  cases ht
  exact wake_inv (keeps_slaveEarly _ _ (cycleInputs_inv hs) hm)

theorem keeps_runSlot (d : Slot) : Keeps (runSlot d) := by
  cases d with
  | op i => exact exec_keeps i
  | unknown => intro s t hs h; cases h; exact hs
  | off => intro s t hs h; cases h; exact hs

theorem keeps_runFlow (w : Bundle) (d : Slot) : Keeps (runFlow w d) := by
  cases d with
  | op i => exact exec_keeps i
  | unknown =>
    intro s t hs h
    simp only [runFlow] at h
    split at h
    · cases h
    · cases h; exact hs
  | off => intro s t hs h; cases h; exact hs

theorem keeps_issueList (w : Bundle) (d : Slots) : ∀ f ∈ issueList w d, Keeps f := by
  unfold issueList
  split
  · simp [keeps_runFlow, keeps_runSlot]
  · simp [keeps_runFlow, keeps_runSlot]

theorem keeps_runBundle (w : Bundle) : Keeps (runBundle w) := by
  intro s t hs h
  obtain ⟨m, hm, ht⟩ := andThen_eq_next.mp h
  cases ht
  have hfresh : (freshBundle s).Inv := hs.congr rfl
  exact endBundle_inv (keeps_runAll (keeps_issueList w _) _ _ hfresh hm) _ _

theorem keeps_fetchRun : Keeps fetchRun := by
  intro s t hs h
  unfold fetchRun at h
  split at h
  · rename_i p _
    have hp := parityCheck_inv (latchWord_inv hs p) p
    dsimp only at h
    split at h
    · exact keeps_runBundle _ _ _ hp h
    · cases h; exact hp
  · split at h
    · cases h
      have hlanded : ({ s with landed := true } : State).Inv := hs.congr rfl
      exact fetchMiss_inv hlanded _
    · cases h

theorem keeps_coreStep : Keeps coreStep := by
  intro s t hs h
  unfold coreStep at h
  split at h
  · cases h; exact hs
  · split at h
    · exact keeps_fetchRun _ _ hs h
    · split at h
      · cases h; exact fetchMiss_inv hs _
      · obtain ⟨m, hm, ht⟩ := andThen_eq_next.mp h
        have hland := keeps_land _ _ hs hm
        split at ht
        · cases ht; exact hland
        · exact keeps_fetchRun _ _ hland ht

theorem keeps_coreCycle (dbg : Bool) : Keeps (coreCycle dbg) := by
  intro s t hs h
  unfold coreCycle at h
  split at h
  · cases h; exact hs
  · exact keeps_coreStep _ _ hs h

theorem keeps_afterCore (dbg : Bool) : Keeps (afterCore dbg) :=
  keeps_dmaCycle.andThen <| keeps_slaveLate.andThen fun _ _ hs h => by
    cases h; exact tick_inv hs dbg

theorem keeps_clockCycle : Keeps clockCycle := by
  intro s t hs h
  obtain ⟨s1, h1, h⟩ := andThen_eq_next.mp h
  obtain ⟨s2, h2, h3⟩ := andThen_eq_next.mp h
  exact keeps_afterCore _ _ _ (keeps_coreCycle _ _ _ (keeps_beforeCore _ _ hs h1) h2) h3

/-- Settles O38: the reset state meets the invariant as every hard reset does. -/
theorem resetMeetsInvariant : Obligations.ResetMeetsInvariant := reset_inv

/-- Settles O39: the agents of a cycle keep the invariant one after another. -/
theorem stepKeepsInvariant : Obligations.StepKeepsInvariant := fun s t hs h => keeps_clockCycle s t hs h

end Sys2Proof.Machine
end

section
/-! SUPPORT. Bits of control words: single bits, folds over the bits of a word, and the set/clear pairs of R113. -/

namespace Sys2Proof.Machine

open Sys2Proof.Claims

/-! ## Bits of control words -/

@[simp] theorem getLsbD_bitAt (n i j : Nat) : (bitAt n i).getLsbD j = (decide (i < n) && decide (i = j)) := by
  unfold bitAt
  rw [BitVec.getLsbD_twoPow]

@[simp] theorem getLsbD_flag (n i j : Nat) (b : Bool) :
    (flag n i b).getLsbD j = (b && (decide (i < n) && decide (i = j))) := by
  cases b
  · simp [flag]
  · simp [flag]

@[simp] theorem getElem_bitAt (n i j : Nat) (h : j < n) : (bitAt n i)[j] = decide (i = j) := by
  rw [← BitVec.getLsbD_eq_getElem, getLsbD_bitAt]
  by_cases hij : i = j
  · simp [hij, h]
  · simp [hij]

@[simp] theorem getElem_flag (n i j : Nat) (b : Bool) (h : j < n) : (flag n i b)[j] = (b && decide (i = j)) := by
  cases b
  · simp [flag]
  · simp [flag]

/-- A bit of `blend` is the new value's under the mask, else the old one's. -/
theorem getLsbD_blend {n : Nat} (old mask val : BitVec n) (j : Nat) (hj : j < n) :
    (blend old mask val).getLsbD j = if mask.getLsbD j then val.getLsbD j else old.getLsbD j := by
  unfold blend
  simp only [BitVec.getLsbD_or, BitVec.getLsbD_and, BitVec.getLsbD_not, hj]
  cases mask.getLsbD j <;> simp

theorem getLsbD_putBit {n : Nat} (v : BitVec n) (i j : Nat) (b : Bool) (hj : j < n) :
    (putBit v i b).getLsbD j = if j = i then b else v.getLsbD j := by
  by_cases h : j = i
  · subst h
    cases b <;> simp [putBit, hj]
  · have hne : ¬ i = j := fun e => h e.symm
    have hbit : (bitAt n i).getLsbD j = false := by simp [hne]
    rw [if_neg h]
    cases b
    · simp only [putBit, Bool.false_eq_true, if_false, BitVec.getLsbD_and, BitVec.getLsbD_not, hbit, hj]
      simp
    · simp only [putBit, if_true, BitVec.getLsbD_or, hbit, Bool.or_false]

/-- A fold that writes each bit once leaves in each position what its own step put there. -/
theorem getLsbD_foldl_putBit {n : Nat} (g : Nat → Bool → Bool) (v : BitVec n) (k : Nat) (j : Nat) (hj : j < n) :
    ((List.range k).foldl (fun a x => putBit a x (g x (a.getLsbD x))) v).getLsbD j =
      if j < k then g j (v.getLsbD j) else v.getLsbD j := by
  induction k with
  | zero => simp
  | succ k ih =>
    rw [List.range_succ, List.foldl_append, List.foldl_cons, List.foldl_nil, getLsbD_putBit _ _ _ _ hj]
    by_cases hjk : j = k
    · subst hjk
      rw [ih]
      simp
    · have hlt : j < k + 1 ↔ j < k := by omega
      simp only [if_neg hjk, ih, hlt]

/-- Set and clear in either order agree while not both are asked for. -/
theorem set_clear_apart : ∀ set clr old : Bool, ¬ (set = true ∧ clr = true) →
    ((old || set) && !clr) = if set then true else if clr then false else old := by decide

/-- Off the write that U4 refuses, a set/clear pair acts as R113 says. -/
theorem pairBit_eq_setClear {w : BitVec 32} {k : Nat} (h : ¬ Both w k) (old : Bool) :
    pairBit w k old = setClear w k old := set_clear_apart _ _ old h

theorem bothOf_iff (w : BitVec 32) (k : Nat) : bothOf w k (k + 1) = true ↔ Both w k := by
  simp [bothOf, Both]

theorem getLsbD_setWidth_below {m : Nat} (v : BitVec 32) {i : Nat} (hi : i < m) : (v.setWidth m).getLsbD i = v.getLsbD i := by
  simp [hi]

/-- What a register of n bits keeps of a word. -/
theorem setWidth_setWidth_and (v : BitVec 32) (n : Nat) :
    (v.setWidth n).setWidth 32 = v &&& (BitVec.allOnes n).setWidth 32 := by
  apply BitVec.eq_of_getLsbD_eq
  intro i hi
  simp [hi, Bool.and_comm]

end Sys2Proof.Machine
end

section
/-! SUPPORT. The reset values of R130, for every state whose registers are at reset. -/

namespace Sys2Proof.Machine

open Sys2Proof.Claims

/-- The part of the state that the registers with a reset value read has its reset value (R130); memory, the Register
File, the environment and the record of the cycle are left open. -/
structure State.AtReset (s : State) : Prop where
  regs : s.regs = Regs.reset
  mode : s.mode = Mode.reset
  ints : s.ints = Ints.reset
  dma : s.dma = Dma.reset
  pmu : s.pmu = Pmu.reset
  dbgReq : s.dbgReq = false

/-- A register outside the Address Register File, with a read side of its own (U6), reads the reset parts alone. -/
theorem State.AtReset.firstRead_eq {s : State} (h : s.AtReset) {a : BitVec 7}
    (ha : a.toNat < 0x14 ∨ 0x64 ≤ a.toNat ∧ a.toNat ≠ 0x7C) : firstRead s a = firstRead State.reset a := by
  obtain ⟨hregs, hmode, hints, hdma, hpmu, hdbg⟩ := h
  cases s
  subst hregs hmode hints hdma hpmu hdbg
  unfold firstRead
  generalize a.toNat = n at ha
  dsimp only
  split_ifs -- one case per range of addresses; the second is the Address Register File
  · rfl
  · omega
  · rfl
  · rfl
  · rfl
  · rfl
  · rfl
  · unfold sysRead
    split
    case h_5 => omega
    all_goals rfl

/-- The registers of R130 have no field of the Address Register File and no write-only address among them. -/
theorem resetRegisters_outside : ∀ r ∈ resetRegisters, r.1.toNat < 0x14 ∨ 0x64 ≤ r.1.toNat ∧ r.1.toNat ≠ 0x7C := by
  simp [resetRegisters]

theorem firstRead_reset : ∀ r ∈ resetRegisters, firstRead State.reset r.1 = r.2 := by
  simp only [resetRegisters, List.forall_mem_cons, List.not_mem_nil, false_implies, implies_true, and_true]
  decide +kernel

theorem State.AtReset.hasResetValues {s : State} (h : s.AtReset) : HasResetValues s := by
  refine ⟨fun r hr => (h.firstRead_eq (resetRegisters_outside r hr)).trans (firstRead_reset r hr), ?_⟩
  obtain ⟨hregs, hmode, hints, hdma, hpmu, hdbg⟩ := h
  cases s
  subst hregs hmode hints hdma hpmu hdbg
  refine ⟨?_, rfl, rfl, rfl, rfl, rfl⟩
  show ∀ q : BitVec 3, Pmu.reset.mappedAt q = 0
  decide

theorem hardReset_atReset {s : State} (h : s.dbgReq = false) : (hardReset s).AtReset :=
  ⟨rfl, rfl, rfl, rfl, rfl, h⟩

/-- A shared line gives no edge while its interrupt line is disabled (R1081). -/
theorem sharedEdges_of_disabled (old new : BitVec 8) {i : Ints} (h : i.en = 0) : sharedEdges old new i = 0 := by
  simp [sharedEdges, h, putBit, List.range_succ]

theorem lineEvent_atReset {s : State} (h : s.AtReset) (x : Nat) : (lineEvent x s).AtReset := by
  refine ⟨h.regs, h.mode, ?_, h.dma, h.pmu, h.dbgReq⟩
  simp [lineEvent, h.ints, Ints.reset]

theorem eventIf_atReset {s : State} (h : s.AtReset) (b : Bool) (x : Nat) : (eventIf b x s).AtReset := by
  cases b with
  | false => exact h
  | true => exact lineEvent_atReset h x

theorem shareLines_atReset {s : State} (h : s.AtReset) (new : BitVec 8) : (shareLines new s).AtReset := by
  have hedges : sharedEdges s.lineSh new Ints.reset = 0 := sharedEdges_of_disabled _ _ rfl
  refine ⟨h.regs, h.mode, ?_, h.dma, h.pmu, h.dbgReq⟩
  simp only [shareLines, h.ints, hedges]
  rfl

/-- The reset input wins over the other lines of its cycle: with every line disabled none of them leaves an event. -/
theorem inputLines_atReset {s : State} (hr : s.inp.reset = true) (hd : s.inp.dbgReq.getD s.dbgReq = false) :
    (inputLines s).AtReset := by
  unfold inputLines
  rw [if_pos hr]
  refine eventIf_atReset (eventIf_atReset (eventIf_atReset (eventIf_atReset ?_ _ _) _ _) _ _) _ _
  have hreset : ({ hardReset s with dbgReq := (hardReset s).inp.dbgReq.getD (hardReset s).dbgReq } : State).AtReset :=
    ⟨rfl, rfl, rfl, rfl, rfl, hd⟩
  dsimp only
  split
  · exact shareLines_atReset hreset _
  · exact hreset

/-- Settles O40: what the registers read is at its reset value after each of the three resets. -/
theorem resetValues : Obligations.ResetValues :=
  ⟨State.AtReset.hasResetValues ⟨rfl, rfl, rfl, rfl, rfl, rfl⟩,
    fun _ h => (hardReset_atReset h).hasResetValues,
    fun _ hr hd => (inputLines_atReset hr hd).hasResetValues,
    fun _ => rfl⟩

end Sys2Proof.Machine
end

section
/-! SUPPORT. Registers that are written and read back whole: the plain ones and those of the active DMA channel. -/

namespace Sys2Proof.Machine

open Sys2Proof.Claims

/-! ## Plain registers -/

/-- A write of v to a first-bank register succeeds, reads back as v under the bits that exist, and leaves the Register File,
memory, the program counter and the pending writes alone. -/
def ReadsBack (who : Writer) (v : BitVec 32) (s : State) (r : BitVec 7 × BitVec 32) : Prop :=
  ∃ t, firstWrite who r.1 v s = .next t ∧ firstRead t r.1 = v &&& r.2 ∧ t.rf = s.rf ∧ t.mem = s.mem ∧
    t.regs.pc = s.regs.pc ∧ t.pend = s.pend

@[simp] theorem arfAt_setArf_same (s : State) (k : BitVec 4) (x : Arf) : (s.setArf k x).arfAt k = x :=
  Vector.getElem_set_self _

theorem arfWrite_frame (a : Nat) (v : BitVec 32) (s : State) :
    (arfWrite a v s).rf = s.rf ∧ (arfWrite a v s).mem = s.mem ∧ (arfWrite a v s).regs = s.regs ∧
      (arfWrite a v s).pend = s.pend := by
  unfold arfWrite
  repeat' split
  all_goals exact ⟨rfl, rfl, rfl, rfl⟩

/-- The A and M fields written together read back together (R38). -/
theorem arfRead_arfWrite_pair {a : Nat} (h : a < 0x24) (v : BitVec 32) (s : State) :
    arfRead (arfWrite a v s) a = v := by
  simp only [arfRead, arfWrite, if_pos h, arfAt_setArf_same]
  apply BitVec.eq_of_getLsbD_eq
  intro i hi
  rw [BitVec.getLsbD_append]
  split_ifs with hlow
  · rw [getLsbD_setWidth_below v hlow]
  · rw [BitVec.getLsbD_extractLsb', decide_eq_true (by omega), Bool.true_and, Nat.add_sub_cancel' (by omega)]

/-- A single field reads back as its 16 bits. -/
theorem arfRead_arfWrite_field {a : Nat} (h : ¬ a < 0x24) (v : BitVec 32) (s : State) :
    arfRead (arfWrite a v s) a = (v.setWidth 16).setWidth 32 := by
  unfold arfRead arfWrite
  simp only [if_neg h]
  split_ifs <;> simp only [arfAt_setArf_same]

theorem firstWrite_arf {a : BitVec 7} (h1 : 0x14 ≤ a.toNat) (h2 : a.toNat < 0x64) (who : Writer) (v : BitVec 32) (s : State) :
    firstWrite who a v s = .next (arfWrite a.toNat v s) := by
  simp only [firstWrite]
  rw [if_neg (by omega), if_pos h2]

theorem firstRead_arf {a : BitVec 7} (h1 : 0x14 ≤ a.toNat) (h2 : a.toNat < 0x64) (s : State) :
    firstRead s a = arfRead s a.toNat := by
  simp only [firstRead]
  rw [if_neg (by omega), if_pos h2]

theorem readsBack_arf {a : BitVec 7} {bits : BitVec 32} (h1 : 0x14 ≤ a.toNat) (h2 : a.toNat < 0x64) {who : Writer}
    {v : BitVec 32} {s : State} (h : arfRead (arfWrite a.toNat v s) a.toNat = v &&& bits) :
    ReadsBack who v s (a, bits) := by
  obtain ⟨hrf, hmem, hregs, hpend⟩ := arfWrite_frame a.toNat v s
  exact ⟨_, firstWrite_arf h1 h2 who v s, (firstRead_arf h1 h2 _).trans h, hrf, hmem, congrArg Regs.pc hregs, hpend⟩

theorem readsBack_arfPairs (who : Writer) (v : BitVec 32) (s : State) :
    ∀ r ∈ (List.range 16).map (fun k => (BitVec.ofNat 7 (0x14 + k), (0xFFFFFFFF : BitVec 32))), ReadsBack who v s r := by
  simp only [List.forall_mem_map, List.mem_range]
  intro k hk
  have ha : (BitVec.ofNat 7 (0x14 + k)).toNat = 0x14 + k := by rw [BitVec.toNat_ofNat]; omega
  refine readsBack_arf (by omega) (by omega) ?_
  rw [arfRead_arfWrite_pair (by omega)]
  exact BitVec.and_allOnes.symm

theorem readsBack_arfFields (who : Writer) (v : BitVec 32) (s : State) :
    ∀ r ∈ (List.range 64).map (fun k => (BitVec.ofNat 7 (0x24 + k), (0xFFFF : BitVec 32))), ReadsBack who v s r := by
  simp only [List.forall_mem_map, List.mem_range]
  intro k hk
  have ha : (BitVec.ofNat 7 (0x24 + k)).toNat = 0x24 + k := by rw [BitVec.toNat_ofNat]; omega
  refine readsBack_arf (by omega) (by omega) ?_
  rw [arfRead_arfWrite_field (by omega)]
  exact setWidth_setWidth_and v 16

/-- MGCPRED has no bit 15 to keep (R50). -/
theorem pred_readsBack {p : BitVec 16} (h : p.getLsbD 15 = false) (v : BitVec 32) :
    (blend p (0xFFFF &&& 0x7FFF) (v.setWidth 16)).setWidth 32 = v &&& 0x7FFF := by
  have hb : blend p (0xFFFF &&& 0x7FFF) (v.setWidth 16) = (v.setWidth 15).setWidth 16 := by
    apply BitVec.eq_of_getLsbD_eq
    intro i hi
    have hm : (0xFFFF &&& 0x7FFF : BitVec 16).getLsbD i = decide (i < 15) := by
      revert i; decide
    rw [getLsbD_blend _ _ _ _ hi, hm]
    by_cases h15 : i < 15
    · simp [h15, hi]
    · obtain rfl : i = 15 := by omega
      rw [h]
      simp
  rw [hb, BitVec.setWidth_setWidth (by decide)]
  exact setWidth_setWidth_and v 15

/-- A write that changes FLOW registers but not the program counter. -/
theorem readsBack_regs {who : Writer} {v : BitVec 32} {s : State} {a : BitVec 7} {bits : BitVec 32} {r : Regs}
    (hw : firstWrite who a v s = .next (s.setRegs r)) (hr : firstRead (s.setRegs r) a = v &&& bits)
    (hpc : r.pc = s.regs.pc) : ReadsBack who v s (a, bits) :=
  ⟨_, hw, hr, rfl, rfl, hpc, rfl⟩

/-- A write that changes interrupt registers. -/
theorem readsBack_ints {who : Writer} {v : BitVec 32} {s : State} {a : BitVec 7} {bits : BitVec 32} {f : Ints → Ints}
    (hw : firstWrite who a v s = .next (s.updInts f)) (hr : firstRead (s.updInts f) a = v &&& bits) :
    ReadsBack who v s (a, bits) :=
  ⟨_, hw, hr, rfl, rfl, rfl, rfl⟩

theorem readsBack_plain (who : Writer) (v : BitVec 32) {s : State} (hs : s.Inv) :
    ∀ r ∈ plainRegisters, ReadsBack who v s r := by
  have whole : v = v &&& 0xFFFFFFFF := BitVec.and_allOnes.symm
  have low16 : (v.setWidth 16).setWidth 32 = v &&& 0xFFFF := setWidth_setWidth_and v 16
  have low24 : (v.setWidth 24).setWidth 32 = v &&& 0xFFFFFF := setWidth_setWidth_and v 24
  have svr : ∀ k (hk : k < 8), ((s.ints.svr.set k (v.setWidth 16) hk)[k]).setWidth 32 = v &&& 0xFFFF := fun k hk => by
    rw [Vector.getElem_set_self, low16]
  unfold plainRegisters
  simp only [List.forall_mem_append, List.forall_mem_cons, List.not_mem_nil, false_implies, implies_true, and_true]
  exact ⟨⟨⟨
    readsBack_regs rfl rfl rfl, readsBack_regs rfl whole rfl, readsBack_regs rfl low16 rfl, readsBack_regs rfl low16 rfl,
    readsBack_regs rfl (pred_readsBack hs.pred v) rfl, ⟨_, rfl, whole, rfl, rfl, rfl, rfl⟩, readsBack_regs rfl low16 rfl,
    readsBack_regs rfl whole rfl, readsBack_regs rfl whole rfl, readsBack_regs rfl whole rfl,
    readsBack_regs rfl whole rfl, readsBack_regs rfl whole rfl, readsBack_regs rfl whole rfl,
    readsBack_ints rfl (svr 0 (by decide)), readsBack_ints rfl (svr 1 (by decide)), readsBack_ints rfl (svr 2 (by decide)),
    readsBack_ints rfl (svr 3 (by decide)), readsBack_ints rfl (svr 4 (by decide)), readsBack_ints rfl (svr 5 (by decide)),
    readsBack_ints rfl (svr 6 (by decide)), readsBack_ints rfl (svr 7 (by decide)), readsBack_ints rfl low16,
    readsBack_ints rfl low24⟩, readsBack_arfPairs who v s⟩, readsBack_arfFields who v s⟩

/-! ## The registers of the active DMA channel (R85 to R93) -/

@[simp] theorem chan_setChan (d : Dma) (c y : BitVec 2) (x : DmaChan) :
    (d.setChan c x).chan y = if y = c then x else d.chan y := by
  unfold Dma.setChan Dma.chan
  by_cases h : y = c
  · subst h
    simp
  · have hne : c.toNat ≠ y.toNat := fun e => h (BitVec.eq_of_toNat_eq e.symm)
    simp [h, hne]

/-- Channel 3 belongs to the PMU while that is on (U23). -/
theorem dmaRegWrite_open {s : State} (h : s.mode.pmuen = false ∨ s.dma.active ≠ 3) (a : Nat) (v : BitVec 32) :
    dmaRegWrite a v s = if chanBusy s s.dma.active then .next (raise .dmabusy s)
      else .next (s.setDma (s.dma.setChan s.dma.active ((s.dma.chan s.dma.active).setReg a v))) := by
  have hopen : ¬ (s.mode.pmuen && s.dma.active = 3) = true := by
    rcases h with h | h
    · simp [h]
    · simp only [decide_eq_false h, Bool.and_false, Bool.false_eq_true, not_false_iff]
  unfold dmaRegWrite
  rw [if_neg hopen]

theorem channelRegisters_range : ∀ r ∈ channelRegisters, 0x64 ≤ r.1.toNat ∧ r.1.toNat < 0x6C := by
  simp [channelRegisters]

theorem firstWrite_channel {r : BitVec 7 × BitVec 32} (hr : r ∈ channelRegisters) (who : Writer) (v : BitVec 32) (s : State) :
    firstWrite who r.1 v s = dmaRegWrite r.1.toNat v s := by
  obtain ⟨hlo, hhi⟩ := channelRegisters_range r hr
  simp only [firstWrite]
  rw [if_neg (by omega), if_neg (by omega), if_pos hhi]

theorem firstRead_channel {r : BitVec 7 × BitVec 32} (hr : r ∈ channelRegisters) (s : State) :
    firstRead s r.1 = s.dma.reg r.1.toNat := by
  obtain ⟨hlo, hhi⟩ := channelRegisters_range r hr
  simp only [firstRead]
  rw [if_neg (by omega), if_neg (by omega), if_pos hhi]

theorem reg_setReg (d : Dma) (v : BitVec 32) : ∀ r ∈ channelRegisters,
    (d.setChan d.active ((d.chan d.active).setReg r.1.toNat v)).reg r.1.toNat = v &&& r.2 := by
  have hchan : ∀ c : DmaChan, (d.setChan d.active c).chan (d.setChan d.active c).active = c := fun c =>
    (chan_setChan d d.active d.active c).trans (if_pos rfl)
  have low : ∀ n : Nat, (v.setWidth n).setWidth 32 = v &&& (BitVec.allOnes n).setWidth 32 := setWidth_setWidth_and v
  simp only [channelRegisters, List.forall_mem_cons, List.not_mem_nil, false_implies, implies_true, and_true, Dma.reg, hchan]
  exact ⟨BitVec.and_allOnes.symm, low 24, low 16, low 16, low 16, low 16, low 16, low 4⟩

/-- An idle channel takes a write to one of its registers; the other channels stay as they are (R1002). -/
theorem channel_readsBack {s : State} (hopen : s.mode.pmuen = false ∨ s.dma.active ≠ 3)
    (hidle : chanBusy s s.dma.active = false) (who : Writer) (v : BitVec 32) {r : BitVec 7 × BitVec 32}
    (hr : r ∈ channelRegisters) :
    ∃ t, firstWrite who r.1 v s = .next t ∧ firstRead t r.1 = v &&& r.2 ∧ t.rf = s.rf ∧ t.mem = s.mem ∧ t.regs = s.regs ∧
      ∀ c, c ≠ s.dma.active → t.dma.chan c = s.dma.chan c := by
  refine ⟨s.setDma (s.dma.setChan s.dma.active ((s.dma.chan s.dma.active).setReg r.1.toNat v)), ?_, ?_, rfl, rfl, rfl,
    fun c hc => (chan_setChan _ _ _ _).trans (if_neg hc)⟩
  · rw [firstWrite_channel hr, dmaRegWrite_open hopen, hidle]
    rfl
  · rw [firstRead_channel hr]
    exact reg_setReg s.dma v r hr

/-- A busy channel refuses the write with dmabusy (D53). -/
theorem channel_busy {s : State} (hopen : s.mode.pmuen = false ∨ s.dma.active ≠ 3)
    (hbusy : chanBusy s s.dma.active = true) (who : Writer) (v : BitVec 32) {r : BitVec 7 × BitVec 32}
    (hr : r ∈ channelRegisters) : firstWrite who r.1 v s = .next (raise .dmabusy s) := by
  rw [firstWrite_channel hr, dmaRegWrite_open hopen, if_pos hbusy]

end Sys2Proof.Machine
end

section
/-! SUPPORT. The write-mask registers of interrupts and of waking, and the status registers. -/

namespace Sys2Proof.Machine

open Sys2Proof.Claims

/-! ## The write-mask registers of interrupts and of waking (R74, R75, R78) -/

/-- What the check of U4 looks at: a set/clear pair with both bits written 1, in a word that shares its bits with v. -/
theorem any_pairs_iff {m n : Nat} {w : BitVec m} {v : BitVec 32} (h : ∀ i < 2 * n, w.getLsbD i = v.getLsbD i) :
    ((List.range n).any fun i => w.getLsbD (2 * i) && w.getLsbD (2 * i + 1)) = true ↔ ∃ x : Fin n, Both v (2 * x) := by
  simp only [List.any_eq_true, List.mem_range, Bool.and_eq_true]
  constructor
  · rintro ⟨x, hx, hset, hclr⟩
    exact ⟨⟨x, hx⟩, (h _ (by omega)).symm.trans hset, (h _ (by omega)).symm.trans hclr⟩
  · rintro ⟨x, hset, hclr⟩
    exact ⟨x, x.isLt, (h _ (by omega)).trans hset, (h _ (by omega)).trans hclr⟩

/-- A fold of set/clear pairs from position `base` on, off the write that U4 refuses. -/
theorem getLsbD_foldl_setClear {n : Nat} {v : BitVec 32} {base : Nat} (g : Nat → Bool → Bool) (old : BitVec n)
    (hg : ∀ x < n, ∀ b, g x b = pairBit v (base + 2 * x) b) (hv : ∀ x < n, ¬ Both v (base + 2 * x)) (x : Fin n) :
    ((List.range n).foldl (fun a x => putBit a x (g x (a.getLsbD x))) old).getLsbD x =
      setClear v (base + 2 * x) (old.getLsbD x) := by
  rw [getLsbD_foldl_putBit g old n x x.isLt, if_pos x.isLt, hg x x.isLt, pairBit_eq_setClear (hv x x.isLt)]

theorem updInts_eq_byInts (s : State) (f : Ints → Ints) : s.updInts f = byInts s f := rfl

theorem intCtrl_both {v : BitVec 32} (h : ∃ x : Fin 16, Both v (2 * x)) (s : State) :
    intCtrl v s = .refused .controlPair :=
  if_pos ((any_pairs_iff fun _ _ => rfl).mpr h)

/-- MGCINTCTRL sets and clears the enable and the edge of each line (R74). -/
theorem intCtrl_bits {v : BitVec 32} (h : ∀ x : Fin 16, ¬ Both v (2 * x)) (s : State) :
    ∃ f, intCtrl v s = .next (byInts s f) ∧ ∀ i, f i = { i with en := (f i).en, shedge := (f i).shedge } ∧ ∀ x : Fin 8,
      (f i).en.getLsbD x = setClear v (2 * x) (i.en.getLsbD x) ∧
      (f i).shedge.getLsbD x = setClear v (16 + 2 * x) (i.shedge.getLsbD x) := by
  have hany : ¬ ((List.range 16).any fun i => bothOf v (2 * i) (2 * i + 1)) = true :=
    mt (any_pairs_iff fun _ _ => rfl).mp (not_exists.mpr h)
  unfold intCtrl
  rw [if_neg hany]
  refine ⟨_, congrArg _ (updInts_eq_byInts s _), ?_⟩
  intro i
  refine ⟨rfl, fun x => ⟨?_, ?_⟩⟩
  · have hlow : ∀ x < 8, ¬ Both v (0 + 2 * x) := fun x hx => by
      rw [Nat.zero_add]; exact h ⟨x, by omega⟩
    have hbits := getLsbD_foldl_setClear (fun x b => pairBit v (0 + 2 * x) b) i.en (fun _ _ _ => rfl) hlow x
    rwa [Nat.zero_add] at hbits
  · have hhigh : ∀ x < 8, ¬ Both v (16 + 2 * x) := fun x hx => by
      rw [show 16 + 2 * x = 2 * (8 + x) by omega]; exact h ⟨8 + x, by omega⟩
    exact getLsbD_foldl_setClear _ _ (fun _ _ _ => rfl) hhigh x

theorem intSetReset_both {v : BitVec 32} (h : ∃ x : Fin 8, Both v (2 * x)) (s : State) :
    intSetReset (v.setWidth 16) s = .refused .controlPair :=
  if_pos ((any_pairs_iff fun _ hi => getLsbD_setWidth_below v (by omega)).mpr h)

/-- MGCINTSETRESET sets and clears the pending bit of each line; a set is a wake-up event too (R75, R1101). -/
theorem intSetReset_bits {v : BitVec 32} (h : ∀ x : Fin 8, ¬ Both v (2 * x)) (s : State) :
    ∃ f, intSetReset (v.setWidth 16) s = .next (byInts s f) ∧
      ∀ i, f i = { i with pend := (f i).pend, wakeIntEv := (f i).wakeIntEv } ∧ ∀ x : Fin 8,
        (f i).pend.getLsbD x = setClear v (2 * x) (i.pend.getLsbD x) ∧
        (f i).wakeIntEv.getLsbD x = (i.wakeIntEv.getLsbD x || (v.getLsbD (2 * x) && i.wakeInt.getLsbD x)) := by
  have hany := mt (any_pairs_iff (w := v.setWidth 16) (n := 8) fun _ hi => getLsbD_setWidth_below v (by omega)).mp
    (not_exists.mpr h)
  unfold intSetReset
  rw [if_neg hany]
  have bit : ∀ (k : Nat) (x : Fin 8), k < 2 →
      ((List.range 8).foldl (fun a x => putBit a x ((v.setWidth 16).getLsbD (2 * x + k))) (0 : BitVec 8)).getLsbD x =
        v.getLsbD (2 * x + k) := fun k x hk => by
    rw [getLsbD_foldl_putBit (fun x _ => (v.setWidth 16).getLsbD (2 * x + k)) _ _ _ x.isLt, if_pos x.isLt]
    exact getLsbD_setWidth_below v (by omega)
  refine ⟨_, congrArg _ (updInts_eq_byInts s _), ?_⟩
  intro i
  refine ⟨rfl, fun x => ⟨?_, ?_⟩⟩
  · rw [← pairBit_eq_setClear (h x)]
    simp only [BitVec.getLsbD_and, BitVec.getLsbD_or, BitVec.getLsbD_not, x.isLt, decide_true, Bool.true_and]
    rw [bit 1 x (by decide)]
    exact congrArg (fun b => (i.pend.getLsbD x || b) && !v.getLsbD (2 * x + 1)) (bit 0 x (by decide))
  · simp only [BitVec.getLsbD_and, BitVec.getLsbD_or]
    exact congrArg (fun b => i.wakeIntEv.getLsbD x || (b && i.wakeInt.getLsbD x)) (bit 0 x (by decide))

theorem wakeCtrlWrite_both {v : BitVec 32} (h : ∃ x : Fin 12, Both v (2 * x)) (s : State) :
    wakeCtrlWrite (v.setWidth 24) s = .refused .controlPair :=
  if_pos ((any_pairs_iff fun _ hi => getLsbD_setWidth_below v (by omega)).mpr h)

/-- MGCWAKECTRL sets and clears the wake-up enables of lines and channels and clears the recorded events (R78, R1101). -/
theorem wakeCtrlWrite_bits {v : BitVec 32} (h : ∀ x : Fin 12, ¬ Both v (2 * x)) (s : State) :
    ∃ f, wakeCtrlWrite (v.setWidth 24) s = .next (byInts s f) ∧
      ∀ i, f i = { i with wakeInt := (f i).wakeInt, wakeEot := (f i).wakeEot, wakeIntEv := 0, wakeEotEv := 0 } ∧
        (∀ x : Fin 8, (f i).wakeInt.getLsbD x = setClear v (2 * x) (i.wakeInt.getLsbD x)) ∧
        ∀ c : Fin 4, (f i).wakeEot.getLsbD c = setClear v (16 + 2 * c) (i.wakeEot.getLsbD c) := by
  have hany := mt (any_pairs_iff (w := v.setWidth 24) (n := 12) fun _ hi => getLsbD_setWidth_below v (by omega)).mp
    (not_exists.mpr h)
  have bit : ∀ k < 24, (v.setWidth 24).getLsbD k = v.getLsbD k := fun k hk => getLsbD_setWidth_below v hk
  refine ⟨_, if_neg hany, fun i => ⟨rfl, fun x => ?_, fun c => ?_⟩⟩
  · have hlow : ∀ x < 8, ¬ Both v (0 + 2 * x) := fun x hx => by
      rw [Nat.zero_add]; exact h ⟨x, by omega⟩
    have hbits := getLsbD_foldl_setClear
      (fun x b => (b || (v.setWidth 24).getLsbD (2 * x)) && !(v.setWidth 24).getLsbD (2 * x + 1)) i.wakeInt
      (fun x hx b => by rw [bit _ (by omega), bit _ (by omega), Nat.zero_add]; rfl) hlow x
    rwa [Nat.zero_add] at hbits
  · have hhigh : ∀ c < 4, ¬ Both v (16 + 2 * c) := fun c hc => by
      rw [show 16 + 2 * c = 2 * (8 + c) by omega]; exact h ⟨8 + c, by omega⟩
    exact getLsbD_foldl_setClear
      (fun c b => (b || (v.setWidth 24).getLsbD (16 + 2 * c)) && !(v.setWidth 24).getLsbD (17 + 2 * c)) i.wakeEot
      (fun c hc b => by
        rw [bit _ (by omega), bit _ (by omega), show 17 + 2 * c = 16 + 2 * c + 1 by omega]; rfl) hhigh c

/-! ## The status registers (R72, R73, R79, R95) -/

/-- MGCINTGSTAT holds the pending and the saved bits of the shared lines four and four (R73). -/
theorem intGStat_bits (i : Ints) (j : Fin 4) (h : Fin 2) :
    (intGStat i).getLsbD (8 * h + j) = i.shpend.getLsbD (4 * h + j) ∧
      (intGStat i).getLsbD (8 * h + 4 + j) = i.shsave.getLsbD (4 * h + j) := by
  unfold intGStat
  simp only [BitVec.getLsbD_append, BitVec.getLsbD_extractLsb', BitVec.getLsbD_setWidth]
  fin_cases h <;> fin_cases j <;> simp

theorem wakeStat_setWidth (i : Ints) :
    (wakeStat i).setWidth 32 = 0#8 ++ i.wakeEotEv ++ i.wakeIntEv ++ i.wakeEot ++ i.wakeInt := by
  unfold wakeStat
  apply BitVec.eq_of_getLsbD_eq
  intro k hk
  simp only [BitVec.getLsbD_append, BitVec.getLsbD_setWidth, hk, decide_true, Bool.true_and]
  have htop : k - 8 - 4 - 8 < 4 ∨ i.wakeEotEv.getLsbD (k - 8 - 4 - 8) = false := by
    by_cases h : k - 8 - 4 - 8 < 4
    · exact .inl h
    · exact .inr (BitVec.getLsbD_of_ge _ _ (by omega))
  rcases htop with h | h <;> simp [h]

theorem chunkAsked_eq (s : State) : chunkAsked s = s.pmu.job.any (·.asked) := by
  unfold chunkAsked
  cases s.pmu.job <;> rfl

/-- Transfer of channel c runs (RUNc, R95). -/
def chanRuns (d : Dma) (c : BitVec 2) : Bool := d.running.any fun t => t.channelOf == c

theorem runBits_eq (d : Dma) : d.runBits =
    flag 4 0 (chanRuns d 0) ||| flag 4 1 (chanRuns d 1) ||| flag 4 2 (chanRuns d 2) ||| flag 4 3 (chanRuns d 3) := by
  unfold Dma.runBits chanRuns
  cases d.running with
  | none => decide
  | some t =>
    simp only [Option.any_some]
    generalize t.channelOf = c
    revert c
    decide

theorem fourFlags_ne_zero : ∀ a b c d : Bool,
    ((flag 4 0 a ||| flag 4 1 b ||| flag 4 2 c ||| flag 4 3 d) != 0) = (a || b || c || d) := by decide

theorem dmaBits_eq (s : State) : dmaBits s =
    [chanBusy s 0, chanBusy s 1, chanBusy s 2, chanBusy s 3,
      chanRuns s.dma 0, chanRuns s.dma 1, chanRuns s.dma 2, chanRuns s.dma 3,
      chanBusy s 0 || chanBusy s 1 || chanBusy s 2 || chanBusy s 3,
      chanRuns s.dma 0 || chanRuns s.dma 1 || chanRuns s.dma 2 || chanRuns s.dma 3,
      s.dma.active.getLsbD 0, s.dma.active.getLsbD 1, (s.dma.chan s.dma.active).prsvInt,
      (s.dma.chan s.dma.active).prsvExt, s.dma.err, false,
      s.dma.eot.getLsbD 0, s.dma.eot.getLsbD 1, s.dma.eot.getLsbD 2, s.dma.eot.getLsbD 3, s.dma.lock] := by
  simp only [dmaBits, chanBusy, chunkAsked_eq, chanRuns, List.map_cons, List.map_nil, List.any_cons, List.any_nil,
    Bool.or_false, Bool.or_assoc]
  rfl

/-- MGCDMASTAT bit by bit (R95). -/
theorem dmaStat_bits (s : State) (i : Fin 32) : (dmaStat s).getLsbD i = (dmaBits s).getD i false := by
  rw [dmaBits_eq]
  unfold dmaStat
  simp only [busyBits, runBits_eq, fourFlags_ne_zero]
  fin_cases i <;> simp

/-- What a write of MGCDMACTRL tests is every position it names (R1012). -/
theorem dmaWat_eq (s : State) (w : BitVec 32) :
    dmaWat (dmaStat s) w = watPairs.all fun x => !w.getLsbD x.1 || (dmaBits s).getD x.2 false := by
  have bit : ∀ k (hk : k < 32), (dmaStat s).getLsbD k = (dmaBits s).getD k false := fun k hk => dmaStat_bits s ⟨k, hk⟩
  unfold dmaWat watPairs
  simp only [List.all_cons, List.all_nil, List.range_succ, List.range_zero, List.nil_append, List.cons_append,
    Nat.add_zero, Nat.reduceAdd]
  rw [bit 0 (by decide), bit 1 (by decide), bit 2 (by decide), bit 3 (by decide), bit 4 (by decide), bit 5 (by decide),
    bit 6 (by decide), bit 7 (by decide), bit 8 (by decide), bit 9 (by decide), bit 14 (by decide), bit 16 (by decide),
    bit 17 (by decide), bit 18 (by decide), bit 19 (by decide)]
  ac_rfl

end Sys2Proof.Machine
end

section
/-! SUPPORT. A write to MGCDMACTRL: the aborts, the flags, the start; then the registers together. -/

namespace Sys2Proof.Machine

open Sys2Proof.Claims

/-! ## Aborts (R1011) -/

/-- A channel whose transfer is dropped when b. -/
def DmaChan.dropIf (c : DmaChan) (b : Bool) : DmaChan :=
  { c with busy := c.busy && !b, savedExt := if b then none else c.savedExt, savedInt := if b then none else c.savedInt }

/-- The transfers of the channels p are dropped, running or pending, with the request of a chunk load when 3 is one of them. -/
def State.dropChannels (p : BitVec 2 → Bool) (s : State) : State :=
  { s with
    dma := { s.dma with
      chans := Vector.ofFn fun i => (s.dma.chan (BitVec.ofFin i)).dropIf (p (BitVec.ofFin i))
      running := s.dma.running.filter fun r => !p r.channelOf }
    pmu := { s.pmu with job := s.pmu.job.map fun j => { j with asked := j.asked && !p 3 } } }

@[simp] theorem chan_dropChannels (p : BitVec 2 → Bool) (s : State) (x : BitVec 2) :
    (s.dropChannels p).dma.chan x = (s.dma.chan x).dropIf (p x) := by
  simp [State.dropChannels, Dma.chan]

theorem Dma.chans_eq {d e : Dma} (h : ∀ x, d.chan x = e.chan x) : d.chans = e.chans :=
  Vector.ext fun i hi => h (BitVec.ofFin ⟨i, hi⟩)

/-- A state that agrees with `dropChannels` on channels, running transfer and chunk load, and else with s, is that state. -/
theorem eq_dropChannels {s t : State} {p : BitVec 2 → Bool}
    (hchan : ∀ x, t.dma.chan x = (s.dma.chan x).dropIf (p x))
    (hrun : t.dma.running = s.dma.running.filter fun r => !p r.channelOf)
    (hjob : t.pmu.job = s.pmu.job.map fun j => { j with asked := j.asked && !p 3 })
    (hrest : t = { s with
      dma := { s.dma with chans := t.dma.chans, running := t.dma.running }, pmu := { s.pmu with job := t.pmu.job } }) :
    t = s.dropChannels p := by
  have hchans : t.dma.chans = (s.dropChannels p).dma.chans :=
    Dma.chans_eq fun x => (hchan x).trans (chan_dropChannels p s x).symm
  rw [hrest, hrun, hjob, hchans]
  rfl

theorem dropIf_dropIf (c : DmaChan) (a b : Bool) : (c.dropIf a).dropIf b = c.dropIf (a || b) := by
  cases a <;> cases b <;> simp [DmaChan.dropIf]

theorem dropChannels_dropChannels (p q : BitVec 2 → Bool) (s : State) :
    (s.dropChannels p).dropChannels q = s.dropChannels fun x => p x || q x := by
  refine eq_dropChannels (fun x => ?_) ?_ ?_ rfl
  · rw [chan_dropChannels, chan_dropChannels, dropIf_dropIf]
  · simp [State.dropChannels, Option.filter_filter]
  · simp [State.dropChannels, Function.comp_def, Bool.and_assoc]

theorem dropChannels_none (s : State) : s.dropChannels (fun _ => false) = s := by
  refine (eq_dropChannels (fun x => ?_) ?_ ?_ rfl).symm
  · simp [DmaChan.dropIf]
  · cases s.dma.running <;> rfl
  · simp

theorem chan_abort (d : Dma) (c x : BitVec 2) : (d.abort c).chan x = (d.chan x).dropIf (x == c) := by
  have h : (d.abort c).chan x =
      (d.setChan c { d.chan c with busy := false, savedExt := none, savedInt := none }).chan x := by
    unfold Dma.abort
    repeat' split
    all_goals rfl
  rw [h, chan_setChan]
  by_cases hx : x = c
  · subst hx; simp [DmaChan.dropIf]
  · rw [if_neg hx, beq_eq_false_iff_ne.mpr hx]
    simp [DmaChan.dropIf]

theorem running_abort (d : Dma) (c : BitVec 2) :
    (d.abort c).running = d.running.filter fun r => !(r.channelOf == c) := by
  unfold Dma.abort
  cases h : d.running with
  | none => exact h
  | some t =>
    by_cases ht : t.channelOf = c
    · simp only [if_pos ht, Option.filter_some, beq_iff_eq.mpr ht, Bool.not_true, Bool.false_eq_true, if_false]
    · simp only [if_neg ht, Option.filter_some, beq_eq_false_iff_ne.mpr ht, Bool.not_false, if_true]
      exact h

/-- An abort changes the channels and what runs, and nothing else of the engine. -/
theorem abort_frame (d : Dma) (c : BitVec 2) :
    d.abort c = { d with chans := (d.abort c).chans, running := (d.abort c).running } := by
  unfold Dma.abort
  repeat' split
  all_goals rfl

theorem abortChannel_eq (c : BitVec 2) (s : State) : abortChannel c s = s.dropChannels (· == c) := by
  refine eq_dropChannels (chan_abort s.dma c) (running_abort s.dma c) ?_ ?_
  · by_cases h : c = 3
    · subst h; simp [abortChannel]
    · have h3 : (3 == c) = false := beq_eq_false_iff_ne.mpr fun e => h e.symm
      simp only [abortChannel, if_neg h, h3, Bool.not_false, Bool.and_true, Option.map_id']
  · unfold abortChannel
    rw [abort_frame]
    split <;> rfl

/-- The channels that a write of w to MGCDMACTRL aborts while a is the active one (step 4 of R1010, R1011). -/
def abortsChannel (w : BitVec 32) (a x : BitVec 2) : Bool := w.getLsbD 11 || (w.getLsbD 2 && x == a)

theorem dmaAborts_eq (w : BitVec 32) (s : State) : dmaAborts w s = s.dropChannels (abortsChannel w s.dma.active) := by
  have all4 : ∀ x : BitVec 2, (x == 0 || x == 1 || x == 2 || x == 3) = true := by decide
  unfold dmaAborts
  cases hall : w.getLsbD 11 with
  | true =>
    have hp : abortsChannel w s.dma.active = fun x => x == 0 || x == 1 || x == 2 || x == 3 :=
      funext fun x => by rw [all4 x, abortsChannel, hall, Bool.true_or]
    rw [hp]
    simp only [if_true, abortChannel_eq, dropChannels_dropChannels]
  | false =>
    cases hone : w.getLsbD 2 with
    | true =>
      have hp : abortsChannel w s.dma.active = (· == s.dma.active) :=
        funext fun x => by rw [abortsChannel, hall, hone, Bool.false_or, Bool.true_and]
      rw [hp]
      exact abortChannel_eq _ s
    | false =>
      have hp : abortsChannel w s.dma.active = fun _ => false :=
        funext fun x => by rw [abortsChannel, hall, hone, Bool.false_or, Bool.false_and]
      rw [hp, dropChannels_none]
      rfl

/-! ## A write to MGCDMACTRL (R1010) -/

/-- The state after steps 1 to 6 and 9 of R1010: no start. -/
def dmaCommanded (who : Writer) (w : BitVec 32) (s : State) : State :=
  let t := dmaFlags w (setWat who (dmaWat (dmaStat s) w) s)
  t.setDma { t.dma with active := if w.getLsbD 8 then w.extractLsb' 9 2 else t.dma.active }

theorem setWat_cond (who : Writer) (b : Bool) (s : State) :
    WatBecomes who b s.regs.cond (setWat who b s).regs.cond := by
  intro i hi
  cases who with
  | core =>
    have hm : (bitAt 16 10 &&& condWritable).getLsbD i = decide (i = 10) := by revert i; decide
    simp only [setWat, State.setCond, setRegs_regs]
    rw [getLsbD_blend _ _ _ _ hi, hm]
    by_cases h : i = 10
    · subst h; simp
    · simp [h]
  | host => simp [setWat]

theorem setWat_frame (who : Writer) (b : Bool) (s : State) :
    setWat who b s = { s with regs := { s.regs with cond := (setWat who b s).regs.cond } } := by
  cases who <;> rfl

/-- The engine after the flags of steps 2 to 6 of R1010. -/
def flaggedDma (w : BitVec 32) (s : State) : Dma :=
  ((s.setDma (s.dma.lockEot w)).dropChannels (abortsChannel w s.dma.active)).dma.modes s.dma.active w

theorem dmaFlags_eq (w : BitVec 32) (s : State) :
    dmaFlags w s = (s.dropChannels (abortsChannel w s.dma.active)).setDma (flaggedDma w s) := by
  unfold dmaFlags
  rw [dmaAborts_eq]
  rfl

theorem dmaCommanded_eq (who : Writer) (w : BitVec 32) (s : State) : dmaCommanded who w s = { s with
    regs := { s.regs with cond := (setWat who (dmaWat (dmaStat s) w) s).regs.cond }
    pmu := { s.pmu with job := s.pmu.job.map fun j => { j with asked := j.asked && !abortsChannel w s.dma.active 3 } }
    dma := { flaggedDma w s with active := if w.getLsbD 8 then w.extractLsb' 9 2 else s.dma.active } } := by
  unfold dmaCommanded
  rw [dmaFlags_eq, setWat_frame]
  rfl

/-- The pairs rld and prsv, whose lower bit clears, off the write that U4 refuses. -/
theorem clearSet_apart {w : BitVec 32} {k : Nat} (h : ¬ Both w k) (old : Bool) :
    ((old || w.getLsbD (k + 1)) && !w.getLsbD k) = if w.getLsbD (k + 1) then true else old && !w.getLsbD k := by
  rw [set_clear_apart _ _ old fun hb => h hb.symm]
  cases w.getLsbD k <;> simp

theorem chan_flaggedDma {w : BitVec 32} (s : State) (x : BitVec 2) (h4 : ¬ Both w 4) (h6 : ¬ Both w 6) :
    (flaggedDma w s).chan x =
      { (s.dma.chan x).dropIf (abortsChannel w s.dma.active x) with
        prsvInt := if x = s.dma.active then (if w.getLsbD 5 then true else (s.dma.chan x).prsvInt && !w.getLsbD 4)
          else (s.dma.chan x).prsvInt
        prsvExt := if x = s.dma.active then (if w.getLsbD 7 then true else (s.dma.chan x).prsvExt && !w.getLsbD 6)
          else (s.dma.chan x).prsvExt } := by
  unfold flaggedDma Dma.modes
  rw [chan_setChan]
  by_cases hx : x = s.dma.active
  · rw [if_pos hx, if_pos hx, if_pos hx, ← hx, chan_dropChannels, clearSet_apart h4, clearSet_apart h6]
    rfl
  · rw [if_neg hx, if_neg hx, if_neg hx, chan_dropChannels]
    rfl

theorem dmaCommanded_command (who : Writer) {w : BitVec 32} (s : State) (h4 : ¬ Both w 4) (h6 : ¬ Both w 6)
    (h22 : ¬ Both w 22) : DmaCommand who w s (dmaCommanded who w s) := by
  rw [dmaCommanded_eq]
  constructor
  case wat =>
    rw [← dmaWat_eq]
    exact setWat_cond who _ s
  case lock => exact pairBit_eq_setClear h22 s.dma.lock
  case eot => rfl
  case chan => exact fun x => chan_flaggedDma s x h4 h6
  case running => rfl
  case job => simp only [abortsChannel, BEq.comm (a := s.dma.active)]
  case active => rfl
  case rest => rfl

theorem andThen_next_self (r : Res) : andThen r .next = r := by cases r <;> rfl

/-- U24: chgchan stands with another action bit. -/
theorem mixed_iff (v : BitVec 32) :
    (v.getLsbD 8 && (v &&& 0xF7) != 0) = true ↔
      v.getLsbD 8 = true ∧ ∃ i ∈ [0, 1, 2, 4, 5, 6, 7], v.getLsbD i = true := by
  rw [Bool.and_eq_true, bne_iff_ne]
  refine and_congr_right fun _ => ⟨fun h => ?_, ?_⟩
  · by_contra hno
    push Not at hno
    apply h
    apply BitVec.eq_of_getLsbD_eq
    intro i hi
    rw [BitVec.getLsbD_and]
    by_cases hm : i ∈ [0, 1, 2, 4, 5, 6, 7]
    · simp [Bool.eq_false_iff.mpr (hno i hm)]
    · have hout : (0xF7 : BitVec 32).getLsbD i = false := by revert hm; revert i; decide
      rw [hout]
      simp
  · rintro ⟨i, hi, hv⟩ h0
    have hin : ∀ i ∈ [0, 1, 2, 4, 5, 6, 7], (0xF7 : BitVec 32).getLsbD i = true := by decide
    have hbit : (v &&& 0xF7).getLsbD i = true := by rw [BitVec.getLsbD_and, hv, hin i hi]; rfl
    rw [h0] at hbit
    simp at hbit

/-- U4 in a word for MGCDMACTRL. -/
theorem dmaPairs_iff (v : BitVec 32) :
    (bothOf v 0 1 || bothOf v 4 5 || bothOf v 6 7 || bothOf v 22 23) = true ↔ Both v 0 ∨ Both v 4 ∨ Both v 6 ∨ Both v 22 := by
  simp only [Bool.or_eq_true, or_assoc, bothOf_iff v 0, bothOf_iff v 4, bothOf_iff v 6, bothOf_iff v 22]

theorem dmaCtrl_pairs {v : BitVec 32} (h : Both v 0 ∨ Both v 4 ∨ Both v 6 ∨ Both v 22) (core : Bool) (s : State) :
    dmaCtrl core v s = .refused .controlPair := if_pos ((dmaPairs_iff v).mpr h)

theorem chgchan_alone {v : BitVec 32}
    (hmixed : ¬ (v.getLsbD 8 = true ∧ ∃ i ∈ [0, 1, 2, 4, 5, 6, 7], v.getLsbD i = true))
    (h : v.getLsbD 0 = true ∨ v.getLsbD 1 = true) : v.getLsbD 8 = false := by
  by_contra h8
  refine hmixed ⟨Bool.eq_true_of_not_eq_false h8, ?_⟩
  rcases h with h | h
  · exact ⟨0, by simp, h⟩
  · exact ⟨1, by simp, h⟩

section
variable {v : BitVec 32} (hpairs : ¬ (Both v 0 ∨ Both v 4 ∨ Both v 6 ∨ Both v 22))
include hpairs

theorem dmaCtrl_mixed (h : v.getLsbD 8 = true ∧ ∃ i ∈ [0, 1, 2, 4, 5, 6, 7], v.getLsbD i = true) (core : Bool) (s : State) :
    dmaCtrl core v s = .refused .dmaCtrlMix := by
  unfold dmaCtrl
  rw [if_neg (mt (dmaPairs_iff v).mp hpairs), if_pos ((mixed_iff v).mpr h)]

variable (hmixed : ¬ (v.getLsbD 8 = true ∧ ∃ i ∈ [0, 1, 2, 4, 5, 6, 7], v.getLsbD i = true))
include hmixed

theorem dmaCtrl_chunk {s : State} (h : v.getLsbD 11 = true ∧ s.pmu.job.isSome = true) (core : Bool) :
    dmaCtrl core v s = .refused .abortallPmu := by
  unfold dmaCtrl
  rw [if_neg (mt (dmaPairs_iff v).mp hpairs), if_neg (mt (mixed_iff v).mp hmixed), if_pos (Bool.and_eq_true_iff.mpr h)]

/-- A write that is not refused for its word alone: the commands, then the start it names. -/
theorem dmaCtrl_commands {s : State} (hchunk : ¬ (v.getLsbD 11 = true ∧ s.pmu.job.isSome = true)) (who : Writer) :
    dmaCtrl (who == .core) v s =
      if v.getLsbD 0 = false ∧ v.getLsbD 1 = false then .next (dmaCommanded who v s)
      else dmaStart (v.getLsbD 1) s.dma.active (dmaCommanded who v s) := by
  have hwat : (if (who == .core) = true then s.setCond (bitAt 16 10) (flag 16 10 (dmaWat (dmaStat s) v)) else s) =
      setWat who (dmaWat (dmaStat s) v) s := by cases who <;> rfl
  unfold dmaCtrl dmaCommanded
  rw [if_neg (mt (dmaPairs_iff v).mp hpairs), if_neg (mt (mixed_iff v).mp hmixed), if_neg (mt Bool.and_eq_true_iff.mp hchunk)]
  dsimp only
  rw [hwat]
  generalize dmaFlags v (setWat who (dmaWat (dmaStat s) v) s) = t
  cases h0 : v.getLsbD 0 <;> cases h1 : v.getLsbD 1
  case false.false => cases v.getLsbD 8 <;> rfl
  case false.true =>
    rw [chgchan_alone hmixed (.inr h1)]
    exact andThen_next_self _
  case true.false =>
    rw [chgchan_alone hmixed (.inl h0)]
    exact andThen_next_self _
  case true.true => exact absurd (.inl ⟨h0, h1⟩) hpairs

end

/-- A start with the modes of s (R1003): refused on the PMU's channel, dmabusy on a busy one. -/
theorem dmaStart_eq {s t : State} (h : t.mode = s.mode) (r : Bool) (c : BitVec 2) :
    dmaStart r c t =
      if s.mode.pmuen = true ∧ c = 3 then .refused .dmaChannel3
      else if chanBusy t c then .next (raise .dmabusy t)
      else .next { t with dma := t.dma.setChan c { t.dma.chan c with busy := true, isRead := r } } := by
  rw [← h]
  unfold dmaStart
  simp only [Bool.and_eq_true, decide_eq_true_eq]
  rfl

theorem dmaCommanded_mode (who : Writer) (w : BitVec 32) (s : State) : (dmaCommanded who w s).mode = s.mode := by
  rw [dmaCommanded_eq]

/-! ## The registers together -/

/-- Settles O56: register by register, each clause by the lemma on its register. -/
theorem registersReadBack : Obligations.RegistersReadBack := by
  intro who v s hs
  refine ⟨readsBack_plain who v hs, fun hopen hidle r hr => channel_readsBack hopen hidle who v hr,
    fun hopen hbusy r hr => channel_busy hopen hbusy who v hr, fun h => intCtrl_both h s, fun h => intCtrl_bits h s,
    fun h => intSetReset_both h s, fun h => intSetReset_bits h s, fun h => wakeCtrlWrite_both h s,
    fun h => wakeCtrlWrite_bits h s, rfl, intGStat_bits s.ints, wakeStat_setWidth s.ints, dmaStat_bits s,
    fun h => dmaCtrl_pairs h _ s, fun h1 h2 => dmaCtrl_mixed h1 h2 _ s, fun h1 h2 h3 => dmaCtrl_chunk h1 h2 h3 _, ?_⟩
  intro hpairs hmixed hchunk
  have h4 : ¬ Both v 4 := fun h => hpairs (.inr (.inl h))
  have h6 : ¬ Both v 6 := fun h => hpairs (.inr (.inr (.inl h)))
  have h22 : ¬ Both v 22 := fun h => hpairs (.inr (.inr (.inr h)))
  refine ⟨dmaCommanded who v s, dmaCommanded_command who s h4 h6 h22, ?_⟩
  have hcommands := dmaCtrl_commands hpairs hmixed hchunk who
  rwa [dmaStart_eq (dmaCommanded_mode who v s)] at hcommands

end Sys2Proof.Machine
end

section
/-! SUPPORT. The AHB slave port: its address map, what each region answers, and the transfers it does not accept. -/

namespace Sys2Proof.Machine

open Sys2Proof.Claims

/-! ## The address map (R170, R178) -/

theorem legal_iff (x : SlaveAccess) : x.legal = true ↔ x.word = true ∧ x.addr.toNat % 4 = 0 := by
  rw [SlaveAccess.legal, Bool.and_eq_true, beq_iff_eq, ← BitVec.toNat_inj, BitVec.toNat_setWidth]
  rfl

theorem slaveDm_eq_none {addr : BitVec 32}
    (h : addr.toNat < 0x620000 ∨ (0x630000 ≤ addr.toNat ∧ addr.toNat < 0x640000) ∨
      (0x650000 ≤ addr.toNat ∧ addr.toNat < 0x660000) ∨ 0x680000 ≤ addr.toNat) : slaveDm addr = none := by
  simp only [slaveDm, Bool.and_eq_true, decide_eq_true_eq]
  rw [if_neg (by omega), if_neg (by omega), if_neg (by omega)]

theorem slaveFail_eq (s : State) : slaveFail s = { raise .slverr s with out := s.out ++ [.slaveError] } := by
  rw [slaveFail, State.emit, raise_out]

section
variable {s : State} {x : SlaveAccess} (hx : s.inp.slave = some x)
include hx

theorem slaveEarly_rejected (h : x.legal = false) : slaveEarly s = .next (slaveFail s) := by
  simp [slaveEarly, hx, h]

theorem slaveEarly_program (hl : x.legal = true) (h : 0x600000 ≤ x.addr.toNat ∧ x.addr.toNat < 0x620000) :
    slaveEarly s = slavePm ((x.addr.toNat - 0x600000) / 16) (x.addr.toNat / 4 % 4) x.wdata s := by
  simp [slaveEarly, hx, hl, h]

theorem slaveEarly_registers (hl : x.legal = true) (h : 0x680000 ≤ x.addr.toNat ∧ x.addr.toNat < 0x682000) :
    slaveEarly s = slaveReg (x.addr.toNat - 0x680000) x.wdata s := by
  simp only [slaveEarly, hx, hl, Bool.and_eq_true, decide_eq_true_eq]
  rw [if_neg (by simp), if_neg (by omega), if_pos h]

theorem slaveEarly_outside (hl : x.legal = true) (hpm : x.addr.toNat < 0x600000 ∨ 0x620000 ≤ x.addr.toNat)
    (hreg : x.addr.toNat < 0x680000 ∨ 0x682000 ≤ x.addr.toNat) :
    slaveEarly s = if (slaveDm x.addr).isSome then .next s else .next (slaveFail s) := by
  simp only [slaveEarly, hx, hl, Bool.and_eq_true, decide_eq_true_eq]
  rw [if_neg (by simp), if_neg (by omega), if_neg (by omega)]

theorem slaveLate_rejected (h : x.legal = false) : slaveLate s = .next s := by
  unfold slaveLate
  rw [hx]
  dsimp only
  cases slaveDm x.addr with
  | none => rfl
  | some r => simp [h]

theorem slaveLate_elsewhere (h : slaveDm x.addr = none) : slaveLate s = .next s := by
  simp [slaveLate, hx, h]

end

/-! ## The REGS region (R110, R176) -/

section
variable {s : State} {off : Nat} {wd : Option (BitVec 32)} (ho : off < 0x2000)
  (hx : s.inp.slave = some ⟨BitVec.ofNat 32 (0x680000 + off), wd, true⟩)
include ho hx

theorem slaveEarly_reg (h4 : off % 4 = 0) : slaveEarly s = slaveReg off wd s := by
  have hn : (BitVec.ofNat 32 (0x680000 + off)).toNat = 0x680000 + off := by
    rw [BitVec.toNat_ofNat]; omega
  have hl : (⟨BitVec.ofNat 32 (0x680000 + off), wd, true⟩ : SlaveAccess).legal = true :=
    (legal_iff _).mpr ⟨rfl, by rw [hn]; omega⟩
  rw [slaveEarly_registers hx hl (by rw [hn]; omega), hn, Nat.add_sub_cancel_left]

theorem slaveLate_reg : slaveLate s = .next s :=
  slaveLate_elsewhere hx (slaveDm_eq_none (by rw [BitVec.toNat_ofNat]; omega))

end

/-- An offset that no row of R110 has. -/
theorem slaveReg_unknown {off : Nat} (h : (0x330 < off ∧ off < 0x400) ∨ (0xC10 ≤ off ∧ off < 0xFC0) ∨ 0xFC0 < off)
    (wd : Option (BitVec 32)) (s : State) : slaveReg off wd s = .next (slaveFail s) := by
  cases wd with
  | none =>
    simp only [slaveReg, Bool.and_eq_true, decide_eq_true_eq]
    rw [if_neg (by omega), if_neg (by omega), if_neg (by omega), if_neg (by omega), if_neg (by omega)]
  | some v =>
    simp only [slaveReg, Bool.and_eq_true, decide_eq_true_eq]
    rw [if_neg (by omega), if_neg (by omega), if_neg (by omega), if_neg (by omega)]

/-- Settles O55: a transfer that is not legal is rejected by its form, a legal one at a bad address by its region or offset. -/
theorem slaveErrors : Obligations.SlaveErrors := by
  intro s x hx hbad
  rw [← slaveFail_eq]
  cases hl : x.legal with
  | false => exact ⟨slaveEarly_rejected hx hl, slaveLate_rejected hx hl⟩
  | true =>
    obtain ⟨hword, haligned⟩ := (legal_iff x).mp hl
    have h0 : x.addr.getLsbD 0 = false := by
      rw [BitVec.getLsbD, Nat.testBit_zero, decide_eq_false (by omega)]
    have h1 : x.addr.getLsbD 1 = false := by
      rw [BitVec.getLsbD, Nat.testBit_eq_decide_div_mod_eq, decide_eq_false (by omega)]
    simp only [hword, h0, h1, Bool.true_eq_false, Bool.false_eq_true, false_or] at hbad
    have hdm : slaveDm x.addr = none := slaveDm_eq_none (by omega)
    refine ⟨?_, slaveLate_elsewhere hx hdm⟩
    by_cases hreg : 0x680000 ≤ x.addr.toNat ∧ x.addr.toNat < 0x682000
    · rw [slaveEarly_registers hx hl hreg, slaveReg_unknown (by omega)]
    · rw [slaveEarly_outside hx hl (by omega) (by omega), hdm]
      rfl

end Sys2Proof.Machine
end

section
/-! SUPPORT. The views of a data word (R173 to R175), the accesses of the slave and of the DMA engine to data memory, and how
they meet the other ports of the cycle (R188, R189). -/

namespace Sys2Proof.Machine

open Sys2Proof.Claims

/-! ## What the views show and store -/

/-- A word under m zeros, as a wider word. -/
theorem setWidth_eq_zeros_append {n : Nat} (m : Nat) (x : BitVec n) : x.setWidth (m + n) = 0#m ++ x := by
  apply BitVec.eq_of_getLsbD_eq
  intro i hi
  rw [BitVec.getLsbD_setWidth, BitVec.getLsbD_append]
  split_ifs with h
  · simp [hi]
  · simp [BitVec.getLsbD_of_ge x i (by omega)]

theorem viewOf_eq_seen (w : DmView) (k : Nat) (x : Word40) : viewOf w k x = seen w k x := by
  have hlow : x.setWidth 32 = x.extractLsb' 0 32 := BitVec.setWidth_eq_extractLsb' (by decide)
  cases w with
  | int => exact hlow
  | float => rfl
  | full => simp only [viewOf, seen, hlow, setWidth_eq_zeros_append 24]

theorem viewMerge_eq_stored (w : DmView) (k : Nat) (x : Word40) (v : BitVec 32) : viewMerge w k x v = stored w k x v := by
  have hlow : x.setWidth 32 = x.extractLsb' 0 32 := BitVec.setWidth_eq_extractLsb' (by decide)
  have hbyte : v.setWidth 8 = v.extractLsb' 0 8 := BitVec.setWidth_eq_extractLsb' (by decide)
  cases w with
  | int => exact setWidth_eq_zeros_append 8 v
  | float => rfl
  | full => simp only [viewMerge, stored, hlow, hbyte]

/-! ## Where the slave port and the DMA engine find a part of a data word -/

section
variable {w : DmView} {a k : Nat} (ha : a < 0x4000) (hk : k < partsOf w)
include ha hk

theorem slaveDm_busAddr : slaveDm (busAddr w a k) = some (w, a, k) := by
  cases w with
  | int =>
    obtain rfl : k = 0 := Nat.lt_one_iff.mp hk
    have hn : (busAddr .int a 0).toNat = 0x620000 + 4 * a := by
      rw [busAddr, BitVec.toNat_ofNat]; omega
    simp only [slaveDm, hn, Bool.and_eq_true, decide_eq_true_eq]
    rw [if_pos (by omega), Nat.add_sub_cancel_left, Nat.mul_div_cancel_left _ (by decide)]
  | float =>
    obtain rfl : k = 0 := Nat.lt_one_iff.mp hk
    have hn : (busAddr .float a 0).toNat = 0x640000 + 4 * a := by
      rw [busAddr, BitVec.toNat_ofNat]; omega
    simp only [slaveDm, hn, Bool.and_eq_true, decide_eq_true_eq]
    rw [if_neg (by omega), if_pos (by omega), Nat.add_sub_cancel_left, Nat.mul_div_cancel_left _ (by decide)]
  | full =>
    have h2 : k < 2 := hk
    have hn : (busAddr .full a k).toNat = 0x660000 + (8 * a + 4 * k) := by
      rw [busAddr, BitVec.toNat_ofNat]; omega
    have hword : (8 * a + 4 * k) / 8 = a := by omega
    have hpart : (8 * a + 4 * k) / 4 % 2 = k := by omega
    simp only [slaveDm, hn, Bool.and_eq_true, decide_eq_true_eq]
    rw [if_neg (by omega), if_neg (by omega), if_pos (by omega), Nat.add_sub_cancel_left, hword, hpart]

theorem toNat_busAddr :
    0x620000 ≤ (busAddr w a k).toNat ∧ (busAddr w a k).toNat < 0x680000 ∧ (busAddr w a k).toNat % 4 = 0 := by
  cases w with
  | int =>
    rw [busAddr, BitVec.toNat_ofNat]; omega
  | float =>
    rw [busAddr, BitVec.toNat_ofNat]; omega
  | full =>
    have h2 : k < 2 := hk
    rw [busAddr, BitVec.toNat_ofNat]; omega

theorem legal_busAddr (wd : Option (BitVec 32)) : (⟨busAddr w a k, wd, true⟩ : SlaveAccess).legal = true :=
  (legal_iff _).mpr ⟨rfl, (toNat_busAddr ha hk).2.2⟩

theorem segWord_internal : segWord (segOf w) (internal w a) = a := by
  cases w with
  | int =>
    show (BitVec.ofNat 16 a).toNat = a
    rw [BitVec.toNat_ofNat]; omega
  | float =>
    show (BitVec.ofNat 16 a).toNat = a
    rw [BitVec.toNat_ofNat]; omega
  | full =>
    show (BitVec.ofNat 16 (2 * a)).toNat / 2 = a
    rw [BitVec.toNat_ofNat]; omega

end

theorem segView_segOf (w : DmView) : segView (segOf w) = w := by cases w <;> rfl

theorem segOf_ne_program (w : DmView) : segOf w ≠ 1 := by cases w <;> decide

/-! ## How a slave access meets the other ports (R188, R189) -/

/-- Nothing but P0B reads touched the word. -/
theorem slaveMeet_go {acc : List Access} {a : Nat} (h : ∀ y ∈ acc, y.addr = a → y.port = .p0b ∧ y.write = false)
    (wr : Bool) : slaveMeet acc a wr = .go := by
  have hread : ∀ y ∈ acc.filter (fun y => y.addr == a), y.port = .p0b ∧ y.write = false := fun y hy =>
    h y (List.mem_filter.mp hy).1 (eq_of_beq (List.mem_filter.mp hy).2)
  have hno : ∀ (p : MemPort) (b : Bool), p ≠ .p0b ∨ b = true →
      (acc.filter (fun y => y.addr == a)).any (fun y => y.port == p && y.write == b) = false := by
    intro p b hpb
    rw [List.any_eq_false]
    intro y hy
    obtain ⟨hport, hwrite⟩ := hread y hy
    rcases hpb with hp | rfl
    · simp [hport, hp.symm]
    · simp [hwrite]
  have hfind : (acc.filter (fun y => y.addr == a)).find? (fun y => y.port == .p0b && y.write) = none := by
    rw [List.find?_eq_none]
    intro y hy
    simp [(hread y hy).2]
  have hp1b : ∀ b, _ = false := fun b => hno .p1b b (.inl (by decide))
  have hp0a : ∀ b, _ = false := fun b => hno .p0a b (.inl (by decide))
  simp only [slaveMeet, hp1b, hp0a, hno .p0b true (.inr rfl), hfind, Bool.false_and, Bool.or_self, Bool.and_false,
    Bool.false_eq_true, if_false]

section
variable {acc : List Access} {a : Nat} {o : Word40}

theorem slaveMeet_lose (h : acc = [⟨.p0a, a, true, o⟩] ∨ acc = [⟨.p0b, a, true, o⟩]) : slaveMeet acc a true = .lose := by
  rcases h with rfl | rfl
  · simp [slaveMeet]
  · simp [slaveMeet]

theorem slaveMeet_old (h : acc = [⟨.p0b, a, true, o⟩]) : slaveMeet acc a false = .old o := by
  simp [slaveMeet, h]

theorem slaveMeet_p0a {b wr : Bool} (hother : wr = !b) (h : acc = [⟨.p0a, a, b, o⟩]) : slaveMeet acc a wr = .clash := by
  cases b <;> simp [slaveMeet, h, hother]

theorem slaveMeet_p1b {b wr : Bool} (hwrite : (b || wr) = true) (h : acc = [⟨.p1b, a, b, o⟩]) :
    slaveMeet acc a wr = .clash := by
  cases b
  · obtain rfl : wr = true := hwrite
    simp [slaveMeet, h]
  · simp [slaveMeet, h]

end

/-! ## The slave's accesses to data memory (R173 to R175) -/

section
variable {s : State} {w : DmView} {a k : Nat} (ha : a < 0x4000) (hk : k < partsOf w)
include ha hk

theorem slaveEarly_view {wd : Option (BitVec 32)} (hx : s.inp.slave = some ⟨busAddr w a k, wd, true⟩) :
    slaveEarly s = .next s := by
  obtain ⟨hlow, hhigh, -⟩ := toNat_busAddr ha hk
  rw [slaveEarly_outside hx (legal_busAddr ha hk wd) (.inr hlow) (.inl hhigh), slaveDm_busAddr ha hk]
  rfl

theorem slaveLate_store {v : BitVec 32} (hx : s.inp.slave = some ⟨busAddr w a k, some v, true⟩) :
    slaveLate s = match slaveMeet s.acc a true with
      | .clash => .fault .sameWordAccess
      | .lose => .next (s.emit .slaveOk)
      | _ => .next ((dmStore .p1a a (stored w k (s.mem.dm a) v) s).emit .slaveOk) := by
  unfold slaveLate
  simp only [hx, slaveDm_busAddr ha hk, legal_busAddr ha hk, viewMerge_eq_stored]
  cases slaveMeet s.acc a true <;> rfl

theorem slaveLate_load (hx : s.inp.slave = some ⟨busAddr w a k, none, true⟩) :
    slaveLate s = match slaveMeet s.acc a false with
      | .clash => .fault .sameWordAccess
      | .old o => .next ((dmLoad .p1a a s).emit (.slaveData (seen w k o)))
      | _ => .next ((dmLoad .p1a a s).emit (.slaveData (seen w k (s.mem.dm a)))) := by
  unfold slaveLate
  simp only [hx, slaveDm_busAddr ha hk, legal_busAddr ha hk, Mem.viewRead, viewOf_eq_seen]
  cases slaveMeet s.acc a false <;> rfl

end

/-! ## A store changes one data word, the record of accesses, and what the watch touches -/

/-- What neither the watch, nor an event, nor the write itself touches, a store leaves as it was. -/
theorem dmStore_keeps {α : Type} (f : State → α) (hmode : ∀ s m, f (s.setMode m) = f s)
    (hints : ∀ s g, f (s.updInts g) = f s)
    (hword : ∀ (s : State) m l, f { s with mem := m, acc := l } = f s) (p : MemPort) (a : Nat) (v : Word40) (s : State) :
    f (dmStore p a v s) = f s := by
  unfold dmStore watchWrite
  split_ifs
  · exact (hmode _ _).trans (hword _ _ _)
  · exact (hints _ _).trans (hword _ _ _)
  · exact hword _ _ _

section
variable (p : MemPort) (a : Nat) (v : Word40) (s : State)

@[simp] theorem dmStore_mem : (dmStore p a v s).mem = s.mem.setDm a v := by
  unfold dmStore watchWrite
  split_ifs <;> rfl
@[simp] theorem dmStore_rf : (dmStore p a v s).rf = s.rf :=
  dmStore_keeps State.rf (fun _ _ => rfl) (fun _ _ => rfl) (fun _ _ _ => rfl) p a v s
@[simp] theorem dmStore_arf : (dmStore p a v s).arf = s.arf :=
  dmStore_keeps State.arf (fun _ _ => rfl) (fun _ _ => rfl) (fun _ _ _ => rfl) p a v s
@[simp] theorem dmStore_regs : (dmStore p a v s).regs = s.regs :=
  dmStore_keeps State.regs (fun _ _ => rfl) (fun _ _ => rfl) (fun _ _ _ => rfl) p a v s
@[simp] theorem dmStore_dma : (dmStore p a v s).dma = s.dma :=
  dmStore_keeps State.dma (fun _ _ => rfl) (fun _ _ => rfl) (fun _ _ _ => rfl) p a v s
@[simp] theorem dmStore_pmu : (dmStore p a v s).pmu = s.pmu :=
  dmStore_keeps State.pmu (fun _ _ => rfl) (fun _ _ => rfl) (fun _ _ _ => rfl) p a v s
@[simp] theorem dmStore_out : (dmStore p a v s).out = s.out :=
  dmStore_keeps State.out (fun _ _ => rfl) (fun _ _ => rfl) (fun _ _ _ => rfl) p a v s
@[simp] theorem dmStore_pend : (dmStore p a v s).pend = s.pend :=
  dmStore_keeps State.pend (fun _ _ => rfl) (fun _ _ => rfl) (fun _ _ _ => rfl) p a v s
@[simp] theorem dmStore_ports : (dmStore p a v s).ports = s.ports :=
  dmStore_keeps State.ports (fun _ _ => rfl) (fun _ _ => rfl) (fun _ _ _ => rfl) p a v s

end

theorem sameOutside_setDm (m : Mem) (a : Nat) (v : Word40) : SameOutside (dmByte a) 5 m (m.setDm a v) :=
  fun _ h => Mem.read_setDm_other m a v h

/-! ## The DMA engine's accesses to data memory (R1004) -/

section
variable {w : DmView} {a k : Nat} (ha : a < 0x4000) (hk : k < partsOf w)
include ha hk

theorem dmaLoadWord_view (s : State) : dmaLoadWord (segOf w) (internal w a) k s = seen w k (s.mem.dm a) := by
  rw [dmaLoadWord, if_neg (segOf_ne_program w), segView_segOf, segWord_internal ha hk, Mem.viewRead, viewOf_eq_seen]

theorem dmaStoreWord_view {s : State} (h : NoP0b s a) (v : BitVec 32) :
    dmaStoreWord (segOf w) (internal w a) k v s = .next (dmStore .p0a a (stored w k (p0aOld s a) v) s) := by
  have hfree : p0aConflict s a true = false := by
    rw [p0aConflict, List.any_eq_false]
    intro y hy
    by_cases hya : y.addr = a
    · simp [h y hy hya]
    · simp [hya]
  rw [dmaStoreWord, if_neg (segOf_ne_program w)]
  simp only [segView_segOf, segWord_internal ha hk, hfree, viewMerge_eq_stored]
  rfl

end

theorem p0aOld_untouched {s : State} {a : Nat} (h : Untouched s a) : p0aOld s a = s.mem.dm a := by
  have hfind : s.acc.find? (fun x => x.addr == a && x.port == .p1b && x.write) = none := by
    rw [List.find?_eq_none]
    intro y hy
    simp [h y hy]
  rw [p0aOld, hfind]

/-- A P1B write of the cycle fails against a P0A write, which starts from the word before it (R188 case 8). -/
theorem p0aOld_p1b {s : State} {a : Nat} {o : Word40} (h : s.acc = [⟨.p1b, a, true, o⟩]) : p0aOld s a = o := by
  simp [p0aOld, h]

/-- Settles O54: the view's address leads to its word and part; an access that meets no other reads or writes that word alone. -/
theorem dataMemoryViews : Obligations.DataMemoryViews := by
  intro s w a k hs ha hk
  refine ⟨fun hx hfree => ⟨slaveEarly_view ha hk hx, ?_⟩, fun v hx hfree => ⟨slaveEarly_view ha hk hx, ?_⟩,
    dmaLoadWord_view ha hk s, fun v hp0b => ⟨_, dmaStoreWord_view ha hk hp0b v, ?_⟩⟩
  · rw [slaveLate_load ha hk hx, slaveMeet_go fun y hy hya => absurd hya (hfree y hy)]
    rfl
  · rw [slaveLate_store ha hk hx, slaveMeet_go fun y hy hya => absurd hya (hfree y hy)]
    refine ⟨_, rfl, ?_⟩
    simp [Mem.dm_setDm_same hs.mem, sameOutside_setDm]
  · simp only [dmStore_mem, Mem.dm_setDm_same hs.mem, dmStore_rf, dmStore_arf, dmStore_regs, dmStore_dma, dmStore_pmu, and_self,
      and_true]
    exact ⟨fun hfree => by rw [p0aOld_untouched hfree], fun o ho => by rw [p0aOld_p1b ho], sameOutside_setDm _ _ _⟩

end Sys2Proof.Machine
end

section
/-! SUPPORT. The memory port schedule: a store's words one after another, a read's delivery, and what a landing does with the
accesses that are due (R160 to R163, R188, R189, R338). -/

namespace Sys2Proof.Machine

open Sys2Proof.Claims

/-! ## Several data words -/

/-- Data words written one after another. -/
def Mem.storeWords (m : Mem) (ws : List (Nat × Word40)) : Mem := ws.foldl (fun m w => m.setDm w.1 w.2) m

theorem Mem.storeWords_cons (m : Mem) (w : Nat × Word40) (ws : List (Nat × Word40)) :
    m.storeWords (w :: ws) = (m.setDm w.1 w.2).storeWords ws := rfl

theorem Mem.storeWords_wf (ws : List (Nat × Word40)) : ∀ {m : Mem}, m.wf → (m.storeWords ws).wf := by
  induction ws with
  | nil => intro m h; exact h
  | cons w ws ih => intro m h; exact ih (Mem.setDm_wf h _ _)

theorem Mem.read_storeWords_other {x : Nat} (ws : List (Nat × Word40)) :
    ∀ m : Mem, (∀ n ∈ ws.map Prod.fst, x < dmByte n ∨ dmByte n + 5 ≤ x) → (m.storeWords ws).read x = m.read x := by
  induction ws with
  | nil => intro m _; rfl
  | cons w ws ih =>
    intro m h
    rw [List.map_cons, List.forall_mem_cons] at h
    rw [Mem.storeWords_cons, ih _ h.2, Mem.read_setDm_other _ _ _ h.1]

theorem Mem.dm_storeWords_other {a : Nat} (ws : List (Nat × Word40)) :
    ∀ m : Mem, a ∉ ws.map Prod.fst → (m.storeWords ws).dm a = m.dm a := by
  induction ws with
  | nil => intro m _; rfl
  | cons w ws ih =>
    intro m h
    rw [List.map_cons, List.mem_cons, not_or] at h
    rw [Mem.storeWords_cons, ih _ h.2, Mem.dm_setDm_other _ h.1]

theorem Mem.dm_storeWords_mem {a : Nat} {v : Word40} (ws : List (Nat × Word40)) :
    ∀ {m : Mem}, m.wf → (ws.map Prod.fst).Nodup → (a, v) ∈ ws → (m.storeWords ws).dm a = v := by
  induction ws with
  | nil => intro m _ _ h; cases h
  | cons w ws ih =>
    intro m hm hn h
    rw [List.map_cons, List.nodup_cons] at hn
    rw [Mem.storeWords_cons]
    rcases List.mem_cons.mp h with rfl | h
    · rw [Mem.dm_storeWords_other _ _ hn.1, Mem.dm_setDm_same hm]
    · exact ih (Mem.setDm_wf hm _ _) hn.2 h

/-- Two lists of data words written in one cycle: the words of the first stay (R188 case 2). -/
def Mem.storeBoth (m : Mem) (w0 w1 : List (Nat × Word40)) : Mem :=
  (m.storeWords w0).storeWords (w1.filter fun w => !(w0.map Prod.fst).contains w.1)

section
variable {m : Mem} (hm : m.wf) {w0 w1 : List (Nat × Word40)} {a : Nat} {v : Word40}
include hm

theorem Mem.dm_storeBoth_first (hn : (w0.map Prod.fst).Nodup) (h : (a, v) ∈ w0) : (m.storeBoth w0 w1).dm a = v := by
  have hdropped : a ∉ (w1.filter fun w => !(w0.map Prod.fst).contains w.1).map Prod.fst := by
    intro hin
    have ha : a ∈ w0.map Prod.fst := List.mem_map.mpr ⟨_, h, rfl⟩
    obtain ⟨w, hw, rfl⟩ := List.mem_map.mp hin
    have hkept := (List.mem_filter.mp hw).2
    rw [List.contains_iff_mem.mpr ha] at hkept
    cases hkept
  rw [Mem.storeBoth, Mem.dm_storeWords_other _ _ hdropped, Mem.dm_storeWords_mem w0 hm hn h]

theorem Mem.dm_storeBoth_second (hn : (w1.map Prod.fst).Nodup) (h : (a, v) ∈ w1) (ha : a ∉ w0.map Prod.fst) :
    (m.storeBoth w0 w1).dm a = v := by
  refine Mem.dm_storeWords_mem _ (Mem.storeWords_wf w0 hm) (hn.sublist (List.filter_sublist.map Prod.fst)) ?_
  rw [List.mem_filter]
  exact ⟨h, by simpa using ha⟩

omit hm in
theorem Mem.read_storeBoth_other {x : Nat}
    (h : ∀ n, n ∈ w0.map Prod.fst ∨ n ∈ w1.map Prod.fst → x < dmByte n ∨ dmByte n + 5 ≤ x) :
    (m.storeBoth w0 w1).read x = m.read x := by
  rw [Mem.storeBoth, Mem.read_storeWords_other _ _ fun n hn => ?_, Mem.read_storeWords_other _ _ fun n hn => h n (.inl hn)]
  exact h n (.inr ((List.filter_sublist.map Prod.fst).subset hn))

end

/-! ## Stores of several words -/

/-- One port stores data words one after another. -/
def storeAll (p : MemPort) (ws : List (Nat × Word40)) (s : State) : State :=
  ws.foldl (fun s w => dmStore p w.1 w.2 s) s

theorem storeAll_keeps {α : Type} (f : State → α) {p : MemPort} (hf : ∀ a v s, f (dmStore p a v s) = f s)
    (ws : List (Nat × Word40)) : ∀ s, f (storeAll p ws s) = f s := by
  induction ws with
  | nil => intro s; rfl
  | cons w ws ih => intro s; exact (ih _).trans (hf _ _ _)

theorem storeAll_mem (p : MemPort) (ws : List (Nat × Word40)) : ∀ s, (storeAll p ws s).mem = s.mem.storeWords ws := by
  induction ws with
  | nil => intro s; rfl
  | cons w ws ih => intro s; rw [Mem.storeWords_cons, ← dmStore_mem p]; exact ih _

section
variable (p : MemPort) (ws : List (Nat × Word40)) (s : State)

@[simp] theorem storeAll_rf : (storeAll p ws s).rf = s.rf := storeAll_keeps State.rf (dmStore_rf p) ws s
@[simp] theorem storeAll_arf : (storeAll p ws s).arf = s.arf := storeAll_keeps State.arf (dmStore_arf p) ws s
@[simp] theorem storeAll_regs : (storeAll p ws s).regs = s.regs := storeAll_keeps State.regs (dmStore_regs p) ws s
@[simp] theorem storeAll_pend : (storeAll p ws s).pend = s.pend := storeAll_keeps State.pend (dmStore_pend p) ws s
@[simp] theorem storeAll_ports : (storeAll p ws s).ports = s.ports := storeAll_keeps State.ports (dmStore_ports p) ws s

end

/-! ## The words of a store -/

section
variable (a : BitVec 16) (e0 e1 : Option Word40)

/-- A store of unit u stores its words. -/
theorem doPort_write (u : AguUnit) (s : State) :
    doPort u (.write a e0 e1) s = storeAll (portOf u) (PortOp.write a e0 e1).writes s := rfl

theorem writes_eq : (PortOp.write a e0 e1).writes =
    e0.toList.map (Prod.mk a.toNat) ++ e1.toList.map (Prod.mk (a.toNat + 1)) := by
  cases e0 <;> cases e1 <;> rfl

theorem mem_writes (n : Nat) (v : Word40) :
    (n, v) ∈ (PortOp.write a e0 e1).writes ↔ (e0 = some v ∧ n = a.toNat) ∨ (e1 = some v ∧ n = a.toNat + 1) := by
  cases e0 <;> cases e1 <;> simp [writes_eq, and_comm, eq_comm]

theorem mem_writes_words (n : Nat) : n ∈ (PortOp.write a e0 e1).writes.map Prod.fst ↔
    (e0.isSome = true ∧ n = a.toNat) ∨ (e1.isSome = true ∧ n = a.toNat + 1) := by
  cases e0 <;> cases e1 <;> simp [writes_eq]

theorem writes_nodup : ((PortOp.write a e0 e1).writes.map Prod.fst).Nodup := by
  cases e0 <;> cases e1 <;> simp [writes_eq]

theorem dropWord_filter (ws : List Nat) (n : Nat) (e : Option Word40) :
    (if ws.contains n then none else e).toList.map (Prod.mk n) =
      (e.toList.map (Prod.mk n)).filter (fun w => !ws.contains w.1) := by
  cases e with
  | none => simp
  | some v => cases h : ws.contains n <;> simp_all

/-- What is left of a store when the words `ws` are taken from it. -/
theorem dropWords_writes (ws : List Nat) :
    (dropWords ws (.write a e0 e1)).writes = (PortOp.write a e0 e1).writes.filter (fun w => !ws.contains w.1) := by
  rw [dropWords, writes_eq, writes_eq, List.filter_append, dropWord_filter, dropWord_filter]

end

/-! ## The delivery of a read (R160, R338) -/

/-- The pending write of a read's data: none when no element is enabled. -/
def delivery (d : ReadDest) (v0 v1 : Word40) : List Pend :=
  match d with
  | .rf port n c0 c1 => only (c0 || c1) ⟨2, .rf port (only c0 (n, v0) ++ only c1 (n + 1, v1))⟩
  | .first r => [⟨2, .move r v0 false⟩]
  | .arf k => [⟨2, .moveArf k v0 v1⟩]

/-- The accesses that a read makes. -/
def readAccesses (p : MemPort) (a : Nat) (vec : Bool) (s : State) : List Access :=
  ⟨p, a, false, s.mem.dm a⟩ :: only vec ⟨p, a + 1, false, s.mem.dm (a + 1)⟩

/-- A read makes its accesses and schedules its delivery, nothing else. -/
theorem doPort_read (u : AguUnit) (a : BitVec 16) (vec : Bool) (d : ReadDest) (s : State) :
    doPort u (.read a vec d) s = { s with
      acc := s.acc ++ readAccesses (portOf u) a.toNat vec s
      pend := s.pend ++ delivery d (portRead u s a.toNat) (portRead u s (a.toNat + 1)) } := by
  have hacc : (if vec then dmLoad (portOf u) (a.toNat + 1) (dmLoad (portOf u) a.toNat s) else dmLoad (portOf u) a.toNat s) =
      { s with acc := s.acc ++ readAccesses (portOf u) a.toNat vec s } := by
    cases vec <;> simp [dmLoad, readAccesses, only]
  unfold doPort
  dsimp only
  rw [hacc]
  cases d with
  | rf port n c0 c1 => cases c0 <;> cases c1 <;> simp [State.later, delivery, readEffect, only]
  | first r => rfl
  | arf k => rfl

theorem portRead_quiet {s : State} (h : s.inp.slave = none) (u : AguUnit) (n : Nat) : portRead u s n = s.mem.dm n := by
  cases u with
  | agu0 => simp [portRead, p0bRead, h]
  | agu1 => rfl

/-- P0B reads what a slave write of the cycle leaves in its word (R188 case 5). -/
theorem portRead_slave {s : State} {w : DmView} {b k : Nat} {v : BitVec 32} (hb : b < 0x4000) (hk : k < partsOf w)
    (hx : s.inp.slave = some ⟨busAddr w b k, some v, true⟩) (n : Nat) :
    portRead .agu0 s n = if n = b then stored w k (s.mem.dm b) v else s.mem.dm n := by
  simp only [portRead, p0bRead, hx, slaveDm_busAddr hb hk, legal_busAddr hb hk, viewMerge_eq_stored, Bool.true_and, beq_iff_eq]
  by_cases h : n = b
  · subst h
    rfl
  · rw [if_neg h, if_neg (Ne.symm h)]

/-! ## The accesses of one unit that are due (R162, R163, R687) -/

section
variable {u : AguUnit} {due : List PortEntry} (s : State)

theorem unitPort_none (h : (due.filter (fun e => e.unit == u)).map PortEntry.op = []) : unitPort u due s = .ok (none, s) := by
  simp [unitPort, h]

theorem unitPort_one {o : PortOp} (h : (due.filter (fun e => e.unit == u)).map PortEntry.op = [o]) :
    unitPort u due s = .ok (some o, s) := by
  cases ho : o.reads.isEmpty <;> simp [unitPort, h, ho]

/-- A read that meets a write, in either order, is dropped with it. -/
theorem unitPort_readWrite {o p : PortOp} (h : (due.filter (fun e => e.unit == u)).map PortEntry.op = [o, p])
    (hrw : o.reads.isEmpty = !p.reads.isEmpty) : unitPort u due s = .ok (none, raise (rwExc u) s) := by
  cases hp : p.reads.isEmpty <;> rw [hp] at hrw <;> simp [unitPort, h, hp, hrw]

theorem unitPort_writes {o p : PortOp} (h : (due.filter (fun e => e.unit == u)).map PortEntry.op = [o, p])
    (ho : o.reads.isEmpty = true) (hp : p.reads.isEmpty = true) : unitPort u due s = .error .twoPortWrites := by
  simp [unitPort, h, ho, hp]

end

theorem write_reads (a : BitVec 16) (e0 e1 : Option Word40) : (PortOp.write a e0 e1).reads = [] := rfl

theorem read_reads (a : BitVec 16) (vec : Bool) (d : ReadDest) :
    (PortOp.read a vec d).reads = a.toNat :: only vec (a.toNat + 1) := by
  cases vec <;> rfl

/-! ## Both ports in one cycle (R188 case 2, R189) -/

/-- One unit reads a word that the other writes. -/
theorem doPorts_clash {o0 o1 : PortOp} {n : Nat}
    (h : (n ∈ o0.writes.map Prod.fst ∧ n ∈ o1.reads) ∨ (n ∈ o1.writes.map Prod.fst ∧ n ∈ o0.reads)) (s : State) :
    doPorts (some o0) (some o1) s = .fault .sameWordAccess := by
  have hmeet : ((o0.writes.map Prod.fst).any (fun x => o1.reads.contains x) ||
      (o1.writes.map Prod.fst).any (fun x => o0.reads.contains x)) = true := by
    simp only [Bool.or_eq_true, List.any_eq_true, List.contains_iff_mem]
    exact h.imp (fun hw => ⟨n, hw⟩) fun hw => ⟨n, hw⟩
  unfold doPorts
  dsimp only
  rw [if_pos hmeet]

/-- Some word is one of both stores. -/
def sharedWord (o0 o1 : PortOp) : Bool := (o0.writes.map Prod.fst).any fun n => (o1.writes.map Prod.fst).contains n

theorem sharedWord_iff (o0 o1 : PortOp) :
    sharedWord o0 o1 = true ↔ ∃ n, n ∈ o0.writes.map Prod.fst ∧ n ∈ o1.writes.map Prod.fst := by
  simp only [sharedWord, List.any_eq_true, List.contains_iff_mem]

/-- Two stores: the words of AGU0, then those of AGU1 that AGU0 does not write; dblwrite when they share one. -/
theorem doPorts_writes (a b : BitVec 16) (e0 e1 e2 e3 : Option Word40) (s : State) :
    ∃ t, doPorts (some (.write a e0 e1)) (some (.write b e2 e3)) s = .next t ∧
    t.mem = s.mem.storeBoth (PortOp.write a e0 e1).writes (PortOp.write b e2 e3).writes ∧
    t.regs = (raiseIf (sharedWord (.write a e0 e1) (.write b e2 e3)) .dblwrite s).regs := by
  have hpass : ¬ (((PortOp.write a e0 e1).writes.map Prod.fst).any (fun n => (PortOp.write b e2 e3).reads.contains n) ||
      ((PortOp.write b e2 e3).writes.map Prod.fst).any (fun n => (PortOp.write a e0 e1).reads.contains n)) = true := by
    rw [write_reads, write_reads]
    simp only [List.contains_nil, List.any_eq_true, Bool.or_eq_true, Bool.false_eq_true, and_false, exists_false, or_false,
      not_false_eq_true]
  unfold doPorts
  dsimp only
  rw [if_neg hpass]
  cases hs : sharedWord (.write a e0 e1) (.write b e2 e3) with
  | true =>
    refine ⟨_, if_pos hs, ?_, ?_⟩
    · rw [Mem.storeBoth, ← dropWords_writes]
      exact (storeAll_mem ..).trans (congrArg (Mem.storeWords · _) ((storeAll_mem ..).trans (by rw [raise_mem])))
    · exact (storeAll_regs ..).trans (storeAll_regs ..)
  | false =>
    have hall : (PortOp.write b e2 e3).writes.filter (fun w => !((PortOp.write a e0 e1).writes.map Prod.fst).contains w.1) =
        (PortOp.write b e2 e3).writes := by
      rw [List.filter_eq_self]
      intro w hw
      by_contra hin
      have hshared := (sharedWord_iff (.write a e0 e1) (.write b e2 e3)).mpr
        ⟨w.1, by simpa using hin, List.mem_map_of_mem hw⟩
      rw [hs] at hshared
      cases hshared
    refine ⟨_, if_neg (ne_true_of_eq_false hs), ?_, ?_⟩
    · rw [Mem.storeBoth, hall]
      exact (storeAll_mem ..).trans (congrArg (Mem.storeWords · _) (storeAll_mem ..))
    · exact (storeAll_regs ..).trans (storeAll_regs ..)

/-! ## A landing of port accesses alone -/

/-- No pending write is due: a landing of none changes nothing. -/
theorem landEffects_nil {s : State} (h : s.resetNow = false) : landEffects [] s = .next s := by
  rw [landEffects_plain s (by simp) (by simp) (by simp)]
  show Host.Outcome.next (if s.resetNow then s else scramble [] [] s) = _
  rw [h]
  rfl

/-- With no pending write a landing is that of the due accesses. -/
theorem land_ports {s : State} (hp : s.pend = []) (hr : s.resetNow = false) (hd : ∀ e ∈ s.ports, e.delay ≤ 1) :
    land s = landPorts s.ports { s with ports := [] } := by
  have hdue : s.ports.filter (fun e => decide (e.delay ≤ 1)) = s.ports := by
    rw [List.filter_eq_self]
    simpa using hd
  have hlater : s.ports.filter (fun e => decide (1 < e.delay)) = [] := by
    rw [List.filter_eq_nil_iff]
    simpa using hd
  unfold land
  simp only [hp, hdue, hlater, List.filter_nil, List.map_nil]
  rw [landEffects_nil (s := { s with pend := [], ports := [] }) hr, andThen_next, if_neg (by simp [hr])]

section
variable {s : State} (hp : s.pend = []) (hr : s.resetNow = false)
include hp hr

theorem land_one {u : AguUnit} {o : PortOp} (h : s.ports = [⟨u, 1, o⟩]) :
    land s = .next (doPort u o { s with ports := [] }) := by
  rw [land_ports hp hr (by simp [h]), h, landPorts]
  cases u with
  | agu0 => rw [unitPort_one _ rfl]; dsimp only; rw [unitPort_none _ rfl]; rfl
  | agu1 => rw [unitPort_none _ rfl]; dsimp only; rw [unitPort_one _ rfl]; rfl

/-- A read and a write of one unit are dropped with the exception (R162). -/
theorem land_readWrite {u : AguUnit} {o p : PortOp} (h : s.ports = [⟨u, 1, o⟩, ⟨u, 1, p⟩])
    (hrw : o.reads.isEmpty = !p.reads.isEmpty) : land s = .next (raise (rwExc u) { s with ports := [] }) := by
  rw [land_ports hp hr (by simp [h]), h, landPorts]
  cases u with
  | agu0 => rw [unitPort_readWrite _ rfl hrw]; dsimp only; rw [unitPort_none _ rfl]; rfl
  | agu1 => rw [unitPort_none _ rfl]; dsimp only; rw [unitPort_readWrite _ rfl hrw]; rfl

theorem land_writes {u : AguUnit} {o p : PortOp} (h : s.ports = [⟨u, 1, o⟩, ⟨u, 1, p⟩])
    (ho : o.reads.isEmpty = true) (hpr : p.reads.isEmpty = true) : land s = .refused .twoPortWrites := by
  rw [land_ports hp hr (by simp [h]), h, landPorts]
  cases u with
  | agu0 => rw [unitPort_writes _ rfl ho hpr]
  | agu1 => rw [unitPort_none _ rfl]; dsimp only; rw [unitPort_writes _ rfl ho hpr]

theorem land_both {o0 o1 : PortOp} (h : s.ports = [⟨.agu0, 1, o0⟩, ⟨.agu1, 1, o1⟩]) :
    land s = doPorts (some o0) (some o1) { s with ports := [] } := by
  rw [land_ports hp hr (by simp [h]), h, landPorts, unitPort_one _ rfl]
  dsimp only
  rw [unitPort_one _ rfl]

end

/-! ## Due port accesses -/

/-- What a due store leaves (R161): its words, every other byte and every register as before. -/
theorem land_store {s : State} (hs : s.Inv) (hp : s.pend = []) (hr : s.resetNow = false) {u : AguUnit} {a : BitVec 16}
    {e0 e1 : Option Word40} (h : s.ports = [⟨u, 1, .write a e0 e1⟩]) : ∃ t, land s = .next t ∧
      (∀ v, e0 = some v → t.mem.dm a.toNat = v) ∧ (∀ v, e1 = some v → t.mem.dm (a.toNat + 1) = v) ∧
      (∀ n, (e0.isSome = true → n < dmByte a.toNat ∨ dmByte a.toNat + 5 ≤ n) →
        (e1.isSome = true → n < dmByte (a.toNat + 1) ∨ dmByte (a.toNat + 1) + 5 ≤ n) → t.mem.read n = s.mem.read n) ∧
      t.rf = s.rf ∧ t.arf = s.arf ∧ t.regs = s.regs ∧ t.pend = [] ∧ t.ports = [] := by
  have hwords : ∀ n v, (n, v) ∈ (PortOp.write a e0 e1).writes → (s.mem.storeWords (PortOp.write a e0 e1).writes).dm n = v :=
    fun n v => Mem.dm_storeWords_mem _ hs.mem (writes_nodup a e0 e1)
  refine ⟨_, (land_one hp hr h).trans (congrArg _ (doPort_write a e0 e1 u _)), ?_⟩
  rw [storeAll_mem, storeAll_rf, storeAll_arf, storeAll_regs, storeAll_pend, storeAll_ports]
  refine ⟨fun v h0 => hwords _ v ((mem_writes ..).mpr (.inl ⟨h0, rfl⟩)),
    fun v h1 => hwords _ v ((mem_writes ..).mpr (.inr ⟨h1, rfl⟩)), fun x h0 h1 => ?_, rfl, rfl, rfl, hp, rfl⟩
  refine Mem.read_storeWords_other _ _ fun n hn => ?_
  rcases (mem_writes_words ..).mp hn with ⟨hi, rfl⟩ | ⟨hi, rfl⟩
  · exact h0 hi
  · exact h1 hi

/-- What a due read leaves (R160): its accesses and its delivery; memory and every register as before. -/
theorem land_read {s : State} (hp : s.pend = []) (hr : s.resetNow = false) {u : AguUnit} {a : BitVec 16} {vec : Bool}
    {d : ReadDest} (h : s.ports = [⟨u, 1, .read a vec d⟩]) : ∃ t, land s = .next t ∧
      t.pend = delivery d (portRead u s a.toNat) (portRead u s (a.toNat + 1)) ∧
      t.acc = s.acc ++ readAccesses (portOf u) a.toNat vec s ∧ t.inp = s.inp ∧ t.ports = [] ∧ t.mem = s.mem ∧
      t.rf = s.rf ∧ t.arf = s.arf ∧ t.regs = s.regs := by
  have hread : ∀ n, portRead u { s with ports := [] } n = portRead u s n := fun n => by cases u <;> rfl
  refine ⟨_, land_one hp hr h, ?_⟩
  rw [doPort_read, hread, hread]
  exact ⟨by simp only [hp, List.nil_append], rfl, rfl, rfl, rfl, rfl, rfl, rfl⟩

/-- A read's accesses are reads of its port. -/
theorem readAccesses_read {p : MemPort} {a : Nat} {vec : Bool} {s : State} :
    ∀ y ∈ readAccesses p a vec s, y.port = p ∧ y.write = false := by
  cases vec <;> simp [readAccesses, only]

/-- What two due stores leave (R188 case 2): of a word that both write AGU0's data stays, and dblwrite is raised for it. -/
theorem land_stores {s : State} (hs : s.Inv) (hp : s.pend = []) (hr : s.resetNow = false) {a b : BitVec 16}
    {e0 e1 e2 e3 : Option Word40} (h : s.ports = [⟨.agu0, 1, .write a e0 e1⟩, ⟨.agu1, 1, .write b e2 e3⟩]) :
    let w0 := (PortOp.write a e0 e1).writes.map Prod.fst
    let w1 := (PortOp.write b e2 e3).writes.map Prod.fst
    ∃ t, land s = .next t ∧
      (∀ v, e0 = some v → t.mem.dm a.toNat = v) ∧ (∀ v, e1 = some v → t.mem.dm (a.toNat + 1) = v) ∧
      (∀ v, e2 = some v → b.toNat ∉ w0 → t.mem.dm b.toNat = v) ∧
      (∀ v, e3 = some v → b.toNat + 1 ∉ w0 → t.mem.dm (b.toNat + 1) = v) ∧
      ((∃ n, n ∈ w0 ∧ n ∈ w1) → s.regs.mask.getLsbD 25 = false → t.regs.exception.getLsbD 25 = true) ∧
      ((∀ n, n ∈ w0 → n ∉ w1) → t.regs = s.regs) ∧
      (∀ x, (∀ n, n ∈ w0 ∨ n ∈ w1 → x < dmByte n ∨ dmByte n + 5 ≤ x) → t.mem.read x = s.mem.read x) := by
  intro w0 w1
  obtain ⟨t, hland, hmem, hregs⟩ := doPorts_writes a b e0 e1 e2 e3 { s with ports := [] }
  refine ⟨t, (land_both hp hr h).trans hland, ?_⟩
  rw [hmem, hregs]
  refine ⟨fun v h0 => ?_, fun v h1 => ?_, fun v h2 hn => ?_, fun v h3 hn => ?_, fun hshared hmask => ?_, fun hapart => ?_,
    fun x hx => Mem.read_storeBoth_other hx⟩
  · exact Mem.dm_storeBoth_first hs.mem (writes_nodup ..) ((mem_writes ..).mpr (.inl ⟨h0, rfl⟩))
  · exact Mem.dm_storeBoth_first hs.mem (writes_nodup ..) ((mem_writes ..).mpr (.inr ⟨h1, rfl⟩))
  · exact Mem.dm_storeBoth_second hs.mem (writes_nodup ..) ((mem_writes ..).mpr (.inl ⟨h2, rfl⟩)) hn
  · exact Mem.dm_storeBoth_second hs.mem (writes_nodup ..) ((mem_writes ..).mpr (.inr ⟨h3, rfl⟩)) hn
  · rw [(sharedWord_iff _ _).mpr hshared, raiseIf_true, raise_exception hmask]
    simp [Exc.bit]
  · have hnone : sharedWord (.write a e0 e1) (.write b e2 e3) = false := by
      rw [← Bool.not_eq_true, sharedWord_iff]
      exact fun ⟨n, h0, h1⟩ => hapart n h0 h1
    rw [hnone]
    rfl

/-- A word that one unit reads and the other writes (U11), whichever of them is AGU0. -/
theorem land_clash {s : State} (hp : s.pend = []) (hr : s.resetNow = false) {a b : BitVec 16} {e0 e1 : Option Word40} {vec : Bool}
    {d : ReadDest} (h : s.ports = [⟨.agu0, 1, .write a e0 e1⟩, ⟨.agu1, 1, .read b vec d⟩] ∨
      s.ports = [⟨.agu0, 1, .read b vec d⟩, ⟨.agu1, 1, .write a e0 e1⟩]) {n : Nat}
    (hwrite : n ∈ (PortOp.write a e0 e1).writes.map Prod.fst) (hread : n ∈ (PortOp.read b vec d).reads) :
    land s = .fault .sameWordAccess := by
  rcases h with h | h
  · exact (land_both hp hr h).trans (doPorts_clash (.inl ⟨hwrite, hread⟩) _)
  · exact (land_both hp hr h).trans (doPorts_clash (.inr ⟨hwrite, hread⟩) _)

/-- A slave write that meets only P0B reads lands in its word (R188 case 5). -/
theorem slaveLate_beside_reads {s : State} (hs : s.mem.wf) {w : DmView} {b k : Nat} {v : BitVec 32} (hb : b < 0x4000)
    (hk : k < partsOf w) (hx : s.inp.slave = some ⟨busAddr w b k, some v, true⟩)
    (hacc : ∀ y ∈ s.acc, y.addr = b → y.port = .p0b ∧ y.write = false) :
    ∃ t, slaveLate s = .next t ∧ t.mem.dm b = stored w k (s.mem.dm b) v ∧ SameOutside (dmByte b) 5 s.mem t.mem := by
  rw [slaveLate_store hb hk hx, slaveMeet_go hacc]
  refine ⟨_, rfl, ?_⟩
  rw [emit_mem, dmStore_mem]
  exact ⟨Mem.dm_setDm_same hs _ _, sameOutside_setDm _ _ _⟩

/-- Settles O53: with nothing else due a landing is that of the accesses; then by their number and kind. -/
theorem memoryPortAccesses : Obligations.MemoryPortAccesses := by
  refine ⟨fun s w a b k v vec d hs hp hacc hr hb hk hx h => ?_, fun s u a b hs hp hx hr =>
    ⟨fun e0 e1 h => land_store hs hp hr h, fun vec d h => ?_, fun vec d e0 e1 h => ?_,
      fun e0 e1 e2 e3 h => land_writes hp hr h rfl rfl, fun e0 e1 e2 e3 h => ?_, fun e0 e1 vec d h hmeet => ?_⟩⟩
  · obtain ⟨t, hland, hpend, htacc, hinp, -, hmem, -⟩ := land_read hp hr h
    have hreads : ∀ y ∈ t.acc, y.addr = b → y.port = .p0b ∧ y.write = false := fun y hy _ =>
      readAccesses_read y (by rwa [htacc, hacc] at hy)
    obtain ⟨t', hlate, hword, hrest⟩ := slaveLate_beside_reads (hmem ▸ hs.mem) hb hk (hinp ▸ hx) hreads
    rw [hmem] at hword hrest
    rw [portRead_slave hb hk hx, portRead_slave hb hk hx] at hpend
    exact ⟨t, t', hland, hlate, hmem, hword, hrest, hpend.trans (by cases d <;> rfl)⟩
  · obtain ⟨t, hland, hpend, -, -, hports, hrest⟩ := land_read hp hr h
    rw [portRead_quiet hx, portRead_quiet hx] at hpend
    exact ⟨t, hland, hpend.trans (by cases d <;> rfl), hports, hrest⟩
  · cases u <;> rcases h with h | h
    all_goals exact land_readWrite hp hr h (by simp [read_reads, write_reads])
  · simp only [← mem_writes_words]
    exact land_stores hs hp hr h
  · obtain ⟨n, hw, hn⟩ := hmeet
    refine land_clash hp hr h ((mem_writes_words a e0 e1 n).mpr hw) ?_
    rw [read_reads]
    rcases hn with rfl | ⟨rfl, rfl⟩
    · exact List.mem_cons_self
    · simp [only]

end Sys2Proof.Machine
end

section
/-! SUPPORT. The slave's transfers outside data memory: program words, first-bank registers, the Register File window, MGCVLIW,
MGCRESET and the PMU registers (R63, R110, R172, R176, R177, R1200). -/

namespace Sys2Proof.Machine

open Sys2Proof.Claims

/-! ## Parts of a program word (R172) -/

theorem Mem.readBytes_add (m : Mem) (i j : Nat) : ∀ a,
    m.readBytes a (i + j) = m.readBytes a i + 256 ^ i * m.readBytes (a + i) j := by
  induction i with
  | zero => intro a; simp [Mem.readBytes]
  | succ i ih =>
    intro a
    rw [Nat.add_right_comm, Mem.readBytes, Mem.readBytes, ih, Nat.add_assoc a 1 i, Nat.add_comm 1 i]
    ring

theorem Mem.readBytes_lt (m : Mem) (n : Nat) : ∀ a, m.readBytes a n < 256 ^ n := by
  induction n with
  | zero => intro a; simp [Mem.readBytes]
  | succ n ih =>
    intro a
    have hbyte := (m.read a).isLt
    have hrest := ih (a + 1)
    rw [Mem.readBytes, Nat.pow_succ']
    omega

theorem partOf_pm (m : Mem) (p : Nat) {k : Nat} (hk : k < 4) : partOf k (m.pm p) = m.pmPart p k := by
  have hword : m.readBytes (pmByte p) 16 < 2 ^ 128 := m.readBytes_lt 16 _
  have hpart : m.readBytes (pmByte p + 4 * k) 4 < 256 ^ 4 := m.readBytes_lt 4 _
  have hcut : m.readBytes (pmByte p) 16 = m.readBytes (pmByte p) (4 * k) + 256 ^ (4 * k) * (m.readBytes (pmByte p + 4 * k) 4 +
      256 ^ 4 * m.readBytes (pmByte p + 4 * k + 4) (12 - 4 * k)) := by
    rw [← Mem.readBytes_add, ← Mem.readBytes_add, show 4 * k + (4 + (12 - 4 * k)) = 16 by omega]
  have hshift : (2 : Nat) ^ (32 * k) = 256 ^ (4 * k) := by
    rw [show 32 * k = 8 * (4 * k) by omega, Nat.pow_mul]
  apply BitVec.eq_of_toNat_eq
  rw [partOf, Mem.pm, Mem.pmPart, BitVec.extractLsb'_toNat, BitVec.toNat_ofNat, BitVec.toNat_ofNat, Nat.mod_eq_of_lt hword,
    Nat.shiftRight_eq_div_pow, hshift, hcut, Nat.add_mul_div_left _ _ (by positivity),
    Nat.div_eq_of_lt (m.readBytes_lt _ _), Nat.zero_add]
  exact Nat.add_mul_mod_self_left ..

/-- A write of one part leaves it in the word, and the other parts as they were. -/
theorem partOf_setPmPart {m : Mem} (hm : m.wf) (p : Nat) {i k : Nat} (hi : i < 4) (hk : k < 4) (v : BitVec 32) :
    partOf i ((m.setPmPart p k v).pm p) = if i = k then v else partOf i (m.pm p) := by
  rw [partOf_pm _ _ hi, partOf_pm _ _ hi]
  split_ifs with h
  · rw [h, Mem.pmPart_setPmPart_same hm]
  · exact Mem.pmPart_setPmPart_other m hk hi (.inr h) v

theorem nearPc_iff (s : State) (p : Nat) : nearPc s p = true ↔ Near s p := by
  have hword : ∀ r : Option (BitVec 13), (match r with | some q => q.toNat == p | none => false) = true ↔
      ∃ q, r = some q ∧ q.toNat = p := by
    intro r
    cases r <;> simp
  simp only [nearPc, Near, Bool.and_eq_true, Bool.not_eq_true', List.any_eq_true, List.mem_range, and_assoc]
  exact and_congr_right fun _ => and_congr_right fun _ => exists_congr fun i => and_congr_right fun _ => hword _

section
variable {s : State} {p k : Nat} (hp : p < 0x2000) (hk : k < 4) {wd : Option (BitVec 32)}
  (hx : s.inp.slave = some ⟨BitVec.ofNat 32 (0x600000 + 16 * p + 4 * k), wd, true⟩)
include hp hk hx

theorem slaveEarly_pm : slaveEarly s = slavePm p k wd s := by
  have hn : (BitVec.ofNat 32 (0x600000 + 16 * p + 4 * k)).toNat = 0x600000 + 16 * p + 4 * k := by
    rw [BitVec.toNat_ofNat]; omega
  have hl : (⟨BitVec.ofNat 32 (0x600000 + 16 * p + 4 * k), wd, true⟩ : SlaveAccess).legal = true :=
    (legal_iff _).mpr ⟨rfl, by rw [hn]; omega⟩
  have hword : (0x600000 + 16 * p + 4 * k - 0x600000) / 16 = p := by omega
  have hpart : (0x600000 + 16 * p + 4 * k) / 4 % 4 = k := by omega
  rw [slaveEarly_program hx hl (by rw [hn]; omega), hn, hword, hpart]

theorem slaveLate_pm : slaveLate s = .next s :=
  slaveLate_elsewhere hx (slaveDm_eq_none (by rw [BitVec.toNat_ofNat]; omega))

end

/-! ## Offsets of the REGS region (R110) -/

/-- The number of a register from the offset of its word. -/
theorem ofNat_wordIndex {n : Nat} (r : BitVec n) : BitVec.ofNat n (4 * r.toNat / 4) = r := by
  rw [Nat.mul_div_cancel_left _ (by decide), BitVec.ofNat_toNat, BitVec.setWidth_eq]

section
variable {off : Nat} (s : State)

theorem slaveReg_readFirst (r : BitVec 7) :
    slaveReg (4 * r.toNat) none s = .next ((readClear r s).emit (.slaveData (firstRead s r))) := by
  simp only [slaveReg, ofNat_wordIndex]
  rw [if_pos (by omega)]

theorem slaveReg_writeFirst (r : BitVec 7) (v : BitVec 32) :
    slaveReg (4 * r.toNat) (some v) s = andThen (firstWrite .host r v s) fun t => .next (t.emit .slaveOk) := by
  simp only [slaveReg, ofNat_wordIndex]
  rw [if_pos (by omega)]

theorem slaveReg_readPmu (h : 0x200 ≤ off ∧ off ≤ 0x330) :
    slaveReg off none s = .next (s.emit (.slaveData (pmuRegRead s off))) := by
  simp only [slaveReg]
  rw [if_neg (by omega), if_pos h.2]

theorem slaveReg_writePmu (h : 0x200 ≤ off ∧ off ≤ 0x330) (v : BitVec 32) :
    slaveReg off (some v) s = andThen (pmuRegWrite off v s) fun t => .next (t.emit .slaveOk) := by
  simp only [slaveReg]
  rw [if_neg (by omega), if_pos h.2]

/-- The low 32 bits and the upper 8 bits of a Register File register (R177). -/
theorem slaveReg_readWindow (n : BitVec 8) :
    slaveReg (0x400 + 8 * n.toNat) none s = .next (s.emit (.slaveData ((s.rfAt n).extractLsb' 0 32))) ∧
      slaveReg (0x400 + (8 * n.toNat + 4)) none s =
        .next (s.emit (.slaveData (0#24 ++ ((s.rfAt n).extractLsb' 32 8 : BitVec 8)))) := by
  have hlow : 8 * n.toNat / 8 = n.toNat := by omega
  have hhigh : (8 * n.toNat + 4) / 8 = n.toNat := by omega
  simp only [slaveReg, Bool.and_eq_true, decide_eq_true_eq, Nat.add_sub_cancel_left, hlow, hhigh,
    BitVec.ofNat_toNat, BitVec.setWidth_eq]
  constructor
  · rw [if_neg (by omega), if_neg (by omega), if_pos (by omega), if_pos (by omega), BitVec.setWidth_eq_extractLsb' (by decide)]
  · rw [if_neg (by omega), if_neg (by omega), if_pos (by omega), if_neg (by omega), setWidth_eq_zeros_append 24]

/-- The Register File window is read only (R177). -/
theorem slaveReg_writeWindow (h : 0x400 ≤ off ∧ off < 0xC00) (v : BitVec 32) :
    slaveReg off (some v) s = .next (slaveFail s) := by
  simp only [slaveReg, Bool.and_eq_true, decide_eq_true_eq]
  rw [if_neg (by omega), if_neg (by omega), if_neg (by omega), if_neg (by omega)]

theorem slaveReg_readVliw {k : Nat} (hk : k < 4) :
    slaveReg (0xC00 + 4 * k) none s = .next (s.emit (.slaveData (partOf k (vliwWord s)))) := by
  have hbit : 8 * (0xC00 + 4 * k - 0xC00) = 32 * k := by omega
  simp only [slaveReg, Bool.and_eq_true, decide_eq_true_eq, hbit]
  rw [if_neg (by omega), if_neg (by omega), if_neg (by omega), if_pos (by omega)]
  rfl

theorem slaveReg_writeVliw {k : Nat} (hk : k < 4) (v : BitVec 32) :
    slaveReg (0xC00 + 4 * k) (some v) s = .next (s.emit .slaveOk) := by
  simp only [slaveReg, Bool.and_eq_true, decide_eq_true_eq]
  rw [if_neg (by omega), if_neg (by omega), if_pos (by omega)]

theorem slaveReg_writeReset (v : BitVec 32) :
    slaveReg 0xFC0 (some v) s = .next ((if v = 0xAC1CDEAD then hardReset s else s).emit .slaveOk) := rfl

end

/-! ## First-bank registers -/

theorem firstAddr (r : BitVec 7) :
    (0x680000 + (r.setWidth 32 <<< 2) : BitVec 32) = BitVec.ofNat 32 (0x680000 + 4 * r.toNat) := by
  rw [BitVec.natCast_eq_ofNat]
  bv_omega

theorem windowAddr (n : BitVec 8) :
    (0x680400 + (n.setWidth 32 <<< 3) : BitVec 32) = BitVec.ofNat 32 (0x680000 + (0x400 + 8 * n.toNat)) := by
  rw [BitVec.natCast_eq_ofNat]
  bv_omega

theorem readClear_frame (r : BitVec 7) (s : State) : (readClear r s).out = s.out ∧ (readClear r s).rf = s.rf ∧
    (readClear r s).mem = s.mem ∧ (readClear r s).regs = (clearRead (clearBit r) s).regs := by
  unfold readClear drawRead
  split_ifs <;> exact ⟨rfl, rfl, rfl, rfl⟩

theorem clearBit_other {r : BitVec 7} (h3 : r ≠ 0x03) (h4 : r ≠ 0x04) (h5 : r ≠ 0x05) : clearBit r = 0 := by
  rw [clearBit, if_neg h3, if_neg h4, if_neg h5]

/-! ## PMU registers (R101 to R108, R983) -/

theorem virtAt_setVirt (p : Pmu) (x y d : BitVec 6) : (p.setVirt x d).virtAt y = if y = x then d else p.virtAt y := by
  unfold Pmu.setVirt Pmu.virtAt
  by_cases h : y = x
  · subst h; simp
  · have hne : x.toNat ≠ y.toNat := fun e => h (BitVec.eq_of_toNat_eq e.symm)
    simp [h, hne]

section
variable {s : State} {off : Nat} (hoff : 0x200 ≤ off ∧ off ≤ 0x330) (h4 : off % 4 = 0)
include hoff h4

theorem shows_pmu {d : BitVec 32} (hd : pmuRegRead s off = d) : Shows s off d := fun hx => by
  rw [slaveEarly_reg (by omega) hx h4, slaveReg_readPmu s hoff, hd]
  exact ⟨rfl, slaveLate_reg (by omega) hx⟩

theorem leaves_pmu {v : BitVec 32} {t : State} (hw : pmuRegWrite off v s = .next t) (hout : t.out = s.out) :
    Leaves s off v t := fun hx => by
  rw [slaveEarly_reg (by omega) hx h4, slaveReg_writePmu s hoff, hw, andThen_next, ← hout]
  exact ⟨rfl, slaveLate_reg (by omega) hx⟩

end

theorem pmuRegRead_virt (s : State) (x : BitVec 6) : pmuRegRead s (0x200 + 4 * x.toNat) = 0#26 ++ s.pmu.virtAt x := by
  rw [pmuRegRead, if_pos (by omega), Nat.add_sub_cancel_left, ofNat_wordIndex]
  exact setWidth_eq_zeros_append 26 _

theorem pmuRegRead_mapped (s : State) (q : BitVec 3) : pmuRegRead s (0x300 + 4 * q.toNat) = s.pmu.mappedAt q := by
  rw [pmuRegRead, if_neg (by omega), if_pos (by omega), Nat.add_sub_cancel_left, ofNat_wordIndex]

theorem pmuRegWrite_virt (s : State) (x : BitVec 6) (v : BitVec 32) : pmuRegWrite (0x200 + 4 * x.toNat) v s =
    .next (s.setPmu (s.pmu.setVirt x (blend (s.pmu.virtAt x) 0x3B (v.setWidth 6)))) := by
  rw [pmuRegWrite, if_pos (by omega), Nat.add_sub_cancel_left, ofNat_wordIndex]

theorem pmuRegWrite_mapped (s : State) (q : BitVec 3) (v : BitVec 32) : pmuRegWrite (0x300 + 4 * q.toNat) v s =
    .next (s.setPmu (s.pmu.setMapped q (v &&& 0xFFFF007F))) := by
  rw [pmuRegWrite, if_neg (by omega), if_pos (by omega), Nat.add_sub_cancel_left, ofNat_wordIndex]

/-- All bits of a virtual page descriptor but ref take the written ones (R101). -/
theorem virtWord_bits (old : BitVec 6) (v : BitVec 32) : blend old 0x3B (v.setWidth 6) =
    (v.extractLsb' 3 3 : BitVec 3) ++ (old.extractLsb' 2 1 : BitVec 1) ++ (v.extractLsb' 0 2 : BitVec 2) := by
  apply BitVec.eq_of_getLsbD_eq
  intro i hi
  have hmask : (0x3B : BitVec 6).getLsbD i = decide (i ≠ 2) := by
    revert i
    decide
  rw [getLsbD_blend _ _ _ _ hi, hmask, BitVec.getLsbD_append, BitVec.getLsbD_append]
  rcases Nat.lt_trichotomy i 2 with h | rfl | h
  · simp [h, h.ne]
    omega
  · simp
  · have hpart : i - 2 - 1 < 3 := by omega
    have hplace : 3 + (i - 2 - 1) = i := by omega
    simp [h.ne', hi, show ¬ i < 2 by omega, show i - 2 ≠ 0 by omega, hpart, hplace]

/-- The chunk bits and bits 6:0 of a physical page descriptor take the written ones, the rest is 0 (R102). -/
theorem mappedWord_bits (v : BitVec 32) :
    v &&& 0xFFFF007F = (v.extractLsb' 16 16 : BitVec 16) ++ 0#9 ++ (v.extractLsb' 0 7 : BitVec 7) := by
  apply BitVec.eq_of_getLsbD_eq
  intro i hi
  have hmask : (0xFFFF007F : BitVec 32).getLsbD i = (decide (i < 7) || decide (16 ≤ i)) := by
    revert i
    decide
  rw [BitVec.getLsbD_and, hmask, BitVec.getLsbD_append, BitVec.getLsbD_append]
  split_ifs with h7 h16
  · simp [h7]
  · simp [h7, show ¬ 16 ≤ i by omega]
  · simp [show 16 ≤ i by omega, show i - 7 - 9 < 16 by omega, show 16 + (i - 7 - 9) = i by omega]

/-- A softreset drops the load with its transfer (R983). -/
theorem pmuSoftReset_eq (s : State) : pmuSoftReset s = { s with
    pmu := { s.pmu with job := none, missAt := none, maskPrefetch := false }
    dma := { s.dma with running := s.dma.running.filter (· ≠ .chunk) } } := by
  have hdma : ∀ d : Dma, (if d.running = some .chunk then { d with running := none } else d) =
      { d with running := d.running.filter (· ≠ .chunk) } := by
    rintro ⟨_, _, _ | ⟨x⟩ | _, _⟩ <;> rfl
  rw [pmuSoftReset, hdma]

theorem pmuCtl_both {v : BitVec 32} (h : v.getLsbD 1 = true ∧ v.getLsbD 2 = true) (s : State) :
    pmuCtl v s = .refused .controlPair := by
  rw [pmuCtl, h.1, h.2]
  rfl

theorem pmuCtl_eq {v : BitVec 32} (h : ¬ (v.getLsbD 1 = true ∧ v.getLsbD 2 = true)) (s : State) : pmuCtl v s =
    let t := if v.getLsbD 0 then pmuSoftReset s else s
    .next (t.setPmu { t.pmu with
      maskPrefetch := if v.getLsbD 1 then true else if v.getLsbD 2 then false else t.pmu.maskPrefetch }) := by
  rw [pmuCtl, if_neg (by simpa using h)]
  simp only [set_clear_apart _ _ _ h]

/-- Each PMU register by its offset: what it shows, and what a write leaves in it. -/
theorem pmuTransfers (s : State) : PmuTransfers s := by
  refine ⟨fun x => shows_pmu (by omega) (by omega) (pmuRegRead_virt s x),
    fun q => shows_pmu (by omega) (by omega) (pmuRegRead_mapped s q),
    shows_pmu (by decide) (by decide) (setWidth_eq_zeros_append 16 s.pmu.faultAdd),
    shows_pmu (by decide) (by decide) (setWidth_eq_zeros_append 20 s.pmu.extAdd), shows_pmu (by decide) (by decide) rfl,
    shows_pmu (by decide) (by decide) rfl, shows_pmu (by decide) (by decide) (setWidth_eq_zeros_append 29 s.pmu.physPt), fun v =>
    ⟨fun x => ⟨_, leaves_pmu (by omega) (by omega) (pmuRegWrite_virt s x v) rfl, ?_, fun y hy => ?_, rfl⟩,
    fun q => ⟨_, leaves_pmu (by omega) (by omega) (pmuRegWrite_mapped s q v) rfl, ?_, fun y hy => ?_, rfl⟩, ?_, ?_, ?_, ?_,
    fun h1 h2 hx => ?_, fun hapart => ⟨fun h0 => ?_, fun h0 => ?_⟩⟩⟩
  · rw [setPmu_pmu, virtAt_setVirt, if_pos rfl, virtWord_bits]
  · rw [setPmu_pmu, virtAt_setVirt, if_neg hy]
  · rw [setPmu_pmu, mappedAt_setMapped, if_pos rfl, mappedWord_bits]
  · rw [setPmu_pmu, mappedAt_setMapped, if_neg hy]
  · rw [← BitVec.setWidth_eq_extractLsb' (by decide)]
    exact leaves_pmu (by decide) (by decide) rfl rfl
  · rw [← BitVec.setWidth_eq_extractLsb' (by decide)]
    exact leaves_pmu (by decide) (by decide) rfl rfl
  · exact leaves_pmu (by decide) (by decide) rfl rfl
  · rw [← BitVec.setWidth_eq_extractLsb' (by decide)]
    exact leaves_pmu (by decide) (by decide) rfl rfl
  · rw [slaveEarly_reg (off := 0x328) (by decide) hx (by decide), slaveReg_writePmu s (by decide)]
    exact congrArg (andThen · _) (pmuCtl_both ⟨h1, h2⟩ s)
  · refine leaves_pmu (by decide) (by decide) ((pmuCtl_eq hapart s).trans ?_) rfl
    rw [h0]
    rfl
  · refine leaves_pmu (by decide) (by decide) ((pmuCtl_eq hapart s).trans ?_) rfl
    rw [h0, if_pos rfl, pmuSoftReset_eq]
    rfl

/-! ## The transfers together -/

section
variable {s : State} {r : BitVec 7}

theorem slave_readFirst (hx : s.inp.slave = some ⟨0x680000 + (r.setWidth 32 <<< 2), none, true⟩) :
    slaveEarly s = .next ((readClear r s).emit (.slaveData (firstRead s r))) ∧ slaveLate s = .next s := by
  rw [firstAddr] at hx
  rw [slaveEarly_reg (by omega) hx (by omega), slaveReg_readFirst]
  exact ⟨rfl, slaveLate_reg (by omega) hx⟩

theorem slave_writeFirst {v : BitVec 32} (hx : s.inp.slave = some ⟨0x680000 + (r.setWidth 32 <<< 2), some v, true⟩) :
    slaveEarly s = (andThen (firstWrite .host r v s) fun t => .next (t.emit .slaveOk)) ∧ slaveLate s = .next s := by
  rw [firstAddr] at hx
  rw [slaveEarly_reg (by omega) hx (by omega), slaveReg_writeFirst]
  exact ⟨rfl, slaveLate_reg (by omega) hx⟩

end

/-- A part of a program word, read and written (R172), away from a running program counter (U12). -/
theorem slave_program {s : State} (hs : s.Inv) {p k : Nat} (hp : p < 0x2000) (hk : k < 4) :
    let addr : BitVec 32 := BitVec.ofNat 32 (0x600000 + 16 * p + 4 * k)
    (s.inp.slave = some ⟨addr, none, true⟩ → slaveLate s = .next s ∧
      slaveEarly s = .next { s with out := s.out ++ [.slaveData (partOf k (s.mem.pm p))] }) ∧
    (∀ v, s.inp.slave = some ⟨addr, some v, true⟩ → slaveLate s = .next s ∧
      (Near s p → slaveEarly s = .refused .programNearPc) ∧
      (¬Near s p → ∃ t, slaveEarly s = .next t ∧
        (∀ i, i < 4 → partOf i (t.mem.pm p) = if i = k then v else partOf i (s.mem.pm p)) ∧
        SameOutside (pmByte p + 4 * k) 4 s.mem t.mem ∧ t.out = s.out ++ [.slaveOk] ∧
        t.rf = s.rf ∧ t.arf = s.arf ∧ t.regs = s.regs ∧ t.mode = s.mode ∧ t.ints = s.ints ∧ t.dma = s.dma ∧
        t.pmu = s.pmu)) := by
  refine ⟨fun hx => ⟨slaveLate_pm hp hk hx, ?_⟩, fun v hx => ⟨slaveLate_pm hp hk hx, fun hnear => ?_, fun hfar => ?_⟩⟩
  · rw [slaveEarly_pm hp hk hx, partOf_pm _ _ hk]
    rfl
  · rw [slaveEarly_pm hp hk hx, slavePm]
    exact if_pos ((nearPc_iff s p).mpr hnear)
  · rw [slaveEarly_pm hp hk hx, slavePm]
    refine ⟨_, if_neg (mt (nearPc_iff s p).mp hfar), fun i hi => partOf_setPmPart hs.mem p hi hk v,
      fun x hout => Mem.read_setPmPart_other _ _ _ _ hout, rfl, rfl, rfl, rfl, rfl, rfl, rfl, rfl⟩

/-- The Register File window shows both halves and takes no write (R177). -/
theorem slave_window (s : State) (n : BitVec 8) :
    let addr : BitVec 32 := 0x680400 + (n.setWidth 32 <<< 3)
    (s.inp.slave = some ⟨addr, none, true⟩ →
      slaveEarly s = .next { s with out := s.out ++ [.slaveData ((s.rfAt n).extractLsb' 0 32)] }) ∧
    (s.inp.slave = some ⟨addr + 4, none, true⟩ →
      slaveEarly s = .next { s with out := s.out ++ [.slaveData (0#24 ++ ((s.rfAt n).extractLsb' 32 8 : BitVec 8))] }) ∧
    (∀ v, s.inp.slave = some ⟨addr, some v, true⟩ ∨ s.inp.slave = some ⟨addr + 4, some v, true⟩ →
      slaveEarly s = .next { raise .slverr s with out := s.out ++ [.slaveError] }) := by
  have hhigh : BitVec.ofNat 32 (0x680000 + (0x400 + 8 * n.toNat)) + 4 =
      BitVec.ofNat 32 (0x680000 + (0x400 + (8 * n.toNat + 4))) := by
    bv_omega
  intro addr
  simp only [addr, windowAddr, hhigh, ← slaveFail_eq]
  refine ⟨fun hx => ?_, fun hx => ?_, fun v hx => hx.elim (fun hx => ?_) fun hx => ?_⟩
  · exact (slaveEarly_reg (by omega) hx (by omega)).trans (slaveReg_readWindow s n).1
  · exact (slaveEarly_reg (by omega) hx (by omega)).trans (slaveReg_readWindow s n).2
  · exact (slaveEarly_reg (by omega) hx (by omega)).trans (slaveReg_writeWindow s (by omega) v)
  · exact (slaveEarly_reg (by omega) hx (by omega)).trans (slaveReg_writeWindow s (by omega) v)

/-- A slave access to a data word that one other port touched in this cycle (R188 cases 1, 6 and 7, R189). -/
theorem slave_meets (s : State) {w : DmView} {a k : Nat} (o : Word40) (ha : a < 0x4000) (hk : k < partsOf w) :
    (∀ v, s.inp.slave = some ⟨busAddr w a k, some v, true⟩ →
      (s.acc = [⟨.p0a, a, true, o⟩] ∨ s.acc = [⟨.p0b, a, true, o⟩] →
        slaveLate s = .next { s with out := s.out ++ [.slaveOk] }) ∧
      (s.acc = [⟨.p0a, a, false, o⟩] ∨ (∃ b, s.acc = [⟨.p1b, a, b, o⟩]) → slaveLate s = .fault .sameWordAccess)) ∧
    (s.inp.slave = some ⟨busAddr w a k, none, true⟩ →
      (s.acc = [⟨.p0b, a, true, o⟩] → ∃ t, slaveLate s = .next t ∧ t.out = s.out ++ [.slaveData (seen w k o)] ∧
        t.mem = s.mem) ∧
      (s.acc = [⟨.p0a, a, true, o⟩] ∨ s.acc = [⟨.p1b, a, true, o⟩] → slaveLate s = .fault .sameWordAccess)) := by
  refine ⟨fun v hx => ?_, fun hx => ?_⟩
  · rw [slaveLate_store ha hk hx]
    refine ⟨fun h => ?_, fun h => ?_⟩
    · rw [slaveMeet_lose h]
      rfl
    · rcases h with h | ⟨b, h⟩
      · rw [slaveMeet_p0a (wr := true) rfl h]
      · rw [slaveMeet_p1b (Bool.or_true b) h]
  · rw [slaveLate_load ha hk hx]
    refine ⟨fun h => ?_, fun h => ?_⟩
    · rw [slaveMeet_old h]
      exact ⟨_, rfl, rfl, rfl⟩
    · rcases h with h | h
      · rw [slaveMeet_p0a (wr := false) rfl h]
      · rw [slaveMeet_p1b rfl h]

/-- Settles O58: region by region, each by the lemma on its offset; then how a data access meets another port. -/
theorem slaveTransfers : Obligations.SlaveTransfers := by
  intro s hs
  refine ⟨fun p k hp hk => slave_program hs hp hk, fun r => ⟨fun hx => ?_, fun v hx => ?_⟩, slave_window s, pmuTransfers s,
    fun v k hk hx => ?_, fun v hx => ⟨fun hv => ?_, fun hv => ?_⟩, fun k q hk hq hx => ?_,
    fun w a k o ha hk => slave_meets s o ha hk⟩
  · obtain ⟨hearly, hlate⟩ := slave_readFirst hx
    obtain ⟨hout, hrf, hmem, hregs⟩ := readClear_frame r s
    refine ⟨hlate, _, hearly, by rw [emit_out, hout], hrf, hmem, ?_⟩
    rw [emit_regs, hregs]
    refine ⟨fun h3 h4 h5 => by rw [clearBit_other h3 h4 h5]; rfl, ?_, ?_, ?_⟩
    · rintro rfl; rfl
    · rintro rfl; rfl
    · rintro rfl; rfl
  · obtain ⟨hearly, hlate⟩ := slave_writeFirst hx
    refine ⟨hlate, fun t ht => ?_⟩
    rw [hearly, ht]
    rfl
  · have hx' : s.inp.slave = some ⟨BitVec.ofNat 32 (0x680000 + (0xC00 + 4 * k)), some v, true⟩ := by rwa [← Nat.add_assoc]
    rw [slaveEarly_reg (by omega) hx' (by omega), slaveReg_writeVliw s hk]
    exact ⟨rfl, slaveLate_reg (by omega) hx'⟩
  · rw [slaveEarly_reg (off := 0xFC0) (by decide) hx (by decide), slaveReg_writeReset, if_neg hv]
    exact ⟨rfl, slaveLate_reg (off := 0xFC0) (by decide) hx⟩
  · rw [slaveEarly_reg (off := 0xFC0) (by decide) hx (by decide), slaveReg_writeReset, if_pos hv]
    rfl
  · have hx' : s.inp.slave = some ⟨BitVec.ofNat 32 (0x680000 + (0xC00 + 4 * k)), none, true⟩ := by rwa [← Nat.add_assoc]
    rw [slaveEarly_reg (by omega) hx' (by omega), slaveReg_readVliw s hk, vliwWord, hq]
    rfl

end Sys2Proof.Machine
end

section
/-! SUPPORT. Decoding undoes encoding (R250 to R283): what the FLOW issue decodes from each word its builders make, then each
issue's instructions by the builder of their words; and the words written out from the encoding tables. -/

namespace Sys2Proof

open Machine (Issue)

/-! ## No-operations -/

theorem decodeIssue_addNopWord (c : BitVec 7) (p : BitVec 2) :
    decodeIssue .add (addNopWord c p) = (pick c addTable).map fun mk => mk { AddF.of (addNopWord c p) with p := p } := by
  simp [decodeIssue, addNopWord, addCode, AddF.of, getField_setField_same, getField_setField_apart]

theorem decodeIssue_mulNopWord (c : BitVec 7) (p : BitVec 2) :
    decodeIssue .mul (mulNopWord c p) = (pick c mulTable).map fun mk => mk { MulF.of (mulNopWord c p) with p := p } := by
  simp [decodeIssue, mulNopWord, mulCode, MulF.of, getField_setField_same, getField_setField_apart]

theorem decodeIssue_agu0NopWord (c : BitVec 7) (p : BitVec 2) :
    decodeIssue .agu0 (agu0NopWord c p) = (pick c agu0Table).map fun mk => mk { Agu0F.of (agu0NopWord c p) with p := p } := by
  simp [decodeIssue, agu0NopWord, agu0Code, Agu0F.of, getField_setField_same, getField_setField_apart]

theorem decodeIssue_agu1NopWord (c : BitVec 7) (p : BitVec 2) :
    decodeIssue .agu1 (agu1NopWord c p) = (pick c agu1Table).map fun mk => mk { Agu1F.of (agu1NopWord c p) with p := p } := by
  simp [decodeIssue, agu1NopWord, agu1Code, Agu1F.of, getField_setField_same, getField_setField_apart]

/-! ## FLOW formats (R272 to R283). Each lemma names the fields that its format sets; any other field is what the word holds
there, which no operation of the format reads. -/

section
variable (c : BitVec 6) (p : BitVec 2)

theorem decodeIssue_bareWord :
    decodeIssue .flow (bareWord c p) = (pick c flowTable).map fun mk => mk { FlowF.of (bareWord c p) with p := p } := by
  simp [decodeIssue, bareWord, flowWord, flowCode, FlowF.of, getField_setField_same, getField_setField_apart]

theorem decodeIssue_imm0Word (r : BitVec 9) :
    decodeIssue .flow (imm0Word c p r) =
      (pick c flowTable).map fun mk => mk { FlowF.of (imm0Word c p r) with p := p, rfa7 := r } := by
  simp [decodeIssue, imm0Word, bareWord, flowWord, flowCode, FlowF.of, getField_setField_same, getField_setField_apart]

theorem decodeIssue_immcWord (r : BitVec 9) (sel : BitVec 2) :
    decodeIssue .flow (immcWord c p r sel) =
      (pick c flowTable).map fun mk => mk { FlowF.of (immcWord c p r sel) with p := p, rfa7 := r, r := sel } := by
  simp [decodeIssue, immcWord, imm0Word, bareWord, flowWord, flowCode, FlowF.of, getField_setField_same,
    getField_setField_apart]

theorem decodeIssue_imm40Word (r : BitVec 9) (v : BitVec 40) :
    decodeIssue .flow (imm40Word c p r v) =
      (pick c flowTable).map fun mk => mk { FlowF.of (imm40Word c p r v) with p := p, rfa7 := r, imm := v } := by
  simp [decodeIssue, imm40Word, imm0Word, bareWord, flowWord, flowCode, FlowF.of, getField_setField_same,
    getField_setField_apart]

theorem decodeIssue_immvWord (r : BitVec 9) (v : BitVec 40) (l : BitVec 40) :
    decodeIssue .flow (immvWord c p r v l) =
      (pick c flowTable).map fun mk => mk { FlowF.of (immvWord c p r v l) with p := p, rfa7 := r, imm := v, imml := l } := by
  simp [decodeIssue, immvWord, imm40Word, imm0Word, bareWord, flowWord, flowCode, FlowF.of, getField_setField_same,
    getField_setField_apart]

theorem decodeIssue_movWord (r : BitVec 9) (src : BitVec 8) :
    decodeIssue .flow (movWord c p r src) =
      (pick c flowTable).map fun mk => mk { FlowF.of (movWord c p r src) with p := p, rfa7 := r, rfa5 := src } := by
  simp [decodeIssue, movWord, imm0Word, bareWord, flowWord, flowCode, FlowF.of, getField_setField_same,
    getField_setField_apart]

theorem decodeIssue_movfWord (r : BitVec 9) (src : BitVec 8) :
    decodeIssue .flow (movfWord c p r src) =
      (pick c flowTable).map fun mk => mk { FlowF.of (movfWord c p r src) with p := p, rfa7 := r, rfa0 := src } := by
  simp [decodeIssue, movfWord, imm0Word, bareWord, flowWord, flowCode, FlowF.of, getField_setField_same,
    getField_setField_apart]

theorem decodeIssue_setpWord (r : BitVec 2) :
    decodeIssue .flow (setpWord c r) = (pick c flowTable).map fun mk => mk { FlowF.of (setpWord c r) with r := r } := by
  simp [decodeIssue, setpWord, flowWord, flowCode, FlowF.of, getField_setField_same, getField_setField_apart]

theorem decodeIssue_psetWord (r : BitVec 2) :
    decodeIssue .flow (psetWord c p r) =
      (pick c flowTable).map fun mk => mk { FlowF.of (psetWord c p r) with p := p, r := r } := by
  simp [decodeIssue, psetWord, bareWord, flowWord, flowCode, FlowF.of, getField_setField_same, getField_setField_apart]

theorem decodeIssue_setpvWord (r : BitVec 2) :
    decodeIssue .flow (setpvWord c r p) =
      (pick c flowTable).map fun mk => mk { FlowF.of (setpvWord c r p) with p := p, r := r } := by
  simp [decodeIssue, setpvWord, setpWord, flowWord, flowCode, FlowF.of, getField_setField_same, getField_setField_apart]

theorem decodeIssue_jregWord (jt : BitVec 8) :
    decodeIssue .flow (jregWord c p jt) =
      (pick c flowTable).map fun mk => mk { FlowF.of (jregWord c p jt) with p := p, jt := jt } := by
  simp [decodeIssue, jregWord, bareWord, flowWord, flowCode, FlowF.of, getField_setField_same, getField_setField_apart]

theorem decodeIssue_offWord (off : BitVec 16) :
    decodeIssue .flow (offWord c p off) =
      (pick c flowTable).map fun mk => mk { FlowF.of (offWord c p off) with p := p, off := off } := by
  simp [decodeIssue, offWord, bareWord, flowWord, flowCode, FlowF.of, getField_setField_same, getField_setField_apart]

theorem decodeIssue_jrelWord (jt : BitVec 8) (off : BitVec 16) :
    decodeIssue .flow (jrelWord c p jt off) =
      (pick c flowTable).map fun mk => mk { FlowF.of (jrelWord c p jt off) with p := p, jt := jt, off := off } := by
  simp [decodeIssue, jrelWord, jregWord, bareWord, flowWord, flowCode, FlowF.of, getField_setField_same,
    getField_setField_apart]

theorem decodeIssue_swpipeWord (on : BitVec 1) (k : BitVec 3) :
    decodeIssue .flow (swpipeWord c on k) = (pick c flowTable).map fun mk =>
      mk { FlowF.of (swpipeWord c on k) with on := on, k2 := k.extractLsb' 2 1, p := k.extractLsb' 0 2 } := by
  simp [decodeIssue, swpipeWord, flowWord, flowCode, FlowF.of, getField_setField_same, getField_setField_apart]

end

/-- The stage count of swpipe is split between two fields (R283). -/
theorem append_stageFields (k : BitVec 3) : (k.extractLsb' 2 1 ++ k.extractLsb' 0 2 : BitVec 3) = k :=
  (BitVec.extractLsb'_append_extractLsb'_eq_extractLsb' rfl).trans BitVec.extractLsb'_eq_self

theorem decodeIssue_encode_swpipe (on : BitVec 1) (k : BitVec 3) :
    decodeIssue .flow (encode (.swpipe on k)) = some (.swpipe on k) :=
  (decodeIssue_swpipeWord _ _ _).trans (congrArg (fun k => some (Instr.swpipe on k)) (append_stageFields k))

/-! ## Each issue: the builder of an instruction's word names the lemma that decodes it -/

/-- The ADD issue (R254 to R256): no-operation, compares, two results, one result. -/
theorem decodeIssue_encode_add {i : Instr} (h : issueOf i = .add) : decodeIssue .add (encode i) = some i := by
  cases i with
  | addNop => exact decodeIssue_addNopWord _ _
  | cfeq | cfne | vfeq | vflt | vfgt | vfle | vfge | vfne | vieq | vilt | vigt | vile | vige | vine | feq | flt | fgt |
      fle | fge | fne | ieq | ilt | igt | ile | ige | ine | cieq | cine =>
    exact decodeIssue_addCmpWord _ _ _ _
  | vfaddsub | faddsub | iaddsub | vfminmax | viminmax | vswap | fminmax | iminmax | swap | viaddsub =>
    exact decodeIssue_addWord2 _ _ _ _ _ _
  | cfaddPP | cfaddPN | cfaddNN | cfaddNP | cfjaddPP | cfjaddPN | cfjaddNN | cfjaddNP | cjjaddPP | cjjaddPN | cjjaddNN |
      cjjaddNP | cfraddPP | cfraddPN | cfraddNN | cfraddNP | ciaddPP | ciaddPN | ciaddNN | ciaddNP | cijaddPP | cijaddPN |
      cijaddNN | cijaddNP | cijjaddPP | cijjaddPN | cijjaddNN | cijjaddNP | ciraddPP | ciraddPN | ciraddNN | ciraddNP |
      vfabsaddPP | vfabsaddPN | vfabsaddNN | vfabsaddNP | viabsaddPP | viabsaddPN | viabsaddNN | viabsaddNP | faddPP |
      faddPN | faddNN | faddNP | iaddPP | iaddPN | iaddNN | iaddNP | fabsaddPP | fabsaddPN | fabsaddNN | fabsaddNP |
      iabsaddPP | iabsaddPN | iabsaddNN | iabsaddNP | vfmin | vimin | vfmax | vimax | fmin | imin | fmax | imax | fsel |
      isel =>
    exact decodeIssue_addWord _ _ _ _ _
  | _ => exact nomatch h

/-- The MUL issue (R257, R258): no-operation, one operand, two operands. -/
theorem decodeIssue_encode_mul {i : Instr} (h : issueOf i = .mul) : decodeIssue .mul (encode i) = some i := by
  cases i with
  | mulNop => exact decodeIssue_mulNopWord _ _
  | vftoi | vitof | ftoi | itof | vrf2rf | rf2rf | invseed | invsqrtseed | vinvseed | vinvsqrtseed =>
    exact decodeIssue_mulWord1 _ _ _ _
  | cfmulP | cfmulN | cfjmulP | cfjmulN | cfjmmulP | cfjmmulN | cfrmulP | cfrmulN | cimulP | cimulN | cijmulP | cijmulN |
      cijmmulP | cijmmulN | cirmulP | cirmulN | vfmulP | vfmulN | vimulP | vimulN | fmulP | fmulN | imulP | imulN | vsh |
      vshand | vshor | vshxor | vbitset | vbitclr | vbittgl | vbittst | sh | shand | shor | shxor | bitset | bitclr |
      bittgl | bittst =>
    exact decodeIssue_mulWord _ _ _ _ _
  | _ => exact nomatch h

/-- The AGU0 issue (R259 to R261): an access has a transfer field, arithmetic has none. -/
theorem decodeIssue_encode_agu0 {i : Instr} (h : issueOf i = .agu0) : decodeIssue .agu0 (encode i) = some i := by
  cases i with
  | agu0Nop => exact decodeIssue_agu0NopWord _ _
  | agu0MovAAy | agu0SubAAT | agu0AddAAT | agu0SubAAyT | agu0AddAAyT | agu0SubTAT | agu0AddTAT | agu0AddAASimm |
      agu0AddAAySimm | agu0AddTASimm | agu0AddTTSimm | agu0MulTASimm | agu0MulTTSimm | agu0MulTAMy | agu0Eq | agu0Neq |
      agu0GeS | agu0GtS | agu0LeS | agu0LtS | agu0MovAT | agu0MovTA | agu0MovTM | agu0MovTS | agu0MovTL | agu0AddltAML |
      agu0SubgtAM | agu0SubgtAT | agu0AddltATL | agu0SubgtASimm | agu0MovASimm | agu0ClrT | agu0AbsA | agu0AbsTA |
      agu0NegTM | agu0MovTUimm4 | agu0Bittest | agu0ShlAT | agu0ShrAT | agu0SarAT | agu0AndAT | agu0OrAT | agu0XorAT |
      agu0SubuAAT | agu0AdduAAT | agu0SubuAAyT | agu0AdduAAyT | agu0SubuTAT | agu0AdduTAT | agu0AdduAAImm | agu0AdduAAyImm |
      agu0AdduTAImm | agu0AdduTTImm | agu0MuluTAImm | agu0MuluTTImm | agu0MuluTAMy | agu0GeU | agu0GtU | agu0LeU | agu0LtU |
      agu0AddltuAML | agu0SubgtuAM =>
    exact decodeIssue_agu0Word1 _ _ _
  | agu0DirRs | agu0DirRv | agu0DirWs | agu0DirWv | agu0PostincRs | agu0PostincRv | agu0PostincWs | agu0PostincWv |
      agu0PostdecRs | agu0PostdecRv | agu0PostdecWs | agu0PostdecWv | agu0PreincRs | agu0PreincRv | agu0PreincWs |
      agu0PreincWv | agu0PredecRs | agu0PredecRv | agu0PredecWs | agu0PredecWv | agu0Postinc2Rs | agu0Postinc2Rv |
      agu0Postinc2Ws | agu0Postinc2Wv | agu0Postdec2Rs | agu0Postdec2Rv | agu0Postdec2Ws | agu0Postdec2Wv | agu0Preinc2Rs |
      agu0Preinc2Rv | agu0Preinc2Ws | agu0Preinc2Wv | agu0IndexRs | agu0IndexRv | agu0IndexWs | agu0IndexWv |
      agu0Base2immuRs | agu0Base2immuRv | agu0Base2immuWs | agu0Base2immuWv | agu0BaseimmuRs | agu0BaseimmuRv |
      agu0BaseimmuWs | agu0BaseimmuWv | agu0BaseimmRs | agu0BaseimmRv | agu0BaseimmWs | agu0BaseimmWv | agu0AbsRs |
      agu0AbsRv | agu0AbsWs | agu0AbsWv | agu0AbsldRs | agu0AbsldRv | agu0AbsldWs | agu0AbsldWv | agu0TmpRs | agu0TmpRv |
      agu0TmpWs | agu0TmpWv | agu0BasetmpRs | agu0BasetmpRv | agu0BasetmpWs | agu0BasetmpWv =>
    exact decodeIssue_agu0Word _ _ _ _
  | _ => exact nomatch h

/-- The AGU1 issue (R259 to R261): a read names a register, a store and arithmetic do not. -/
theorem decodeIssue_encode_agu1 {i : Instr} (h : issueOf i = .agu1) : decodeIssue .agu1 (encode i) = some i := by
  cases i with
  | agu1Nop => exact decodeIssue_agu1NopWord _ _
  | agu1DirRs | agu1DirRv | agu1PostincRs | agu1PostincRv | agu1PostdecRs | agu1PostdecRv | agu1PreincRs | agu1PreincRv |
      agu1PredecRs | agu1PredecRv | agu1Postinc2Rs | agu1Postinc2Rv | agu1Postdec2Rs | agu1Postdec2Rv | agu1Preinc2Rs |
      agu1Preinc2Rv | agu1IndexRs | agu1IndexRv | agu1Base2immuRs | agu1Base2immuRv | agu1BaseimmuRs | agu1BaseimmuRv |
      agu1BaseimmRs | agu1BaseimmRv | agu1AbsRs | agu1AbsRv | agu1AbsldRs | agu1AbsldRv | agu1TmpRs | agu1TmpRv |
      agu1BasetmpRs | agu1BasetmpRv =>
    exact decodeIssue_agu1ReadWord _ _ _ _
  | agu1DirWs | agu1DirWv | agu1PostincWs | agu1PostincWv | agu1PostdecWs | agu1PostdecWv | agu1PreincWs | agu1PreincWv |
      agu1PredecWs | agu1PredecWv | agu1Postinc2Ws | agu1Postinc2Wv | agu1Postdec2Ws | agu1Postdec2Wv | agu1Preinc2Ws |
      agu1Preinc2Wv | agu1IndexWs | agu1IndexWv | agu1Base2immuWs | agu1Base2immuWv | agu1BaseimmuWs | agu1BaseimmuWv |
      agu1BaseimmWs | agu1BaseimmWv | agu1AbsWs | agu1AbsWv | agu1AbsldWs | agu1AbsldWv | agu1TmpWs | agu1TmpWv |
      agu1BasetmpWs | agu1BasetmpWv | agu1MovAAy | agu1SubAAT | agu1AddAAT | agu1SubAAyT | agu1AddAAyT | agu1SubTAT |
      agu1AddTAT | agu1AddAASimm | agu1AddAAySimm | agu1AddTASimm | agu1AddTTSimm | agu1MulTASimm | agu1MulTTSimm |
      agu1MulTAMy | agu1Eq | agu1Neq | agu1GeS | agu1GtS | agu1LeS | agu1LtS | agu1MovAT | agu1MovTA | agu1MovTM |
      agu1MovTS | agu1MovTL | agu1AddltAML | agu1SubgtAM | agu1SubgtAT | agu1AddltATL | agu1SubgtASimm | agu1MovASimm |
      agu1ClrT | agu1AbsA | agu1AbsTA | agu1NegTM | agu1MovTUimm4 | agu1Bittest | agu1ShlAT | agu1ShrAT | agu1SarAT |
      agu1AndAT | agu1OrAT | agu1XorAT | agu1SubuAAT | agu1AdduAAT | agu1SubuAAyT | agu1AdduAAyT | agu1SubuTAT |
      agu1AdduTAT | agu1AdduAAImm | agu1AdduAAyImm | agu1AdduTAImm | agu1AdduTTImm | agu1MuluTAImm | agu1MuluTTImm |
      agu1MuluTAMy | agu1GeU | agu1GtU | agu1LeU | agu1LtU | agu1AddltuAML | agu1SubgtuAM =>
    exact decodeIssue_agu1Word _ _ _
  | _ => exact nomatch h

/-- The FLOW issue (R271 to R283), format by format. -/
theorem decodeIssue_encode_flow {i : Instr} (h : issueOf i = .flow) : decodeIssue .flow (encode i) = some i := by
  cases i with
  | pushOp | pushAgu0 | pushAgu1 | pop | flowTrue | flowFalse | fsnot | fsand | fsor | fsxor | repush | fsswap | fsand2 |
      fsi2q | fsq2i | ret | reti | watchint | sleepon | halt | writedma | readdma | prefetchReg =>
    exact decodeIssue_bareWord _ _
  | imm0v | imm0s => exact decodeIssue_imm0Word _ _ _
  | immsic | immsfc => exact decodeIssue_immcWord _ _ _ _
  | immvc | immsi | immsf => exact decodeIssue_imm40Word _ _ _ _
  | immv => exact decodeIssue_immvWord _ _ _ _ _
  | movv | movs | movss => exact decodeIssue_movWord _ _ _ _
  | movvf | movsf => exact decodeIssue_movfWord _ _ _ _
  | setp => exact decodeIssue_setpWord _ _
  | clrp | settop | setop | setagu0 | setagu1 | setnotp | setnot | sirq | pmucmd => exact decodeIssue_psetWord _ _ _
  | setpv => exact decodeIssue_setpvWord _ _ _
  | brReg | callReg => exact decodeIssue_jregWord _ _ _
  | repb | prefetchOff => exact decodeIssue_offWord _ _ _
  | br | call => exact decodeIssue_jrelWord _ _ _ _
  | swpipe => exact decodeIssue_encode_swpipe _ _
  | _ => exact nomatch h

/-- The word of an instruction decodes to it in the instruction's own issue, well-formed or not. -/
theorem decodeIssue_encode (i : Instr) : decodeIssue (issueOf i) (encode i) = some i := by
  cases h : issueOf i with
  | add => exact decodeIssue_encode_add h
  | mul => exact decodeIssue_encode_mul h
  | agu0 => exact decodeIssue_encode_agu0 h
  | agu1 => exact decodeIssue_encode_agu1 h
  | flow => exact decodeIssue_encode_flow h

/-- Settles O34: the word by the builders' lemmas, the bytes because they hold the word. -/
theorem decodeOfEncode : Obligations.DecodeOfEncode := fun i _ =>
  ⟨decodeBytes_eq_ok.mpr (decodeIssue_encode i), decodeIssue_encode i⟩

/-- Settles O35, word by word. -/
theorem knownWords : Obligations.KnownWords := by
  unfold Obligations.KnownWords
  and_intros <;> rfl

end Sys2Proof
end

section
/-! SUPPORT. Unassigned codes and inhibition (R295, R296, R332): which codes have no operation, which issues of a word are off,
and what an issue with an unassigned code does. -/

namespace Sys2Proof

open Machine (Issue)

/-! ## Codes without an operation -/

theorem pick_eq_none_iff {n : Nat} {α : Type} {c : BitVec n} {t : List (BitVec n × α)} :
    pick c t = none ↔ c ∉ t.map Prod.fst := by
  induction t with
  | nil => simp [pick]
  | cons e t ih =>
    rw [pick, List.map_cons, List.mem_cons, not_or, ← ih]
    by_cases he : e.1 = c
    · simp [he]
    · simp [he, Ne.symm he]

/-- An issue's fields hold no operation exactly when its table has no entry for the code. -/
theorem map_pick_eq_none_iff {n : Nat} {α β : Type} {c : BitVec n} {t : List (BitVec n × α)} {f : α → β} :
    (pick c t).map f = none ↔ c ∉ t.map Prod.fst :=
  Option.map_eq_none_iff.trans pick_eq_none_iff

end Sys2Proof

namespace Sys2Proof.Machine

open Sys2Proof.Claims

/-- The codes that the ADD table leaves out are the ones that R256 does not assign; so for the other issues below (R258, R260,
R271). -/
theorem addTable_lacks : ∀ c : BitVec 7, c ∉ addTable.map Prod.fst ↔ addUnassigned c = true := by decide +kernel
theorem mulTable_lacks : ∀ c : BitVec 7, c ∉ mulTable.map Prod.fst ↔ mulUnassigned c = true := by decide +kernel
theorem agu0Table_lacks : ∀ c : BitVec 7, c ∉ agu0Table.map Prod.fst ↔ c = 0x7F := by decide +kernel
theorem agu1Table_lacks : ∀ c : BitVec 7, c ∉ agu1Table.map Prod.fst ↔ c = 0x7F := by decide +kernel
theorem flowTable_lacks : ∀ c : BitVec 6, c ∉ flowTable.map Prod.fst ↔ flowUnassigned c = true := by decide +kernel

/-! ## Inhibition (R332, R262) -/

/-- R332's table, code by code. -/
theorem flowInhibits_eq_flowTakes : ∀ c : BitVec 6, flowInhibits c = flowTakes c := by decide +kernel
/-- R262's list, code by code. -/
theorem aguExtCode_eq_needsMore : ∀ c : BitVec 7, aguExtCode c = needsMore c := by decide +kernel

/-- A mask f stays under g when g grows. -/
theorem ite_or_and {f g x : BitVec 4} (b : Bool) (h : g &&& f = f) : (if b then g ||| x else g) &&& f = f := by
  cases b
  · exact h
  · ext i hi
    have hbit : (g[i] && f[i]) = f[i] := by rw [← BitVec.getElem_and, h]
    rw [if_pos rfl, BitVec.getElem_and, BitVec.getElem_or, Bool.and_or_distrib_right, hbit, Bool.or_eq_left_iff_imp]
    exact fun hx => (Bool.and_eq_true_iff.mp hx).2

/-- Extra operands only add to what FLOW inhibits. -/
theorem inhibited_and_flowTakes (w : Bundle) : inhibited w &&& flowTakes (flowCode w) = flowTakes (flowCode w) := by
  rw [← flowInhibits_eq_flowTakes]
  exact ite_or_and _ (ite_or_and _ (BitVec.and_self))

theorem not_and_eq_false {a b : Bool} (h : a = true ∨ b = false) : (!a && b) = false := by
  rcases h with rfl | rfl
  · rfl
  · exact Bool.and_false _

/-- When no running AGU issue takes extra operands, FLOW alone inhibits. -/
theorem inhibited_eq_flowTakes {w : Bundle}
    (h0 : (flowTakes (flowCode w)).getLsbD 3 = true ∨ needsMore (agu0Code w) = false)
    (h1 : (flowTakes (flowCode w)).getLsbD 1 = true ∨ needsMore (agu1Code w) = false) :
    inhibited w = flowTakes (flowCode w) := by
  simp only [inhibited, flowInhibits_eq_flowTakes, aguExtCode_eq_needsMore, not_and_eq_false h0, not_and_eq_false h1,
    Bool.false_eq_true, if_false]

/-! ## Slots -/

theorem slotOf_eq_off_iff {off : Bool} {o : Option Instr} : slotOf off o = .off ↔ off = true := by
  cases off <;> cases o <;> simp [slotOf]

theorem slotOf_eq_unknown_iff {off : Bool} {o : Option Instr} : slotOf off o = .unknown ↔ (o.isNone && !off) = true := by
  cases off <;> cases o <;> simp [slotOf]

theorem slotOf_beq_unknown (off : Bool) (o : Option Instr) : (slotOf off o == .unknown) = (o.isNone && !off) := by
  rw [Bool.eq_iff_iff, beq_iff_eq, slotOf_eq_unknown_iff]

/-- An issue with an unassigned code that is not inhibited changes nothing (R295). -/
theorem runSlot_unknown {off : Bool} {o : Option Instr} (h : (o.isNone && !off) = true) (s : State) :
    runSlot (slotOf off o) s = .next s := by
  rw [slotOf_eq_unknown_iff.mpr h, runSlot]

theorem flow_unknown {w : Bundle} (h : decodeIssue .flow w = none) : (decodeBundle w).flow = .unknown := by
  rw [decodeBundle, h]
  rfl

/-- An unassigned FLOW code is refused where it executes (R296, U16). -/
theorem runFlow_unknown_on {w : Bundle} {s : State} (hg : FlowOn (w.extractLsb' 2 2) s) :
    runFlow w .unknown s = .refused .flowCode := if_pos hg

/-- Under a false predicate it is not executed (R344). -/
theorem runFlow_unknown_off {w : Bundle} {s : State} (hg : FlowOff (w.extractLsb' 2 2) s) :
    runFlow w .unknown s = .next s := if_neg (Bool.eq_false_iff.mp hg)

/-- Settles O36: the codes by the tables, the slots by `slotOf`, the exceptions and the frame by what an unassigned slot does. -/
theorem unknownCodesRaise : Obligations.UnknownCodesRaise := by
  intro w s
  refine ⟨map_pick_eq_none_iff.trans (addTable_lacks _), map_pick_eq_none_iff.trans (mulTable_lacks _),
    map_pick_eq_none_iff.trans (agu0Table_lacks _), map_pick_eq_none_iff.trans (agu1Table_lacks _),
    map_pick_eq_none_iff.trans (flowTable_lacks _), inhibited_and_flowTakes w, inhibited_eq_flowTakes,
    slotOf_eq_off_iff, slotOf_eq_off_iff, slotOf_eq_off_iff, slotOf_eq_off_iff, fun h => ?_, ?_,
    fun h => runSlot_unknown h s, fun h => runSlot_unknown h s, fun h => runSlot_unknown h s, fun h => runSlot_unknown h s,
    fun h hg => ?_, fun h hg => ?_⟩
  · exact Bool.false_ne_true (slotOf_eq_off_iff.mp h)
  · simp only [raiseUnknown, decodeBundle, slotOf_beq_unknown]
    rfl
  · rw [flow_unknown h, runFlow_unknown_on hg]
  · rw [flow_unknown h, runFlow_unknown_off hg]

end Sys2Proof.Machine
end

section
/-! SUPPORT. The core in a clock cycle (R330, R331, R334, R335): when it takes a step, what a fetch leads to, what the end of a
bundle does, and which bundle a step runs. -/

namespace Sys2Proof.Machine

open Sys2Proof.Claims

/-! ## Sequencing -/

theorem andThen_andThen (r : Res) (f g : State → Res) :
    andThen (andThen r f) g = andThen r fun s => andThen (f s) g := by
  cases r <;> rfl

theorem runAll_one (f : State → Res) (s : State) : runAll [f] s = f s := andThen_next_self (f s)

/-- An operation that changes nothing, whatever the state. -/
def Idle (f : State → Res) : Prop := ∀ s, f s = .next s

theorem runAll_cons_idle {f : State → Res} (h : Idle f) (l : List (State → Res)) (s : State) :
    runAll (f :: l) s = runAll l s := by
  rw [runAll_cons, h, andThen_next]

theorem runAll_idle : ∀ {l : List (State → Res)}, (∀ f ∈ l, Idle f) → ∀ s, runAll l s = .next s
  | [], _, _ => rfl
  | f :: l, h, s => by
    rw [runAll_cons_idle (h f List.mem_cons_self)]
    exact runAll_idle (fun g hg => h g (List.mem_cons_of_mem f hg)) s

/-- A list in which every other operation is idle runs the one that is not. -/
theorem runAll_alone (f : State → Res) {post : List (State → Res)} (hpost : ∀ g ∈ post, Idle g) :
    ∀ {pre : List (State → Res)}, (∀ g ∈ pre, Idle g) → ∀ s, runAll (pre ++ f :: post) s = f s
  | [], _, s => by
    rw [List.nil_append, runAll_cons, funext (runAll_idle hpost), andThen_next_self]
  | g :: pre, hpre, s => by
    rw [List.cons_append, runAll_cons_idle (hpre g List.mem_cons_self)]
    exact runAll_alone f hpost (fun x hx => hpre x (List.mem_cons_of_mem g hx)) s

/-! ## When the core takes a step (R335, R970) -/

theorem coreStep_frozen {s : State} (h : inDebug s = true ∨ s.mode.asleep = true) : coreStep s = .next s :=
  if_pos (by simpa using h)

section
variable {s : State} (hd : inDebug s = false) (ha : s.mode.asleep = false)
include hd ha

theorem coreStep_landed (hl : s.landed = true) : coreStep s = fetchRun s := by
  simp [coreStep, hd, ha, hl]

theorem coreStep_miss (hl : s.landed = false) (hon : s.mode.pmuen = true) (hmiss : physOf s s.regs.pc = none) :
    coreStep s = .next (fetchMiss s.regs.pc s) := by
  simp [coreStep, hd, ha, hl, hon, hmiss]

theorem coreStep_lands (hl : s.landed = false) {p : BitVec 13} (hp : physOf s s.regs.pc = some p) :
    coreStep s = andThen (land s) fun t => if t.resetNow then .next t else fetchRun t := by
  simp [coreStep, hd, ha, hl, hp]

end

/-- A miss changes the PMU alone, but for the exception of a search that finds no page (R970). -/
theorem fetchMiss_cases (a : BitVec 16) (s : State) :
    ∃ p, fetchMiss a s = s.setPmu p ∨ fetchMiss a s = raise .pagefree (s.setPmu p) := by
  unfold fetchMiss
  dsimp only
  split
  · exact ⟨_, .inl rfl⟩
  · unfold startLoad
    split
    · exact ⟨_, .inl rfl⟩
    · exact ⟨_, .inl rfl⟩
    · split
      · exact ⟨_, .inl rfl⟩
      · exact ⟨_, .inr rfl⟩

/-- While the fetch misses nothing lands, no port is used, and registers and memory stay (R970). -/
theorem fetchMiss_frame (a : BitVec 16) (s : State) :
    (fetchMiss a s).pend = s.pend ∧ (fetchMiss a s).ports = s.ports ∧ (fetchMiss a s).rf = s.rf ∧
      (fetchMiss a s).arf = s.arf ∧ (fetchMiss a s).mem = s.mem ∧ (fetchMiss a s).regs.pc = s.regs.pc ∧
      (fetchMiss a s).mode = s.mode := by
  obtain ⟨p, h | h⟩ := fetchMiss_cases a s
  · simp [h]
  · simp [h]

/-! ## Fetch (R331, R1150) -/

section
variable (p : BitVec 13) (s : State)

@[simp] theorem latchWord_regs : (latchWord p s).regs = s.regs := by
  unfold latchWord touchPage; split <;> rfl
@[simp] theorem latchWord_mode : (latchWord p s).mode = s.mode := by
  unfold latchWord touchPage; split <;> rfl
@[simp] theorem latchWord_badParity : (latchWord p s).badParity = s.badParity := by
  unfold latchWord touchPage; split <;> rfl
@[simp] theorem latchWord_vliw : (latchWord p s).vliw = s.mem.pm p.toNat := rfl

theorem parityCheck_right (h : ¬ (s.mode.pmcheck = true ∧ p.toNat ∈ s.badParity)) : parityCheck p s = (true, s) :=
  if_neg (by simpa using h)

variable {p s} (h : s.mode.pmcheck = true ∧ p.toNat ∈ s.badParity)
include h

theorem parityCheck_breaks (hb : s.mode.pty2break = true) :
    parityCheck p s = (false, withMode s { s.mode with brk := true }) := by
  simp [parityCheck, h.1, h.2, hb, withMode, State.setMode]

theorem parityCheck_raises (hb : s.mode.pty2break = false) :
    parityCheck p s = (s.regs.mask.getLsbD 23 || !(fatalNow s).getLsbD 23, raise .ptyerr s) := by
  simp [parityCheck, h.1, h.2, hb]

end

theorem parityCheck_vliw (p : BitVec 13) (s : State) : (parityCheck p s).2.vliw = s.vliw := by
  unfold parityCheck
  split
  · split
    · rfl
    · exact raise_vliw _ s
  · rfl

/-- A fetched word is executed, or the core stops with it, as the parity check says. -/
theorem fetchRun_some {s : State} {p : BitVec 13} (h : physOf s s.regs.pc = some p) {b : Bool} {t : State}
    (hc : parityCheck p (latchWord p s) = (b, t)) :
    fetchRun s = if b then runBundle (s.mem.pm p.toNat) t else .next t := by
  have hv : t.vliw = s.mem.pm p.toNat := by
    rw [← latchWord_vliw, ← parityCheck_vliw p (latchWord p s), hc]
  simp only [fetchRun, h, hc, hv]

theorem fatalNow_congr {s t : State} (h : t.mode = s.mode) : fatalNow t = fatalNow s := by
  unfold fatalNow
  rw [h]

/-- An exception that is fatal and not masked holds the core in debug state (R1063, R1120). -/
theorem inDebug_raise {e : Exc} {s : State} (hm : s.regs.mask.getLsbD e.bit = false)
    (hf : (fatalNow s).getLsbD e.bit = true) : inDebug (raise e s) = true := by
  have hbit : e.bit < 32 := by cases e <;> decide
  have hne : ((s.regs.exception ||| bitAt 32 e.bit) &&& fatalNow s != 0) = true := by
    refine bne_iff_ne.mpr fun h => ?_
    have h0 := congrArg (fun v => BitVec.getLsbD v e.bit) h
    rw [BitVec.getLsbD_and, BitVec.getLsbD_or, getLsbD_bitAt, hf] at h0
    simp [hbit] at h0
  simp only [inDebug, innerBreak, raise_exception hm, fatalNow_congr (raise_mode e s), hne, Bool.or_true, Bool.true_or]

theorem inDebug_brk {s : State} (h : s.mode.brk = true) : inDebug s = true := by
  simp [inDebug, innerBreak, h]

theorem inDebug_stepreq {s : State} (h : s.mode.stepreq = true) : inDebug s = true := by
  simp [inDebug, innerBreak, h]

/-! ## The end of a bundle (R334, R1067) -/

theorem advancePc_taken {s : State} {t : BitVec 16} (h : s.npc = some t) :
    advancePc s = s.setRegs { s.regs with pc := t } := by
  simp [advancePc, taken_own, h]

/-- Without a transfer: the loop-back at the end of the block while the count is not 0 (R914), else the next word. -/
theorem advancePc_next {s : State} (h : s.npc = none) : advancePc s =
    if s.regs.pc = s.regs.rept.setWidth 16 ∧ s.regs.loopcnt ≠ 0 then
      s.setRegs { s.regs with
        loopcnt := s.regs.loopcnt - 1
        pc := if s.regs.loopcnt - 1 = 0 then s.regs.pc + 1 else s.regs.rept.extractLsb' 16 16 }
    else s.setRegs { s.regs with pc := s.regs.pc + 1 } := by
  simp [advancePc, taken_own, h]

theorem advancePc_cases (s : State) : ∃ r, advancePc s = s.setRegs r := by
  cases h : s.npc with
  | some t => exact ⟨_, advancePc_taken h⟩
  | none =>
    rw [advancePc_next h]
    split
    · exact ⟨_, rfl⟩
    · exact ⟨_, rfl⟩

theorem serve_cases (l : Option (Fin 8)) (s : State) : serve l s = s ∨ ∃ x, serve l s = enterInterrupt x s.regs.pc s := by
  unfold serve
  split
  · exact .inr ⟨_, rfl⟩
  · exact .inl rfl

/-- A transfer and an interrupt entry leave pending writes, port accesses and the step bits alone. -/
theorem serve_advancePc_frame (l : Option (Fin 8)) (s : State) :
    (serve l (advancePc s)).pend = s.pend ∧ (serve l (advancePc s)).ports = s.ports ∧
      (serve l (advancePc s)).mode.step = s.mode.step ∧ (serve l (advancePc s)).mode.stepreq = s.mode.stepreq := by
  obtain ⟨r, hr⟩ := advancePc_cases s
  rw [hr]
  obtain h | ⟨x, h⟩ := serve_cases l (s.setRegs r)
  · simp [h]
  · simp [h, enterInterrupt]

/-- The state that step mode finds at the end of a bundle. -/
def bundleDone (d : Slots) (l : Option (Fin 8)) (s : State) : State :=
  shiftTurns l (serve l (advancePc (raiseUnknown d (clearRead s.clears s))))

theorem endBundle_eq (d : Slots) (l : Option (Fin 8)) (s : State) :
    endBundle d l s = nextLanding (freshBundle (stepMode (bundleDone d l s))) := rfl

theorem bundleDone_frame (d : Slots) (l : Option (Fin 8)) (s : State) :
    (bundleDone d l s).pend = s.pend ∧ (bundleDone d l s).ports = s.ports ∧
      (bundleDone d l s).mode.step = s.mode.step ∧ (bundleDone d l s).mode.stepreq = s.mode.stepreq := by
  obtain ⟨hpend, hports, hstep, hreq⟩ := serve_advancePc_frame l (raiseUnknown d (clearRead s.clears s))
  refine ⟨hpend.trans ?_, hports.trans ?_, Eq.trans hstep ?_, Eq.trans hreq ?_⟩
  all_goals simp [raiseUnknown, clearRead]

theorem endBundle_pend (d : Slots) (l : Option (Fin 8)) (s : State) : (endBundle d l s).pend = s.pend := by
  rw [endBundle_eq, ← (bundleDone_frame d l s).1]
  unfold stepMode
  split <;> rfl

theorem endBundle_ports (d : Slots) (l : Option (Fin 8)) (s : State) : (endBundle d l s).ports = s.ports := by
  rw [endBundle_eq, ← (bundleDone_frame d l s).2.1]
  unfold stepMode
  split <;> rfl

/-- The end of a bundle asks for debug state in step mode (R1067). -/
theorem endBundle_stepreq (d : Slots) (l : Option (Fin 8)) (s : State) :
    (endBundle d l s).mode.stepreq = (s.mode.step || s.mode.stepreq) := by
  obtain ⟨-, -, hstep, hreq⟩ := bundleDone_frame d l s
  rw [endBundle_eq, ← hstep, ← hreq]
  unfold stepMode
  split
  · simp_all [nextLanding, freshBundle]
  · simp_all [nextLanding, freshBundle]

/-- Settles O8: each of the four meanings is the state itself. -/
theorem noOperations : Obligations.NoOperations := fun _ _ => ⟨rfl, rfl, rfl, rfl⟩

/-- Settles O43: a transfer by `advancePc_taken`, the other cases by `advancePc_next` with the loop count at hand. -/
theorem nextProgramCounter : Obligations.NextProgramCounter := by
  intro s
  refine ⟨fun t ht => advancePc_taken ht, fun hn hpc hc => ?_, fun hn hpc hc => ?_, fun hn hc => ?_⟩
  · have h0 : s.regs.loopcnt ≠ 0 := by bv_omega
    have h1 : s.regs.loopcnt - 1 ≠ 0 := by bv_omega
    rw [advancePc_next hn, if_pos ⟨hpc, h0⟩, if_neg h1]
    rfl
  · rw [advancePc_next hn, if_pos ⟨hpc, by rw [hc]; decide⟩, hc]
    rfl
  · rw [advancePc_next hn, if_neg fun h => hc.elim (· h.1) h.2]
    rfl

/-- Settles O41: when the core takes a step by `coreStep`'s cases, the end of a bundle field by field, a fetched word by what the
parity check answers. -/
theorem frozenCore : Obligations.FrozenCore := by
  intro s
  refine ⟨coreStep_frozen, fun s1 hd hb => ?_, fun hd ha hl hon hmiss => ⟨_, coreStep_miss hd ha hl hon hmiss, fetchMiss_frame _ s⟩,
    fun d l => ⟨endBundle_pend d l s, endBundle_ports d l s, fun hs => ?_, fun hs => ?_⟩,
    fun hd ha => ⟨coreStep_landed hd ha, fun hl ⟨p, hp⟩ => coreStep_lands hd ha hl hp⟩, fun p hp => ?_⟩
  · simp [step, clockCycle, hb, hd, coreCycle]
  · have hreq : (endBundle d l s).mode.stepreq = true := by rw [endBundle_stepreq, hs, Bool.true_or]
    exact ⟨hreq, inDebug_stepreq hreq⟩
  · rw [endBundle_stepreq, hs, Bool.false_or]
  · have hm := latchWord_mode p s
    have hr := latchWord_regs p s
    have hbad := latchWord_badParity p s
    refine ⟨hr, hm, rfl, fun hright => ?_, fun hwrong hb => ⟨?_, inDebug_brk rfl⟩, fun hwrong hb hstop => ?_,
      fun hwrong hb hgo => ?_⟩
    · exact fetchRun_some hp (parityCheck_right p _ (by rwa [hm, hbad]))
    · rw [fetchRun_some hp (parityCheck_breaks (by rwa [hm, hbad]) (by rwa [hm])), hm]
      rfl
    · have hfatal : (fatalNow (latchWord p s)).getLsbD 23 = true := by rw [fatalNow_congr hm]; exact hstop.2
      have hmask : (latchWord p s).regs.mask.getLsbD 23 = false := by rw [hr]; exact hstop.1
      refine ⟨?_, inDebug_raise hmask hfatal, by rw [raise_regs_pc, hr]⟩
      rw [fetchRun_some hp (parityCheck_raises (by rwa [hm, hbad]) (by rwa [hm])), hmask, hfatal]
      rfl
    · have hlet : (s.regs.mask.getLsbD 23 || !(fatalNow s).getLsbD 23) = true := by
        cases h1 : s.regs.mask.getLsbD 23 <;> cases h2 : (fatalNow s).getLsbD 23 <;> simp_all
      rw [fetchRun_some hp (parityCheck_raises (by rwa [hm, hbad]) (by rwa [hm])), hr, fatalNow_congr hm, hlet]
      rfl

/-! ## The bundle that a step runs (R330) -/

theorem slotOf_op (i : Instr) : slotOf false (some i) = .op i := rfl

/-- An issue that is not inhibited holds the operation its fields decode to (R332). -/
theorem decodeBundle_op {w : Bundle} {k : Issue} {i : Instr}
    (hin : k = .flow ∨ ∀ n, [Issue.add, .agu1, .mul, .agu0][n]? = some k → (inhibited w).getLsbD n = false)
    (hdec : decodeIssue k w = some i) :
    (match k with
      | .add => (decodeBundle w).add
      | .agu1 => (decodeBundle w).agu1
      | .mul => (decodeBundle w).mul
      | .agu0 => (decodeBundle w).agu0
      | .flow => (decodeBundle w).flow) = .op i := by
  have hrun : ∀ n, k ≠ .flow → [Issue.add, .agu1, .mul, .agu0][n]? = some k → (inhibited w).getLsbD n = false :=
    fun n hk => hin.resolve_left hk n
  cases k with
  | add => simp only [decodeBundle, hdec, hrun 0 (by decide) rfl, slotOf_op]
  | agu1 => simp only [decodeBundle, hdec, hrun 1 (by decide) rfl, slotOf_op]
  | mul => simp only [decodeBundle, hdec, hrun 2 (by decide) rfl, slotOf_op]
  | agu0 => simp only [decodeBundle, hdec, hrun 3 (by decide) rfl, slotOf_op]
  | flow => simp only [decodeBundle, hdec, slotOf_op]

/-- With the other issues idle a bundle is its FLOW operation, wherever that stands in the order of the issues (log 11). -/
theorem runAll_issueList_flow {w : Bundle} {d : Slots} {i : Instr} (hf : d.flow = .op i) (hadd : Idle (runSlot d.add))
    (hagu1 : Idle (runSlot d.agu1)) (hmul : Idle (runSlot d.mul)) (hagu0 : Idle (runSlot d.agu0)) (s : State) :
    runAll (issueList w d) s = exec i s := by
  unfold issueList
  rw [hf]
  split
  · exact runAll_alone (exec i) (pre := [runSlot d.agu0]) (by simp [hmul, hadd, hagu1]) (by simp [hagu0]) s
  · exact runAll_alone (exec i) (pre := []) (by simp [hmul, hadd, hagu0, hagu1]) (by simp) s

/-- When FLOW acts first the rest of the bundle runs from the state it leaves. -/
theorem runAll_issueList_rest {w : Bundle} {d : Slots} {f : Instr} {s t : State} (hw : agu0First w = false)
    (hf : d.flow = .op f) (hrun : exec f s = .next t) :
    runAll (issueList w d) s = runAll [runSlot d.mul, runSlot d.add, runSlot d.agu0, runSlot d.agu1] t := by
  rw [issueList, if_neg (ne_true_of_eq_false hw), runAll_cons, hf]
  show andThen (exec f s) _ = _
  rw [hrun, andThen_next]

/-- When one slot of the rest is not idle, the rest is its operation. -/
theorem runAll_rest_one {d : Slots} {i : Instr}
    (h : (d.add = .op i ∧ Idle (runSlot d.agu1) ∧ Idle (runSlot d.mul) ∧ Idle (runSlot d.agu0)) ∨
      (d.agu1 = .op i ∧ Idle (runSlot d.add) ∧ Idle (runSlot d.mul) ∧ Idle (runSlot d.agu0)) ∨
      (d.mul = .op i ∧ Idle (runSlot d.add) ∧ Idle (runSlot d.agu1) ∧ Idle (runSlot d.agu0)) ∨
      (d.agu0 = .op i ∧ Idle (runSlot d.add) ∧ Idle (runSlot d.agu1) ∧ Idle (runSlot d.mul))) (t : State) :
    runAll [runSlot d.mul, runSlot d.add, runSlot d.agu0, runSlot d.agu1] t = exec i t := by
  rcases h with ⟨ho, h1, h2, h3⟩ | ⟨ho, h1, h2, h3⟩ | ⟨ho, h1, h2, h3⟩ | ⟨ho, h1, h2, h3⟩ <;> rw [ho]
  · exact runAll_alone (exec i) (pre := [runSlot d.mul]) (by simp [h1, h3]) (by simp [h2]) t
  · exact runAll_alone (exec i) (pre := [runSlot d.mul, runSlot d.add, runSlot d.agu0]) (by simp) (by simp [h1, h2, h3]) t
  · exact runAll_alone (exec i) (pre := []) (by simp [h1, h2, h3]) (by simp) t
  · exact runAll_alone (exec i) (pre := [runSlot d.mul, runSlot d.add]) (by simp [h2]) (by simp [h1, h3]) t

/-- A step of a core that runs: what precedes the core, the landing, the bundle fetched, what follows the core. -/
theorem step_eq_bundle {s s1 s2 : State} {q0 q : BitVec 13} (hin : inDebug (cycleInputs s) = false)
    (hbefore : beforeCore s = .next s1) (hd : inDebug s1 = false) (ha : s1.mode.asleep = false) (hl : s1.landed = false)
    (hq0 : physOf s1 s1.regs.pc = some q0) (hland : land s1 = .next s2) (hreset : s2.resetNow = false)
    (hq : physOf s2 s2.regs.pc = some q) (hparity : s2.mode.pmcheck = false ∨ s2.badParity.contains q.toNat = false) :
    step s = andThen (runAll (issueList (s2.mem.pm q.toNat) (decodeBundle (s2.mem.pm q.toNat))) (freshBundle (latchWord q s2)))
      fun t => afterCore false (endBundle (decodeBundle (s2.mem.pm q.toNat)) (takenLine (latchWord q s2)) t) := by
  have hright : ¬ ((latchWord q s2).mode.pmcheck = true ∧ q.toNat ∈ (latchWord q s2).badParity) := by
    rw [latchWord_mode, latchWord_badParity]
    rintro ⟨hc, hb⟩
    rcases hparity with h | h
    · rw [hc] at h; cases h
    · rw [List.contains_iff_mem.mpr hb] at h; cases h
  have hcore : coreStep s1 = runBundle (s2.mem.pm q.toNat) (latchWord q s2) := by
    rw [coreStep_lands hd ha hl hq0, hland, andThen_next, if_neg (ne_true_of_eq_false hreset),
      fetchRun_some hq (parityCheck_right q _ hright), if_pos rfl]
  simp only [step, clockCycle, hin, hbefore, hd, coreCycle, andThen_next, hcore, runBundle, andThen_andThen, Bool.or_self,
    Bool.false_eq_true, if_false]

/-- Settles O37: a step runs the bundle fetched by `step_eq_bundle`; a slot holds what its bytes decode to; a bundle with idle
issues is the operation that is left. -/
theorem stepRunsTheBundle : Obligations.StepRunsTheBundle := by
  intro s s1 s2 q0 q hin hbefore hd ha hl hq0 hland hreset hq hparity
  have hstep := step_eq_bundle hin hbefore hd ha hl hq0 hland hreset hq hparity
  refine ⟨hstep, fun i hk hdec => decodeBundle_op hk (decodeBytes_eq_ok.mp hdec), fun i _ hf hidle => ?_,
    fun i f t hw hf hrun hidle => ?_⟩
  · obtain ⟨hadd, hagu1, hmul, hagu0⟩ := by simpa only [forall_and] using hidle
    rw [hstep, runAll_issueList_flow hf hadd hagu1 hmul hagu0]
  · rw [hstep, runAll_issueList_rest hw hf hrun, runAll_rest_one (i := i)]
    simpa only [Idle, forall_and] using hidle

end Sys2Proof.Machine
end

section
/-! SUPPORT. The landing step (R336, R337): what waits, what lands alone, and what meets when two entries are due together. -/

namespace Sys2Proof.Machine

open Sys2Proof.Claims

/-! ## What is due and what waits -/

/-- Without due port accesses the ports do nothing. -/
theorem landPorts_nil (s : State) : landPorts [] s = .next s := rfl

/-- The rest of a landing without due port accesses, after a software reset or not. -/
theorem land_idlePorts (r : Res) : (andThen r fun s => if s.resetNow then .next s else landPorts [] s) = r := by
  simp only [landPorts_nil, ite_self, andThen_next_self]

/-- Entries of which every one is due land together and none is left. -/
theorem land_due {s : State} (hports : s.ports = []) {es : List Effect} (h : s.pend = es.map (⟨1, ·⟩)) :
    land s = landEffects es { s with pend := [] } := by
  have hdue : (s.pend.filter fun e => decide (e.delay ≤ 1)).map Pend.eff = es := by
    simp [h, List.filter_map, Function.comp_def]
  have hlater : (s.pend.filter fun e => decide (1 < e.delay)) = [] := by
    simp [h]
  unfold land
  simp only [hports, hdue, hlater, List.filter_nil, List.map_nil, land_idlePorts]

/-- A movement or an operation with nothing of the other kind beside it scrambles nothing (log 12). -/
theorem scramble_operations (es : List Effect) (s : State) : scramble es [] s = s := rfl

theorem landEffects_none (s : State) : landEffects [] s = .next s := by
  show Host.Outcome.next (if s.resetNow then s else scramble [] [] s) = _
  rw [scramble_operations, ite_self]

/-- What is not due comes one step nearer (R336). -/
theorem land_waits {s : State} (hpend : ∀ e ∈ s.pend, 1 < e.delay) (hports : ∀ e ∈ s.ports, 1 < e.delay) :
    land s = .next { s with
      pend := s.pend.map (fun e => ⟨e.delay - 1, e.eff⟩), ports := s.ports.map (fun e => ⟨e.unit, e.delay - 1, e.op⟩) } := by
  have hp : s.pend.filter (fun e => decide (e.delay ≤ 1)) = [] := by simpa using hpend
  have hp' : s.pend.filter (fun e => decide (1 < e.delay)) = s.pend := by simpa using hpend
  have hq : s.ports.filter (fun e => decide (e.delay ≤ 1)) = [] := by simpa using hports
  have hq' : s.ports.filter (fun e => decide (1 < e.delay)) = s.ports := by simpa using hports
  unfold land
  simp only [hp, hp', hq, hq', List.map_nil, land_idlePorts, landEffects_none]

/-! ## Operations that land together -/

theorem filter_operations {es : List Effect} (h : ∀ e ∈ es, e.moveClass = none) :
    es.filter (fun e => e.moveClass.isNone) = es ∧ es.filter (fun e => e.moveClass.isSome) = [] ∧
      ∀ c, es.filter (fun e => e.moveClass == some c) = [] := by
  refine ⟨?_, ?_, fun c => ?_⟩
  · rw [List.filter_eq_self]; intro e he; rw [h e he]; rfl
  · rw [List.filter_eq_nil_iff]; intro e he; rw [h e he]; decide
  · rw [List.filter_eq_nil_iff]; intro e he; rw [h e he]; exact Bool.false_ne_true

/-- Effects that are no movements, no port twice: the checks of U1 and U19, then each lands. -/
theorem landEffects_operations {es : List Effect} (s : State) (h7 : (es.filter (Effect.onPort .p7)).length ≤ 1)
    (h5 : (es.filter (Effect.onPort .p5)).length ≤ 1) (hop : ∀ e ∈ es, e.moveClass = none) : landEffects es s =
      if rfClash (es.flatMap Effect.rfWrites) then .fault .rfDoubleWrite
      else if arfClash es then .refused .arfFieldTwice
      else .next (es.foldl (fun s e => landEffect e s) s) := by
  obtain ⟨hops, hmoves, hclass⟩ := filter_operations hop
  rw [landEffects_plain s h7 h5 (by simp [hclass])]
  simp only [hops, hmoves, List.filter_nil, List.append_nil, List.map_nil, runAll_nil, andThen_next, scramble_operations, ite_self]
  rfl

/-- One effect has no other writer of its A field. -/
theorem arfClash_one (e : Effect) : arfClash [e] = false := by
  cases e <;> simp [arfClash, Effect.movesA]

/-- An operation that lands alone. -/
theorem land_operation {s : State} (hports : s.ports = []) {e : Effect} (h : s.pend = [⟨1, e⟩]) (hop : e.moveClass = none)
    (hrf : rfClash e.rfWrites = false) : land s = .next (landEffect e { s with pend := [] }) := by
  rw [land_due hports (es := [e]) h, landEffects_operations _ (List.length_filter_le _ _) (List.length_filter_le _ _) (by simpa),
    List.flatMap_singleton, hrf, arfClash_one]
  rfl

/-! ## One movement -/

/-- A movement goes to one address. -/
theorem movesTo_one {e : Effect} {a b : BitVec 7} (ha : movesTo [e] a = true) (hb : movesTo [e] b = true) : a = b := by
  cases e with
  | move d v soon => simp_all [movesTo]
  | _ => cases ha

/-- With no operation beside it a movement scrambles nothing: one to MGCCONDITION is none to MGCDMACTRL. -/
theorem scramble_movement (e : Effect) (s : State) : scramble [] [e] s = s := by
  have hapart : movesTo [e] 0x6#7 = true → movesTo [e] 0x6F#7 = false := fun h6 =>
    Bool.eq_false_iff.mpr fun h => absurd (movesTo_one h6 h) (by decide)
  cases h6 : movesTo [e] 0x6#7 with
  | false => simp [scramble, h6]
  | true => simp [scramble, h6, hapart h6]

/-- A movement that lands alone, of whichever class. -/
theorem landEffects_movement {e : Effect} {c : MoveClass} (h : e.moveClass = some c) (s : State) :
    landEffects [e] s = landMove e s := by
  rw [landEffects_plain s (List.length_filter_le _ _) (List.length_filter_le _ _) fun _ => List.length_filter_le _ _,
    arfClash_one]
  cases c <;> simp [h, rfClash, scramble_movement, runAll_one, -runAll_cons, andThen_next_self]

/-- The registers of R1082, one by one. -/
theorem heldRegister_iff (a : BitVec 7) : heldRegister a = true ↔
    a ∈ ([0x71, 0x72, 0x73, 0x74, 0x75, 0x76, 0x77, 0x78, 0x79, 0x7C, 0x7E, 0x7F] : List (BitVec 7)) := by
  revert a; decide

theorem land_movement {s : State} (hports : s.ports = []) {e : Effect} {c : MoveClass} (h : s.pend = [⟨1, e⟩])
    (hc : e.moveClass = some c) : land s = landMove e { s with pend := [] } := by
  rw [land_due hports (es := [e]) h, landEffects_movement hc]

/-! ## Status flags (R51, R640 to R642) -/

/-- Some bit of a word is set under the mask of the positions `l`. -/
theorem and_mask_ne_zero {n : Nat} (f : BitVec n) {l : List Nat} (hl : ∀ i ∈ l, i < n) :
    (f &&& l.foldr (fun i m => bitAt n i ||| m) 0 != 0) = l.any fun i => f.getLsbD i := by
  induction l with
  | nil => simp
  | cons i l ih =>
    have hi : (f &&& bitAt n i != 0) = f.getLsbD i := by
      have hbit : bitAt n i ≠ 0#n := fun h => by
        have h0 := congrArg (fun v => BitVec.getLsbD v i) h
        simp [hl i List.mem_cons_self] at h0
      unfold bitAt at hbit ⊢
      rw [BitVec.and_twoPow]
      cases f.getLsbD i <;> simp [hbit]
    have hor : ∀ a b : BitVec n, (a ||| b != 0) = (a != 0 || b != 0) := fun a b => by
      rw [Bool.eq_iff_iff]
      simp [BitVec.or_eq_zero_iff]
      tauto
    rw [List.foldr_cons, List.any_cons, ← ih fun j hj => hl j (List.mem_cons_of_mem i hj), ← hi, ← hor]
    congr 1
    ext j hj
    simp [Bool.and_or_distrib_left]

/-- The bits of MGCSTIKY that MGCEXCEPTION collects as badin and as badout (R642). -/
theorem badin_mask : (0xC8421088 : BitVec 32) = [3, 7, 12, 17, 22, 27, 30, 31].foldr (fun i m => bitAt 32 i ||| m) 0 := by decide
theorem badout_mask : (0x22210844 : BitVec 32) = [2, 6, 11, 16, 21, 25, 29].foldr (fun i m => bitAt 32 i ||| m) 0 := by decide

/-- Each event of a unit sets its bit of the flag word and no other (R51, R641). -/
theorem flagWord_bits (u : Unit2) (e : Ev) (i : Nat) :
    (flagWord u e).getLsbD i = (eventBits u).any fun x => x.1 == i && x.2 e := by
  have hbit : ∀ (b : Bool) (k : Nat), k < 32 → (flag 32 k b).getLsbD i = (k == i && b) := fun b k hk => by
    rw [getLsbD_flag, decide_eq_true hk, Bool.true_and, Bool.and_comm]
    rfl
  cases u <;> simp [flagWord, eventBits, hbit, Bool.or_assoc]

/-- Settles O50: an operation that lands alone is `landEffect`, a movement that does is `landMove`. -/
theorem landingOfEntries : Obligations.LandingOfEntries := by
  refine ⟨flagWord_bits, fun s => ⟨land_waits, fun hp => ⟨?_, ?_, ?_, ?_, ?_, ?_, ?_, ?_, ?_, ?_, ?_, ?_, ?_⟩⟩⟩
  · exact fun port n v h => land_operation hp h rfl rfl
  · intro port n m v w hne h
    refine land_operation hp h rfl ?_
    simp [Effect.rfWrites, rfClash, hne.symm]
  · exact fun v h => land_operation hp h rfl rfl
  · exact fun v h => land_operation hp h rfl rfl
  · exact fun m v h => land_operation hp h rfl rfl
  · exact fun u k v h => land_operation hp h rfl rfl
  · exact fun m v h => land_operation hp h rfl rfl
  · exact fun v h => land_operation hp h rfl rfl
  · exact fun v h => land_operation hp h rfl rfl
  · exact fun v h => land_operation hp h rfl rfl
  · exact fun k v0 v1 h => land_movement hp h rfl
  · intro path f h
    have hin := and_mask_ne_zero f (l := [3, 7, 12, 17, 22, 27, 30, 31]) (by decide)
    have hout := and_mask_ne_zero f (l := [2, 6, 11, 16, 21, 25, 29]) (by decide)
    have hdz : f.getLsbD 26 = [26].any fun i => f.getLsbD i := (Bool.or_false _).symm
    rw [land_operation hp h rfl rfl, landEffect, landSticky, badin_mask, badout_mask, hin, hout, hdz]
    rfl
  · intro a v soon h
    rw [land_movement hp h rfl, landMove]
    refine congrArg (andThen _) (funext fun u => congrArg Host.Outcome.next ?_)
    simp only [State.holdSight, heldRegister_iff]
    cases soon with
    | false => rw [if_neg Bool.false_ne_true, if_neg fun h => Bool.false_ne_true h.1]
    | true => simp only [true_and, if_true, State.sight]

/-! ## What meets (R337, U1, U19, U21) -/

/-- An effect of one class of R337 is of no other. -/
theorem clashes_apart (e : Effect) : clashes.Pairwise fun c d => d.1 e = true → c.1 e = false := by
  cases e with
  | rf q w => cases q <;> simp [clashes, Effect.onPort, Effect.moveClass]
  | move a v soon => cases hc : Machine.moveClass a <;> simp [clashes, Effect.onPort, Effect.moveClass, hc]
  | _ => simp [clashes, Effect.onPort, Effect.moveClass]

/-- The classes of R337 one after another. -/
def dropClashes (cs : List ((Effect → Bool) × Exc)) (es : List Effect) (s : State) : List Effect × State :=
  cs.foldl (fun x c => oneOf c.1 c.2 x.1 x.2) (es, s)

theorem dropClashes_nil (s : State) : ∀ cs, dropClashes cs [] s = ([], s)
  | [] => rfl
  | _ :: cs => dropClashes_nil s cs

/-- Two effects of one class are dropped with its exception. -/
theorem dropClashes_two {e1 e2 : Effect} {c : (Effect → Bool) × Exc} (h1 : c.1 e1 = true) (h2 : c.1 e2 = true) (s : State) :
    ∀ {cs : List ((Effect → Bool) × Exc)}, (cs.Pairwise fun c d => d.1 e1 = true → c.1 e1 = false) →
      (cs.Pairwise fun c d => d.1 e2 = true → c.1 e2 = false) → c ∈ cs →
      dropClashes cs [e1, e2] s = ([], raise c.2 s)
  | d :: cs, ha1, ha2, hc => by
    rw [List.pairwise_cons] at ha1 ha2
    rcases List.mem_cons.mp hc with rfl | hc
    · have hdrop : oneOf c.1 c.2 [e1, e2] s = ([], raise c.2 s) := by simp [oneOf, h1, h2]
      show dropClashes cs (oneOf c.1 c.2 [e1, e2] s).1 (oneOf c.1 c.2 [e1, e2] s).2 = _
      rw [hdrop, dropClashes_nil]
    · have hkeep : oneOf d.1 d.2 [e1, e2] s = ([e1, e2], s) :=
        oneOf_few s (by simp [ha1.1 c hc h1, ha2.1 c hc h2])
      show dropClashes cs (oneOf d.1 d.2 [e1, e2] s).1 (oneOf d.1 d.2 [e1, e2] s).2 = _
      rw [hkeep]
      exact dropClashes_two h1 h2 s ha1.2 ha2.2 hc

/-- When all that was due is dropped the landing is over. -/
theorem landEffects_dropped {es : List Effect} {s t : State} (h : dropClashes clashes es s = ([], t)) :
    landEffects es s = .next t := by
  simp only [dropClashes, clashes, List.foldl_cons, List.foldl_nil] at h
  rw [← landEffects_none t]
  unfold landEffects
  dsimp only
  rw [h]
  rfl

/-- No register is given two values (U1): writes to one register agree. -/
theorem rfClash_eq_false_iff {l : List (BitVec 8 × Word40)} :
    rfClash l = false ↔ l.Pairwise fun w x => x.1 = w.1 → x.2 = w.2 := by
  induction l with
  | nil => simp [rfClash]
  | cons w l ih => simp [rfClash, ih]

/-- Of two elements in either order at most one passes when a does not. -/
theorem filter_pair_le_one {α : Type} {a b : α} {l : List α} (hl : l = [a, b] ∨ l = [b, a]) {p : α → Bool} (h : p a = false) :
    (l.filter p).length ≤ 1 := by
  rcases hl with rfl | rfl
  · cases hb : p b <;> simp [h, hb]
  · cases hb : p b <;> simp [h, hb]

theorem filter_onPort_le_one {p q : RfPort} (h : p ≠ q) (es fs : List (BitVec 8 × Word40)) (r : RfPort) :
    ([Effect.rf p es, .rf q fs].filter (Effect.onPort r)).length ≤ 1 := by
  by_cases hp : p = r
  · exact filter_pair_le_one (.inr rfl) (beq_false_of_ne (hp ▸ h.symm))
  · exact filter_pair_le_one (.inl rfl) (beq_false_of_ne hp)

/-- Two Register File writes through two ports: the check of U1, then both land. -/
theorem land_twoPorts {s : State} (hports : s.ports = []) {p q : RfPort} (hpq : p ≠ q) {es fs : List (BitVec 8 × Word40)}
    (h : s.pend = [⟨1, .rf p es⟩, ⟨1, .rf q fs⟩]) : land s =
      if rfClash (es ++ fs) then .fault .rfDoubleWrite
      else .next ([Effect.rf p es, .rf q fs].foldl (fun s e => landEffect e s) { s with pend := [] }) := by
  have hflat : [Effect.rf p es, .rf q fs].flatMap Effect.rfWrites = es ++ fs := by simp [Effect.rfWrites]
  rw [land_due hports (es := [.rf p es, .rf q fs]) h, landEffects_operations _ (filter_onPort_le_one hpq es fs _)
    (filter_onPort_le_one hpq es fs _) (by simp [Effect.moveClass]), hflat]
  rfl

/-- Another effect that writes the A field which unit u writes in ARF register k (U19). -/
def Effect.otherA (u : AguUnit) (k : BitVec 4) (f : Effect) : Prop := f.movesA k = true ∨ ∃ o x, o ≠ u ∧ f = .aguA o k x

theorem arfClash_of_otherA {es : List Effect} {u : AguUnit} {k : BitVec 4} {v : BitVec 16} {f : Effect}
    (hu : .aguA u k v ∈ es) (hf : f ∈ es) (h : f.otherA u k) : arfClash es = true := by
  refine List.any_eq_true.mpr ⟨_, hu, List.any_eq_true.mpr ⟨f, hf, ?_⟩⟩
  rcases h with h | ⟨o, x, ho, rfl⟩
  · rw [h, Bool.true_or]
  · simp [ho]

/-- A movement to the A field of ARF register k, by its address in the pair or alone (R38). -/
theorem movesA_of_address {k : BitVec 4} {a : BitVec 7} (h : a = 0x14#7 + k.setWidth 7 ∨ a = 0x34#7 + k.setWidth 7)
    (x : Word40) (soon : Bool) : (Effect.move a x soon).movesA k = true := by
  have hk := k.isLt
  have hsum : a.toNat = 0x14 + k.toNat ∨ a.toNat = 0x34 + k.toNat := by
    rcases h with rfl | rfl
    · exact .inl (by bv_omega)
    · exact .inr (by bv_omega)
  rw [Effect.movesA, Bool.or_eq_true, beq_iff_eq, beq_iff_eq]
  exact hsum

/-- A writer of an A field writes no Register File register. -/
theorem rfWrites_of_otherA {u : AguUnit} {k : BitVec 4} {f : Effect} (h : f.otherA u k) : f.rfWrites = [] := by
  rcases h with h | ⟨o, x, -, rfl⟩
  · cases f with
    | rf q w => cases h
    | _ => rfl
  · rfl

/-- Two writers of one A field are refused, in either order (U19). -/
theorem land_otherA {s : State} (hports : s.ports = []) {u : AguUnit} {k : BitVec 4} {v : BitVec 16} {f : Effect}
    (hf : f.otherA u k) {es : List Effect} (hes : es = [.aguA u k v, f] ∨ es = [f, .aguA u k v])
    (hpend : s.pend = es.map (⟨1, ·⟩)) : land s = .refused .arfFieldTwice := by
  have hmem : ∀ e, e ∈ es ↔ e = .aguA u k v ∨ e = f := by
    rcases hes with rfl | rfl <;> simp [or_comm]
  have hclash : arfClash es = true := arfClash_of_otherA ((hmem _).mpr (.inl rfl)) ((hmem f).mpr (.inr rfl)) hf
  have hflat : (es.filter fun e => e.moveClass.isNone).flatMap Effect.rfWrites = [] := by
    rw [List.flatMap_eq_nil_iff]
    intro e he
    rcases (hmem e).mp (List.mem_of_mem_filter he) with rfl | rfl
    · rfl
    · exact rfWrites_of_otherA hf
  rw [land_due hports hpend, landEffects_plain _ (filter_pair_le_one hes rfl) (filter_pair_le_one hes rfl)
    fun c => filter_pair_le_one hes rfl]
  simp only [hflat, hclash, if_true]
  rfl

/-- A movement toward MGCSTKIQ with a stack operation is refused, in either order (U21). -/
theorem land_stkiq {s : State} (hports : s.ports = []) {v : BitVec 32} {x : Word40} {soon : Bool} {es : List Effect}
    (hes : es = [.stkiq v, .move 0x70 x soon] ∨ es = [.move 0x70 x soon, .stkiq v]) (hpend : s.pend = es.map (⟨1, ·⟩)) :
    land s = .refused .moveStkiq := by
  rw [land_due hports hpend, landEffects_plain _ (filter_pair_le_one hes rfl) (filter_pair_le_one hes rfl)
    fun c => filter_pair_le_one hes rfl]
  rcases hes with rfl | rfl <;> simp [Effect.moveClass, Effect.rfWrites, rfClash, arfClash, movesTo]

/-- Settles O51: two ports by `rfClash`, two writers of an A field by `arfClash`, the classes of R337 by `dropClashes_two`. -/
theorem landingClashes : Obligations.LandingClashes := by
  refine ⟨fun s p q es fs hpq hp h ⟨n, v, w, hv, hw, hne⟩ => ?_, fun s p q n m v w hpq hp h hsame => ?_,
    fun s u k v f hp h hf => ?_, fun s v x soon hp h => ?_, fun c hc s e1 e2 hp h h1 h2 => ?_⟩
  · have hclash : rfClash (es ++ fs) = true := by
      rw [← Bool.not_eq_false, rfClash_eq_false_iff, List.pairwise_append]
      exact fun ⟨_, _, hall⟩ => hne (hall _ hv _ hw rfl).symm
    rw [land_twoPorts hp hpq h, if_pos hclash]
  · have hclash : rfClash ([(n, v)] ++ [(m, w)]) = false := by
      rw [rfClash_eq_false_iff]
      simpa using fun hmn => (hsame hmn.symm).symm
    rw [land_twoPorts hp hpq h, hclash]
    rfl
  · have hother : f.otherA u k := by
      rcases hf with ⟨o, x, ho, rfl⟩ | ⟨x, soon, rfl⟩ | ⟨x, soon, rfl⟩ | ⟨x, y, rfl⟩
      · exact .inr ⟨o, x, ho, rfl⟩
      · exact .inl (movesA_of_address (.inl rfl) x soon)
      · exact .inl (movesA_of_address (.inr rfl) x soon)
      · exact .inl (beq_self_eq_true k)
    rcases h with h | h
    · exact land_otherA hp hother (.inl rfl) h
    · exact land_otherA hp hother (.inr rfl) h
  · rcases h with h | h
    · exact land_stkiq hp (.inl rfl) h
    · exact land_stkiq hp (.inr rfl) h
  · rw [land_due hp (es := [e1, e2]) h]
    exact landEffects_dropped (dropClashes_two h1 h2 _ (clashes_apart e1) (clashes_apart e2) hc)

/-! ## A sum, from its bundle to its register (R336, R382, R1210) -/

/-- Entries that land together come one step nearer together. -/
theorem land_nearer {s : State} (hports : s.ports = []) {n : Nat} {es : List Effect} (h : s.pend = es.map (⟨n + 2, ·⟩)) :
    land s = .next { s with pend := es.map (⟨n + 1, ·⟩) } := by
  rw [land_waits (by simp [h]) (by simp [hports])]
  simp only [h, hports, List.map_map, List.map_nil]
  simp [← hports, Function.comp_def]

/-- Entries that are three steps away land in the third landing and not before. -/
theorem land_thrice {s : State} (hports : s.ports = []) {es : List Effect} (h : s.pend = es.map (⟨3, ·⟩)) :
    land s = .next { s with pend := es.map (⟨2, ·⟩) } ∧
      land { s with pend := es.map (⟨2, ·⟩) } = .next { s with pend := es.map (⟨1, ·⟩) } ∧
      land { s with pend := es.map (⟨1, ·⟩) } = landEffects es { s with pend := [] } :=
  ⟨land_nearer (n := 1) hports h, land_nearer (s := { s with pend := es.map (⟨2, ·⟩) }) (n := 0) hports rfl,
    land_due (s := { s with pend := es.map (⟨1, ·⟩) }) hports rfl⟩

theorem rfAt_setRf (s : State) (n m : BitVec 8) (v : Word40) : (s.setRf n v).rfAt m = if m = n then v else s.rfAt m := by
  unfold State.rfAt
  by_cases h : m = n
  · subst h
    simp
  · have hne : n.toNat ≠ m.toNat := fun e => h (BitVec.eq_of_toNat_eq e.symm)
    simp [h, hne]

section
variable (path : Bool) (f : BitVec 32) (s : State)

@[simp] theorem landSticky_rf : (landSticky path f s).rf = s.rf := by simp [landSticky]
theorem landSticky_rfAt (n : BitVec 8) : (landSticky path f s).rfAt n = s.rfAt n := by
  unfold State.rfAt
  simp only [landSticky_rf]
@[simp] theorem landSticky_arf : (landSticky path f s).arf = s.arf := by simp [landSticky]
@[simp] theorem landSticky_mem : (landSticky path f s).mem = s.mem := by simp [landSticky]
@[simp] theorem landSticky_pc : (landSticky path f s).regs.pc = s.regs.pc := by cases path <;> simp [landSticky]

end

/-- What an ADD operation with one result x for register d and the flags f leaves pending (R382, R640). -/
def sumEffects (d : BitVec 8) (x : Word40) (f : BitVec 32) : List Effect := [.rf .p6 [(d, x)], .sticky (d.getLsbD 0) f]

/-- An enabled FADD schedules its sum and its flags three steps ahead, and latches its output. -/
theorem exec_faddPP {p : BitVec 2} {s : State} (h : ScalarOn .add p s) (d a b : BitVec 8) :
    exec (.faddPP p d a b) s = .next (scalarNext .add 3 s d (fadd (s.rfAt a) (s.rfAt b)).1
      (flagWord .add1 (fadd (s.rfAt a) (s.rfAt b)).2)) := by
  have harm : exec (.faddPP p d a b) s = addScalar p d a b .add1 (elFadd false false) s := rfl
  rw [harm, addScalar, scalarOp_on h.1 h.2]
  rfl

theorem scalarNext_pend (s : State) (d : BitVec 8) (x : Word40) (f : BitVec 32) :
    (scalarNext .add 3 s d x f).pend = s.pend ++ (sumEffects d x f).map (⟨3, ·⟩) := rfl

theorem landEffects_sum (d : BitVec 8) (x : Word40) (f : BitVec 32) (s : State) :
    landEffects (sumEffects d x f) s = .next (landSticky (d.getLsbD 0) f (s.setRf d x)) := by
  rw [sumEffects, landEffects_operations s (by simp [Effect.onPort]) (by simp [Effect.onPort]) (by simp [Effect.moveClass])]
  rfl

/-- Three landings after an ADD operation with one result, from an idle pipeline: its entries come nearer twice, then the register
and the flags change. -/
theorem scalarNext_lands {s : State} (hpend : s.pend = []) (hports : s.ports = []) (d : BitVec 8) (x : Word40) (f : BitVec 32) :
    ∃ s2 s3 s4, land (scalarNext .add 3 s d x f) = .next s2 ∧ land s2 = .next s3 ∧ land s3 = .next s4 ∧
      (scalarNext .add 3 s d x f).rf = s.rf ∧ s2.rf = s.rf ∧ s3.rf = s.rf ∧ s4.rfAt d = x ∧
      (∀ n, n ≠ d → s4.rfAt n = s.rfAt n) ∧ s4.arf = s.arf ∧ s4.mem = s.mem ∧ s4.regs.pc = s.regs.pc := by
  have h : (scalarNext .add 3 s d x f).pend = (sumEffects d x f).map (⟨3, ·⟩) := by
    rw [scalarNext_pend, hpend, List.nil_append]
  obtain ⟨h1, h2, h3⟩ := land_thrice (s := scalarNext .add 3 s d x f) hports h
  refine ⟨_, _, _, h1, h2, h3.trans (landEffects_sum d x f _), rfl, rfl, rfl, ?_, fun n hn => ?_, ?_, ?_, ?_⟩
  · rw [landSticky_rfAt, rfAt_setRf, if_pos rfl]
  · rw [landSticky_rfAt, rfAt_setRf, if_neg hn]
    rfl
  · rw [landSticky_arf]
    rfl
  · rw [landSticky_mem]
    rfl
  · rw [landSticky_pc]
    rfl

/-- Settles O52: the bundle schedules the sum by `exec_faddPP`, the landings are those of `scalarNext_lands`. -/
theorem sumVisibleAfterThreeSteps : Obligations.SumVisibleAfterThreeSteps := by
  intro p d a b s hpend hports _ hon
  obtain ⟨s2, s3, s4, hlands⟩ := scalarNext_lands hpend hports d (fadd (s.rfAt a) (s.rfAt b)).1
    (flagWord .add1 (fadd (s.rfAt a) (s.rfAt b)).2)
  exact ⟨_, s2, s3, s4, exec_faddPP hon d a b, hlands⟩

end Sys2Proof.Machine
end

section
/-! SUPPORT. The ADD issue's operations (spec 41): the operation forms of the ADD and MUL issues under their gates, the states
they answer, then which form each row of the table has. -/

namespace Sys2Proof.Machine

open Sys2Proof.Claims

/-! ## Gates -/

/-- The vector form (R252, R340, R344): idle under a closed gate, else refused for an odd pair, else on to t. -/
theorem onPairs_gated (i : Issue) (p : BitVec 2) (pairs : List (BitVec 8)) (s t : State) :
    OnPairs i p s pairs
      (if !(issueGate s i p).c0 && !(issueGate s i p).c1 then .next s
       else if pairs.any (fun r => !evenPair r) then .refused .oddPair
       else .next t) t := by
  have hopen (h : PairOn i p s) : ¬ (!(issueGate s i p).c0 && !(issueGate s i p).c1) = true := by
    rcases h with h | h <;> simp_all [c0, c1]
  refine ⟨fun hon heven => ?_, fun hon hodd => ?_, fun ⟨h0, h1⟩ => ?_⟩
  · have hall : ¬ pairs.any (fun r => !evenPair r) = true := by simpa [evenPair, IsEven] using heven
    rw [if_neg (hopen hon), if_neg hall]
  · have hany : pairs.any (fun r => !evenPair r) = true := by simpa [evenPair, IsEven] using hodd
    rw [if_neg (hopen hon), if_pos hany]
  · exact if_pos (by simp_all [c0, c1])

/-- The scalar form (R341, R344): idle under a closed gate, a fault where C0 and C1 differ, else on to t. -/
theorem onScalar_gated (i : Issue) (p : BitVec 2) (s : State) (run : State → Res) {t : State} (h : run s = .next t) :
    OnScalar i p s (scalarGate (issueGate s i p) s run) t := by
  refine ⟨fun ⟨h0, h1⟩ => (scalarGate_on h0 h1 s run).trans h, fun ⟨h0, h1⟩ => ?_,
    fun hne => if_pos (bne_iff_ne.mpr hne)⟩
  simp_all [scalarGate, c0, c1]

theorem pairOp_onPairs (i : Issue) (lat : Nat) (p : BitVec 2) (pairs : List (BitVec 8)) (f : State → PairOut) (s : State) :
    OnPairs i p s pairs (pairOp i lat p pairs f s) (schedulePair i lat (issueGate s i p) (f s) s) :=
  onPairs_gated i p pairs s _

theorem scalarOp_onScalar (i : Issue) (lat : Nat) (p : BitVec 2) (f : State → ScalarOut) (s : State) :
    OnScalar i p s (scalarOp i lat p f s) (scheduleScalar i lat (f s) s) :=
  onScalar_gated i p s _ rfl

/-! ## Scheduled results, where the flags come with the result (R382, R640) -/

section
variable {i : Issue} {lat : Nat} (hflag : flagDelay i lat = lat) (s : State) (p : BitVec 2) (d d2 : BitVec 8)
  (x0 x1 y0 y1 : Word40) (f0 f1 : BitVec 32)
include hflag

theorem schedulePair_eq_pairNext :
    schedulePair i lat (issueGate s i p) { d := d, e0 := x0, e1 := x1, f0 := f0, f1 := f1 } s =
      pairNext i lat s p d x0 x1 f0 f1 := by
  simp only [schedulePair, pairEffects, hflag]
  rfl

theorem schedulePair_eq_pairNext2 :
    schedulePair i lat (issueGate s i p)
        { d := d, e0 := x0, e1 := x1, f0 := f0, f1 := f1, second := some (d2, y0, y1) } s =
      pairNext2 i lat s p d d2 x0 x1 y0 y1 f0 f1 := by
  simp only [schedulePair, pairEffects, hflag]
  rfl

theorem scheduleScalar_eq_scalarNext :
    scheduleScalar i lat { d := d, v := x0, f := f0 } s = scalarNext i lat s d x0 f0 := by
  simp only [scheduleScalar, scalarEffects, hflag]
  rfl

theorem scheduleScalar_eq_scalarNext2 :
    scheduleScalar i lat { d := d, v := x0, f := f0, second := some (d2, y0) } s = scalarNext2 i lat s d d2 x0 y0 f0 := by
  simp only [scheduleScalar, scalarEffects, hflag]
  rfl

end

/-! ## The forms of the ADD issue -/

/-- A row's function as an element of the model. The model's elements see what the destination holds too, for INT_RESULT_MSB
alone, whose value (D9) keeps no bit of it. -/
def elemOf (f : Fn) : Elem := fun s _ a b => f s a b

theorem addPair_onPairs (p : BitVec 2) (d a b : BitVec 8) (u : Unit2) (e0 e1 : Fn) (s : State) :
    let x := e0 s (s.rfAt a) (s.rfAt b)
    let y := e1 s (s.rfAt (a + 1)) (s.rfAt (b + 1))
    OnPairs .add p s [d, a, b] (addPair p d a b u (elemOf e0) (elemOf e1) s)
      (pairNext .add 3 s p d x.1 y.1 (flagWord u x.2) (flagWord u y.2)) := by
  intro x y
  rw [← schedulePair_eq_pairNext rfl]
  exact pairOp_onPairs ..

theorem addReal_onPairs (p : BitVec 2) (d a b : BitVec 8) (e0 : Fn) (im : State → Word40 → Val) (s : State) :
    let x := e0 s (s.rfAt a) (s.rfAt b)
    let y := im s (s.rfAt (a + 1))
    OnPairs .add p s [d, a] (addReal p d a b (elemOf e0) (fun s _ a => im s a) s)
      (pairNext .add 3 s p d x.1 y.1 (flagWord .add1 x.2) (flagWord .add1 y.2)) := by
  intro x y
  rw [← schedulePair_eq_pairNext rfl]
  exact pairOp_onPairs ..

theorem addScalar_onScalar (p : BitVec 2) (d a b : BitVec 8) (u : Unit2) (e : Fn) (s : State) :
    let x := e s (s.rfAt a) (s.rfAt b)
    OnScalar .add p s (addScalar p d a b u (elemOf e) s) (scalarNext .add 3 s d x.1 (flagWord u x.2)) := by
  intro x
  rw [← scheduleScalar_eq_scalarNext rfl]
  exact scalarOp_onScalar ..

theorem addPair2_onPairs (p : BitVec 2) (d e a b : BitVec 8) (u1 u2 : Unit2) (e0 e1 x0 x1 : Fn) (s : State) :
    let x := e0 s (s.rfAt a) (s.rfAt b)
    let y := e1 s (s.rfAt (a + 1)) (s.rfAt (b + 1))
    let v := x0 s (s.rfAt a) (s.rfAt b)
    let w := x1 s (s.rfAt (a + 1)) (s.rfAt (b + 1))
    OnPairs .add p s [d, e, a, b] (addPair2 p d e a b u1 u2 (elemOf e0) (elemOf e1) (elemOf x0) (elemOf x1) s)
      (pairNext2 .add 3 s p d e x.1 y.1 v.1 w.1 (flagWord u1 x.2 ||| flagWord u2 v.2) (flagWord u1 y.2 ||| flagWord u2 w.2)) := by
  intro x y v w
  rw [← schedulePair_eq_pairNext2 rfl]
  exact pairOp_onPairs ..

theorem addScalar2_onScalar (p : BitVec 2) (d e a b : BitVec 8) (u1 u2 : Unit2) (e0 x0 : Fn) (s : State) :
    let x := e0 s (s.rfAt a) (s.rfAt b)
    let v := x0 s (s.rfAt a) (s.rfAt b)
    OnScalar .add p s (addScalar2 p d e a b u1 u2 (elemOf e0) (elemOf x0) s)
      (scalarNext2 .add 3 s d e x.1 v.1 (flagWord u1 x.2 ||| flagWord u2 v.2)) := by
  intro x v
  rw [← scheduleScalar_eq_scalarNext2 rfl]
  exact scalarOp_onScalar ..

/-! ## Rows with results

Each arm of `exec` is its form over the row's functions: by unfolding the arm, its meaning and the functions, row by row. -/

theorem exec_pairRow : ∀ r ∈ floatComplexRows ++ integerComplexRows ++ pairSelectRows, ∀ p d a b s,
    exec (r.op p d a b) s = addPair p d a b r.unit (elemOf r.e0) (elemOf r.e1) s := by
  simp only [floatComplexRows, integerComplexRows, pairSelectRows, List.forall_mem_append, ← List.forall_iff_forall_mem,
    List.Forall]
  and_intros <;> intros <;> rfl

theorem exec_realRow : ∀ r ∈ complexRealRows, ∀ p d a b s,
    exec (r.op p d a b) s = addReal p d a b (elemOf r.e0) (fun s _ a => r.im s a) s := by
  simp only [complexRealRows, ← List.forall_iff_forall_mem, List.Forall]
  and_intros <;> intros <;> rfl

theorem exec_scalarRow : ∀ r ∈ scalarAddRows, ∀ p d a b s,
    exec (r.op p d a b) s = addScalar p d a b r.unit (elemOf r.e0) s := by
  simp only [scalarAddRows, ← List.forall_iff_forall_mem, List.Forall]
  and_intros <;> intros <;> rfl

theorem exec_pairRow2 : ∀ r ∈ pairRows2, ∀ p d e a b s,
    exec (r.op p d e a b) s =
      addPair2 p d e a b r.unit r.unit2 (elemOf r.e0) (elemOf r.e1) (elemOf r.x0) (elemOf r.x1) s := by
  simp only [pairRows2, ← List.forall_iff_forall_mem, List.Forall]
  and_intros <;> intros <;> rfl

theorem exec_scalarRow2 : ∀ r ∈ scalarRows2, ∀ p d e a b s,
    exec (r.op p d e a b) s = addScalar2 p d e a b r.unit r.unit2 (elemOf r.e0) (elemOf r.x0) s := by
  simp only [scalarRows2, ← List.forall_iff_forall_mem, List.Forall]
  and_intros <;> intros <;> rfl

/-- Settles O1: every row is `addPair` over its functions. -/
theorem pairResults : Obligations.PairResults := by
  intro r hr p d a b s
  rw [exec_pairRow r hr]
  exact addPair_onPairs ..

/-- Settles O3: every row is `addReal` over its functions. -/
theorem complexWithRealSums : Obligations.ComplexWithRealSums := by
  intro r hr p d a b s
  rw [exec_realRow r hr]
  exact addReal_onPairs ..

/-- Settles O4: every row is `addScalar` over its function. -/
theorem scalarAddResults : Obligations.ScalarAddResults := by
  intro r hr p d a b s
  rw [exec_scalarRow r hr]
  exact addScalar_onScalar ..

/-- Settles O5: the pair rows are `addPair2`, the scalar rows `addScalar2`. -/
theorem twoResultOperations : Obligations.TwoResultOperations := by
  refine ⟨fun r hr p d e a b s => ?_, fun r hr p d e a b s => ?_⟩
  · rw [exec_pairRow2 r hr]
    exact addPair2_onPairs ..
  · rw [exec_scalarRow2 r hr]
    exact addScalar2_onScalar ..

/-! ## Compares (R468, R617, R634) -/

theorem xi_eq (a : Word40) : xi a = (a.extractLsb' 0 32).toInt := by
  rw [xi, BitVec.setWidth_eq_extractLsb' (by decide)]

theorem toNat_iword (n : Int) : ((iword n).toNat : Int) = n % 2 ^ 32 := by
  have hlow : (iword n).toNat = (BitVec.ofInt 32 n).toNat := by
    rw [iword, BitVec.toNat_append]
    simp [intResult, Config.intOverflowResult]
  rw [hlow, BitVec.toNat_ofInt, Int.toNat_of_nonneg (Int.emod_nonneg _ (by decide))]
  rfl

/-- NE is the one predicate that holds on an unordered pair (R617). -/
theorem holds_ne : Rel.ne.holds = isNe := by
  funext c
  cases c <;> rfl

/-- The mask and the values of fpucond0 and fpucond1 as words of MGCCONDITION (R48). -/
theorem fpuMask_eq : ∀ x y : Bool, fpuMask x y = (if x then 0x0100 else 0) ||| (if y then 0x0200 else 0) := by decide

theorem fpuMask_same : ∀ x : Bool, fpuMask x x = if x then 0x0300 else 0 := by decide

theorem pairCompare_onPairs (p : BitVec 2) (pairs : List (BitVec 8)) (f : State → Bool × Bool) (s : State) :
    OnPairs .add p s pairs (pairCompare p pairs f s)
      (plus s 3 (.cond ((if c0 s .add p then 0x0100 else 0) ||| (if c1 s .add p then 0x0200 else 0))
        ((if (f s).1 then 0x0100 else 0) ||| (if (f s).2 then 0x0200 else 0)))) := by
  rw [← fpuMask_eq, ← fpuMask_eq]
  exact onPairs_gated .add p pairs s _

theorem scalarCompare_onScalar (p : BitVec 2) (f : State → Bool) (s : State) :
    OnScalar .add p s (scalarCompare p f s) (plus s 3 (.cond 0x0300 (if f s then 0x0300 else 0))) := by
  rw [← fpuMask_same]
  exact onScalar_gated .add p s _ rfl

/-- The two conditions of a compare of pairs, as its row gives them. -/
def pairConditions (r : CmpRow) (a b : BitVec 8) (s : State) : Bool × Bool :=
  let x := r.cmp (s.rfAt a) (s.rfAt b)
  let y := r.cmp (s.rfAt (a + 1)) (s.rfAt (b + 1))
  (r.j0 x y, r.j1 x y)

/-- A scalar compare's condition: its row's, of the one outcome. -/
def scalarCondition (r : CmpRow) (a b : BitVec 8) (s : State) : Bool :=
  let x := r.cmp (s.rfAt a) (s.rfAt b)
  r.j0 x x

theorem exec_pairCompareRow : ∀ r ∈ pairCompareRows, ∀ p a b s,
    exec (r.op p a b) s = pairCompare p [a, b] (pairConditions r a b) s := by
  simp only [pairCompareRows, ← holds_ne, ← List.forall_iff_forall_mem, List.Forall]
  and_intros <;> intros <;> rfl

theorem exec_scalarCompareRow : ∀ r ∈ scalarCompareRows, ∀ p a b s,
    exec (r.op p a b) s = scalarCompare p (scalarCondition r a b) s := by
  simp only [scalarCompareRows, ← holds_ne, ← List.forall_iff_forall_mem, List.Forall]
  and_intros <;> intros <;> rfl

/-- Settles O6: the order and the words of integers, then every row as the compare of its conditions. -/
theorem compares : Obligations.Compares := by
  refine ⟨fun a b => ⟨?_, xi_eq a⟩, toNat_iword, fun r hr p a b s => ?_, fun r hr p a b s => ?_⟩
  · rw [icmp, cmpInt, xi_eq, xi_eq]
  · rw [exec_pairCompareRow r hr]
    exact pairCompare_onPairs p [a, b] (pairConditions r a b) s
  · rw [exec_scalarCompareRow r hr]
    exact scalarCompare_onScalar p (scalarCondition r a b) s

end Sys2Proof.Machine
end

section
/-! SUPPORT. The MUL issue's operations (spec 42): the states its operation forms answer, which form each row of the table has,
and what the shift types make of a datum. -/

namespace Sys2Proof.Machine

open Sys2Proof.Claims

/-! ## The forms of the MUL issue -/

/-- A function of the operand as a one-source element of the model, which sees what the destination holds too. As in `elemOf`, D9
keeps no bit of that. -/
def elem1Of (f : Word40 → Val) : Elem1 := fun _ a => f a

section
variable (p : BitVec 2) (d a b : BitVec 8) (u : Unit2) (s : State)

theorem mulPair_onPairs (e : Fn) :
    let x := e s (s.rfAt a) (s.rfAt b)
    let y := e s (s.rfAt (a + 1)) (s.rfAt (b + 1))
    OnPairs .mul p s [d, a, b] (mulPair p d a b u (elemOf e) s)
      (pairNext .mul 3 s p d x.1 y.1 (flagWord u x.2) (flagWord u y.2)) := by
  intro x y
  rw [← schedulePair_eq_pairNext rfl]
  exact pairOp_onPairs ..

theorem mulScalar_onScalar (e : Fn) :
    let x := e s (s.rfAt a) (s.rfAt b)
    OnScalar .mul p s (mulScalar p d a b u (elemOf e) s) (scalarNext .mul 3 s d x.1 (flagWord u x.2)) := by
  intro x
  rw [← scheduleScalar_eq_scalarNext rfl]
  exact scalarOp_onScalar ..

theorem mulReal_onPairs (e : Fn) :
    let x := e s (s.rfAt a) (s.rfAt b)
    let y := e s (s.rfAt (a + 1)) (s.rfAt b)
    OnPairs .mul p s [d, a] (mulReal p d a b (elemOf e) s)
      (pairNext .mul 5 s p d x.1 y.1 (flagWord .mul1 x.2) (flagWord .mul1 y.2)) := by
  intro x y
  rw [← schedulePair_eq_pairNext rfl]
  exact pairOp_onPairs ..

theorem mulComplex_onPairs (m re im : Fn) :
    let rr := m s (s.rfAt a) (s.rfAt b)
    let ii := m s (s.rfAt (a + 1)) (s.rfAt (b + 1))
    let ir := m s (s.rfAt (a + 1)) (s.rfAt b)
    let ri := m s (s.rfAt (b + 1)) (s.rfAt a)
    let x := re s rr.1 ii.1
    let y := im s ir.1 ri.1
    OnPairs .mul p s [d, a, b] (mulComplex p d a b (elemOf m) (elemOf re) (elemOf im) s)
      (pairNext .mul 5 s p d x.1 y.1 (flagWord .mul1 rr.2 ||| flagWord .mul2 ii.2 ||| flagWord .add2 x.2)
        (flagWord .mul1 ir.2 ||| flagWord .mul2 ri.2 ||| flagWord .add2 y.2)) := by
  intro rr ii ir ri x y
  rw [← schedulePair_eq_pairNext rfl]
  exact pairOp_onPairs ..

theorem mulPair1_onPairs (f : Word40 → Val) :
    let x := f (s.rfAt a)
    let y := f (s.rfAt (a + 1))
    OnPairs .mul p s [d, a] (mulPair1 p d a u (elem1Of f) s)
      (pairNext .mul 3 s p d x.1 y.1 (flagWord u x.2) (flagWord u y.2)) := by
  intro x y
  rw [← schedulePair_eq_pairNext rfl]
  exact pairOp_onPairs ..

theorem mulScalar1_onScalar (f : Word40 → Val) :
    let x := f (s.rfAt a)
    OnScalar .mul p s (mulScalar1 p d a u (elem1Of f) s) (scalarNext .mul 3 s d x.1 (flagWord u x.2)) := by
  intro x
  rw [← scheduleScalar_eq_scalarNext rfl]
  exact scalarOp_onScalar ..

end

/-! ## Rows

As for the ADD issue, each arm of `exec` is its form over the row's functions, row by row. -/

/-- R528: a shift of the one by a position above 39 leaves no bit, so the mask needs no bound. -/
theorem selected_eq_bitMask : selected = bitMask := by
  funext b
  rw [selected, bitMask]
  split
  · exact BitVec.twoPow_eq ..
  · exact (BitVec.shiftLeft_eq_zero (by omega)).symm

theorem exec_complexRealProduct : ∀ r ∈ complexRealProducts, ∀ p d a b s,
    exec (r.1 p d a b) s = mulReal p d a b (elemOf r.2) s := by
  simp only [complexRealProducts, ← List.forall_iff_forall_mem, List.Forall]
  and_intros <;> intros <;> rfl

theorem exec_complexProductRow : ∀ r ∈ complexProductRows, ∀ p d a b s,
    exec (r.op p d a b) s = mulComplex p d a b (elemOf r.mul) (elemOf r.re) (elemOf r.im) s := by
  simp only [complexProductRows, ← List.forall_iff_forall_mem, List.Forall]
  and_intros <;> intros <;> rfl

theorem mulPairRows_elements_eq : ∀ r ∈ mulPairRows, r.e1 = r.e0 := by
  simp only [mulPairRows, ← List.forall_iff_forall_mem, List.Forall, and_self]

theorem exec_mulPairRow : ∀ r ∈ mulPairRows, ∀ p d a b s,
    exec (r.op p d a b) s = mulPair p d a b r.unit (elemOf r.e0) s := by
  simp only [mulPairRows, shSet, shClr, shTgl, shTst, selected_eq_bitMask, ← List.forall_iff_forall_mem, List.Forall]
  and_intros <;> intros <;> rfl

theorem exec_mulScalarRow : ∀ r ∈ mulScalarRows, ∀ p d a b s,
    exec (r.op p d a b) s = mulScalar p d a b r.unit (elemOf r.e0) s := by
  simp only [mulScalarRows, shSet, shClr, shTgl, shTst, selected_eq_bitMask, ← List.forall_iff_forall_mem, List.Forall]
  and_intros <;> intros <;> rfl

theorem exec_oneRow_pair : ∀ r ∈ oneSourceRows, ∀ p d a s,
    exec (r.pair p d a) s = mulPair1 p d a r.unit (elem1Of r.f) s := by
  simp only [oneSourceRows, ← List.forall_iff_forall_mem, List.Forall]
  and_intros <;> intros <;> rfl

theorem exec_oneRow_single : ∀ r ∈ oneSourceRows, ∀ p d a s,
    exec (r.single p d a) s = mulScalar1 p d a r.unit (elem1Of r.f) s := by
  simp only [oneSourceRows, ← List.forall_iff_forall_mem, List.Forall]
  and_intros <;> intros <;> rfl

/-- Settles O9: the products by a real are `mulReal` over the row's function, the complex ones `mulComplex` over its three. -/
theorem complexProducts : Obligations.ComplexProducts := by
  refine ⟨fun r hr p d a b s => ?_, fun r hr p d a b s => ?_⟩
  · rw [exec_complexRealProduct r hr]
    exact mulReal_onPairs ..
  · rw [exec_complexProductRow r hr]
    exact mulComplex_onPairs ..

/-- Settles O10: the pair rows are `mulPair` over the one function of both elements, the scalar rows `mulScalar`. -/
theorem productsAndShifts : Obligations.ProductsAndShifts := by
  refine ⟨fun r hr p d a b s => ?_, fun r hr p d a b s => ?_⟩
  · rw [exec_mulPairRow r hr, mulPairRows_elements_eq r hr]
    exact mulPair_onPairs ..
  · rw [exec_mulScalarRow r hr]
    exact mulScalar_onScalar ..

/-- Settles O12: a row's pair operation is `mulPair1` over its function, its scalar twin `mulScalar1`. -/
theorem oneSourceOperations : Obligations.OneSourceOperations := by
  intro r hr p d a s
  refine ⟨?_, ?_⟩
  · rw [exec_oneRow_pair r hr]
    exact mulPair1_onPairs ..
  · rw [exec_oneRow_single r hr]
    exact mulScalar1_onScalar ..

/-! ## Shift types (R527) -/

theorem getLsbD_shiftType (t : BitVec 3) (n : BitVec 5) (i : Nat) : (t ++ n).getLsbD (5 + i) = t.getLsbD i := by
  rw [BitVec.getLsbD_append, if_neg (by omega), Nat.add_sub_cancel_left]

/-- A shift by its type t and the five bits n below it. -/
theorem shift_type_count (d : Word40) (t : BitVec 3) (n : BitVec 5) : shift d (t ++ n) =
    let w : BitVec 32 := d.setWidth 32
    if t.getLsbD 2 then
      if t.getLsbD 1 then
        if t.getLsbD 0 then BitVec.ofNat 40 (encodeBit w (n.getLsbD 0) (n.getLsbD 1))
        else (w.rotateLeft n.toNat).setWidth 40
      else if t.getLsbD 0 then (w >>> n.toNat).setWidth 40
      else ((w <<< n.toNat) ||| BitVec.ofNat 32 (2 ^ n.toNat - 1)).setWidth 40
    else if t.getLsbD 1 then rotl40 d ((t ++ n).setWidth 6 : BitVec 6).toNat
    else if t.getLsbD 0 then (w.sshiftRight n.toNat).setWidth 40
    else ((w &&& 0x80000000) ||| ((w <<< n.toNat) &&& 0x7FFFFFFF)).setWidth 40 := by
  have htype := getLsbD_shiftType t n
  have hlow0 : (t ++ n).getLsbD 0 = n.getLsbD 0 := BitVec.getLsbD_append
  have hlow1 : (t ++ n).getLsbD 1 = n.getLsbD 1 := BitVec.getLsbD_append
  rw [shift, htype 2, htype 1, htype 0, hlow0, hlow1, BitVec.setWidth_append_eq_right]

/-- The rotation of 40 bits has a count of six bits, taken modulo 40 (D46). -/
theorem shift_rotate40 (d : Word40) (m : BitVec 6) : shift d (0b01#2 ++ m) = d.rotateLeft m.toNat := by
  simp only [shift, BitVec.getLsbD_append, BitVec.setWidth_append_eq_right]
  exact BitVec.rotateLeft_mod_eq_rotateLeft

theorem shift_encode (d : Word40) (x : BitVec 3) (f b : Bool) :
    shift d (0b111#3 ++ x ++ BitVec.ofBool f ++ BitVec.ofBool b) = BitVec.ofNat 40 (encodeBit (d.setWidth 32) b f) := by
  simp only [shift, BitVec.getLsbD_append]
  cases f <;> cases b <;> rfl

theorem getLsbD_signMask : ∀ i < 32, (0x80000000#32).getLsbD i = decide (i = 31) := by decide

theorem getLsbD_magnitudeMask : ∀ i < 32, (0x7FFFFFFF#32).getLsbD i = decide (i < 31) := by decide

/-- The two masks of the left arithmetic shift join the sign of w to the 31 low bits of v. -/
theorem signMask_or_magnitudeMask (w v : BitVec 32) :
    (w &&& 0x80000000#32) ||| (v &&& 0x7FFFFFFF#32) = BitVec.ofBool (w.getLsbD 31) ++ (v.setWidth 31 : BitVec 31) := by
  refine BitVec.eq_of_getLsbD_eq fun i hi => ?_
  rw [BitVec.getLsbD_or, BitVec.getLsbD_and, BitVec.getLsbD_and, getLsbD_signMask i hi, getLsbD_magnitudeMask i hi,
    BitVec.getLsbD_append, BitVec.getLsbD_setWidth]
  by_cases hlow : i < 31
  · simp [hlow, show i ≠ 31 by omega]
  · obtain rfl : i = 31 := by omega
    simp

theorem getLsbD_rotateLeft_add_mod (d : Word40) (m : Nat) {k : Nat} (hk : k < 40) :
    (d.rotateLeft m).getLsbD ((k + m) % 40) = d.getLsbD k := by
  rw [BitVec.getLsbD_rotateLeft]
  by_cases hwrap : (k + m) % 40 < m % 40
  · rw [decide_eq_true hwrap, cond_true]
    congr 1
    omega
  · rw [decide_eq_false hwrap, cond_false, decide_eq_true (by omega), Bool.true_and]
    congr 1
    omega

section
variable {w : BitVec 32} {b : Bool} {i : Nat}

theorem encodeBit_right (hi : i < 32) (hb : w.getLsbD i = b) (hbelow : ∀ j, j < i → w.getLsbD j = !b) :
    encodeBit w b true = i := by
  have hfind : (List.range 32).find? (fun i => w.getLsbD i == b) = some i :=
    List.find?_range_eq_some.2 ⟨beq_iff_eq.2 hb, List.mem_range.2 hi, fun j hj => by simp [hbelow j hj]⟩
  simp [encodeBit, hfind]

theorem encodeBit_left (hi : i < 32) (hb : w.getLsbD i = b) (habove : ∀ j, j < 32 → i < j → w.getLsbD j = !b) :
    encodeBit w b false = i := by
  have hfind : (List.range 32).reverse.find? (fun i => w.getLsbD i == b) = some i := by
    refine List.find?_eq_some_iff_getElem.2 ⟨beq_iff_eq.2 hb, 31 - i, by simp; omega, by simp; omega, fun j hj => ?_⟩
    simp [habove (31 - j) (by omega) (by omega)]
  simp [encodeBit, hfind]

theorem encodeBit_absent (h : ∀ j, j < 32 → w.getLsbD j = !b) (f : Bool) : encodeBit w b f = 0 := by
  have hnone : (if f then List.range 32 else (List.range 32).reverse).find? (fun i => w.getLsbD i == b) = none := by
    refine List.find?_eq_none.2 fun j hj => ?_
    have hj : j < 32 := by cases f <;> simpa using hj
    simp [h j hj]
  simp [encodeBit, hnone, Config.encodeNotFound]

end

/-- Settles O11: type by type; where the type's bits alone decide, `shift_type_count` at that type. -/
theorem shiftTypes : Obligations.ShiftTypes := by
  intro d n w
  refine ⟨?leftArithmetic, shift_type_count .., ?rotate40, shift_type_count .., shift_type_count .., shift_type_count ..,
    ?found, ?absent⟩
  case leftArithmetic =>
    rw [← signMask_or_magnitudeMask]
    exact shift_type_count ..
  case rotate40 =>
    intro m k hk
    rw [shift_rotate40]
    exact getLsbD_rotateLeft_add_mod d m.toNat hk
  case found =>
    intro x b i hi hb
    refine ⟨fun habove => ?_, fun hbelow => ?_⟩
    · exact (shift_encode d x false b).trans (by rw [encodeBit_left hi hb habove])
    · exact (shift_encode d x true b).trans (by rw [encodeBit_right hi hb hbelow])
  case absent =>
    intro x f b hnone
    rw [shift_encode, encodeBit_absent hnone]
    rfl

end Sys2Proof.Machine
end

section
/-! SUPPORT. The 32-bit integer primitives (R630 to R635) as plain integers, with their gated events. -/

namespace Sys2Proof.Machine

open Sys2Proof.Claims

theorem toNat_ofInt32 (x : Int) : ((BitVec.ofInt 32 x).toNat : Int) = x % 2 ^ 32 := by
  rw [BitVec.toNat_ofInt, Int.toNat_of_nonneg (Int.emod_nonneg _ (by decide))]
  rfl

theorem iCarry_eq (x y : Int) : iCarry x y = decide (2 ^ 32 ≤ x % 2 ^ 32 + y % 2 ^ 32) := by
  rw [iCarry, ← toNat_ofInt32, ← toNat_ofInt32]
  exact decide_eq_decide.mpr (by omega)

theorem iOverflow_eq (n : Int) : iOverflow n = decide (n < -(2 ^ 31) ∨ 2 ^ 31 - 1 < n) := by
  rw [iOverflow, ← Bool.decide_or]
  rfl

/-- A magnitude overflows at its upper end alone. -/
theorem iOverflow_natAbs (n : Int) : iOverflow n.natAbs = decide ((n.natAbs : Int) > 2147483647) := by
  have hlow : ¬ (n.natAbs : Int) < -2147483648 := by omega
  rw [iOverflow, decide_eq_false hlow, Bool.false_or]

theorem signed_xi (neg : Bool) (a : Word40) :
    signed neg (xi a) = if neg then -(a.extractLsb' 0 32).toInt else (a.extractLsb' 0 32).toInt := by
  rw [signed, xi_eq]

/-- Settles O2: words by `toNat_iword`, carry and overflow by `iCarry_eq` and `iOverflow_eq`, under the gate of `intEv`. -/
theorem integerArithmetic : Obligations.IntegerArithmetic := by
  intro na nb a b s x y big carry sum abs prod
  have hx : signed na (xi a) = x := signed_xi na a
  have hy : signed nb (xi b) = y := signed_xi nb b
  have hbig (n : Int) : iOverflow n = big n := iOverflow_eq n
  have hcarry : iCarry x y = carry := iCarry_eq x y
  refine ⟨⟨?_, ?_⟩, ⟨?_, ?_⟩, ?_, ?_⟩
  · simp only [sum, intVal, iadd32, hx, hy, toNat_iword]
  · simp only [sum, intVal, intEv, iadd32, hx, hy, hbig, hcarry]
  · simp only [abs, intVal, iabsadd32, hx, hy, toNat_iword]
  · simp only [abs, intVal, intEv, iabsadd32, hx, hy, ← iOverflow_natAbs, hbig, hcarry]
  · simp only [prod, intVal, imul32, hy, toNat_iword, ← xi_eq]
  · simp only [prod, intVal, intEv, imul32, hy, hbig, ← xi_eq]

end Sys2Proof.Machine
end

section
/-! SUPPORT. The floating point format (R610, R611, R622): the fields of a word, what it denotes, and its value in units. -/

namespace Sys2Proof.Machine

open Sys2Proof.Claims

/-! ## Fields -/

theorem expOf_lt (v : Word40) : expOf v < 256 := (v.extractLsb' 31 8).isLt
theorem mantOf_lt (v : Word40) : mantOf v < 2 ^ 31 := (v.extractLsb' 0 31).isLt

theorem fpSign_eq (v : Word40) : fpSign v = negOf v := rfl
theorem fpMant_eq (v : Word40) : fpMant v = mantOf v := by
  rw [fpMant, mantOf, BitVec.setWidth_eq_extractLsb' (by decide)]

theorem expOf_eq_div_mod (v : Word40) : expOf v = v.toNat / 2 ^ 31 % 2 ^ 8 := by
  rw [expOf, BitVec.extractLsb'_toNat, Nat.shiftRight_eq_div_pow]

theorem mantOf_eq_mod (v : Word40) : mantOf v = v.toNat % 2 ^ 31 := by
  rw [mantOf, BitVec.extractLsb'_toNat, Nat.shiftRight_zero]

theorem negOf_eq_testBit (v : Word40) : negOf v = v.toNat.testBit 39 := rfl

theorem toNat_negOf (v : Word40) : (negOf v).toNat = v.toNat / 2 ^ 39 := by
  have hlt := v.isLt
  rw [negOf_eq_testBit, Nat.toNat_testBit]
  omega

theorem toNat_eq_fields (v : Word40) : v.toNat = (negOf v).toNat * 2 ^ 39 + expOf v * 2 ^ 31 + mantOf v := by
  rw [toNat_negOf, expOf_eq_div_mod, mantOf_eq_mod]
  omega

/-- A word is its three fields. -/
theorem word_ext {v w : Word40} (hn : negOf v = negOf w) (he : expOf v = expOf w) (hm : mantOf v = mantOf w) : v = w := by
  apply BitVec.eq_of_toNat_eq
  rw [toNat_eq_fields v, toNat_eq_fields w, hn, he, hm]

theorem eq_of_boolToNat_eq : ∀ {s t : Bool}, s.toNat = t.toNat → s = t := by decide

section
variable (s : Bool) {e m : Nat} (he : e < 256) (hm : m < 2 ^ 31)
include he hm

theorem toNat_fpWord : (fpWord s e m).toNat = s.toNat * 2 ^ 39 + e * 2 ^ 31 + m := by
  have hs := s.toNat_lt
  rw [fpWord, BitVec.toNat_ofNat, Nat.mod_eq_of_lt (by omega)]

theorem expOf_fpWord : expOf (fpWord s e m) = e := by
  have hs := s.toNat_lt
  rw [expOf_eq_div_mod, toNat_fpWord s he hm]
  omega

theorem mantOf_fpWord : mantOf (fpWord s e m) = m := by
  rw [mantOf_eq_mod, toNat_fpWord s he hm]
  omega

theorem negOf_fpWord : negOf (fpWord s e m) = s := by
  apply eq_of_boolToNat_eq
  rw [toNat_negOf, toNat_fpWord s he hm]
  omega

end

theorem zeroWord_eq (s : Bool) : zeroWord s = zeroOf s := by cases s <;> rfl
theorem infWord_eq (s : Bool) : infWord s = infOf s := by cases s <;> rfl

theorem eq_infOf {v : Word40} (h : IsInf v) : v = infOf (negOf v) := by
  refine (word_ext ?_ ?_ ?_).trans (infWord_eq _)
  · rw [infWord, negOf_fpWord _ (by decide) (by decide)]
  · rw [infWord, expOf_fpWord _ (by decide) (by decide), h.1]
  · rw [infWord, mantOf_fpWord _ (by decide) (by decide), h.2]

/-- A delivered NaN is one, whatever its sign and mantissa (R622). -/
theorem isNan_nanWord : IsNan nanWord := by
  have hlt : (if Config.nanMantissa = 0 then 0x40000000 else Config.nanMantissa.toNat) < 2 ^ 31 := by
    split
    · decide
    · exact Config.nanMantissa.isLt
  refine ⟨expOf_fpWord _ (by decide) hlt, ?_⟩
  rw [nanWord, mantOf_fpWord _ (by decide) hlt]
  split
  · decide
  · next h => exact fun h0 => h (BitVec.eq_of_toNat_eq h0)

/-! ## What a word denotes (R611) -/

theorem fpDecode_eq (v : Word40) : fpDecode v =
    if expOf v = 255 then (if mantOf v = 0 then .inf (negOf v) else .nan)
    else if expOf v = 0 then
      if mantOf v = 0 then .num (negOf v) 0 0
      else .num (negOf v) (Config.fpDenormInput v).1 (Config.fpDenormInput v).2
    else .num (negOf v) (2 ^ 31 + mantOf v) ((expOf v : Int) - 158) := by
  rw [← fpMant_eq]
  rfl

theorem fpDecode_of_isNan {v : Word40} (h : IsNan v) : fpDecode v = .nan := by
  rw [fpDecode_eq, if_pos h.1, if_neg h.2]

theorem fpDecode_of_isInf {v : Word40} (h : IsInf v) : fpDecode v = .inf (negOf v) := by
  rw [fpDecode_eq, if_pos h.1, if_pos h.2]

/-- Anything else is a number of the word's sign, a free one for a denormal pattern. -/
theorem fpDecode_of_expOf_ne {v : Word40} (h : expOf v ≠ 255) : ∃ m e, fpDecode v = .num (negOf v) m e := by
  rw [fpDecode_eq, if_neg h]
  split
  · split <;> exact ⟨_, _, rfl⟩
  · exact ⟨_, _, rfl⟩

theorem fpDecode_of_zero {v : Word40} (he : expOf v = 0) (hm : mantOf v = 0) : fpDecode v = .num (negOf v) 0 0 := by
  rw [fpDecode_eq, if_neg (by omega), if_pos he, if_pos hm]

theorem fpDecode_of_normal {v : Word40} (h0 : expOf v ≠ 0) (h255 : expOf v ≠ 255) :
    fpDecode v = .num (negOf v) (2 ^ 31 + mantOf v) ((expOf v : Int) - 158) := by
  rw [fpDecode_eq, if_neg h255, if_neg h0]

/-! ## Signed magnitudes -/

theorem scaled_eq_signed (s : Bool) (m : Nat) (e c : Int) : scaled s m e c = signed s (m * 2 ^ (e - c).toNat : Nat) := rfl

theorem signed_mul_signed (s t : Bool) (x y : Int) : signed s x * signed t y = signed (s != t) (x * y) := by
  cases s <;> cases t <;> simp [signed]

theorem signed_mul (s : Bool) (x y : Int) : signed s x * y = signed s (x * y) := by
  cases s <;> simp [signed]

@[simp] theorem signed_eq_zero {s : Bool} {x : Int} : signed s x = 0 ↔ x = 0 := by
  cases s <;> simp [signed]

@[simp] theorem natAbs_signed (s : Bool) (x : Int) : (signed s x).natAbs = x.natAbs := by
  cases s <;> simp [signed]

@[simp] theorem signed_signed (s : Bool) (x : Int) : signed s (signed s x) = x := by
  cases s <;> simp [signed]

/-- Seen from the other sign a value is negated. -/
theorem signed_signed_of_ne {s t : Bool} (h : t ≠ s) (x : Int) : signed s (signed t x) = -x := by
  cases s <;> cases t <;> simp_all [signed]

theorem signed_inj {s : Bool} {x y : Int} : signed s x = signed s y ↔ x = y := by
  cases s <;> simp [signed]

theorem signed_sub (s : Bool) (x y : Int) : signed s (x - y) = signed s x - signed s y := by
  cases s
  · rfl
  · exact neg_sub' x y

theorem signed_neg_iff {s : Bool} {x : Int} (hx : 0 < x) : signed s x < 0 ↔ s = true := by
  cases s <;> simp [signed] <;> omega

/-- An integer is its magnitude under its sign. -/
theorem signed_natAbs (x : Int) : signed (decide (x < 0)) x.natAbs = x := by
  by_cases h : x < 0
  · rw [signed, if_pos (decide_eq_true h)]
    omega
  · rw [signed, if_neg (by simpa using h)]
    omega

/-- A number in a smaller unit. -/
theorem scaled_rebase (s : Bool) (m : Nat) {e c d : Int} (hce : c ≤ e) (hdc : d ≤ c) :
    scaled s m e d = scaled s m e c * 2 ^ (c - d).toNat := by
  have hexp : (e - d).toNat = (e - c).toNat + (c - d).toNat := by omega
  rw [scaled_eq_signed, scaled_eq_signed, signed_mul, hexp, pow_add]
  push_cast
  rw [mul_assoc]

theorem scaled_mul_scaled (s t : Bool) (m n : Nat) {e f c d : Int} (hce : c ≤ e) (hdf : d ≤ f) :
    scaled s m e c * scaled t n f d = scaled (s != t) (m * n) (e + f) (c + d) := by
  have hexp : (e + f - (c + d)).toNat = (e - c).toNat + (f - d).toNat := by omega
  rw [scaled_eq_signed, scaled_eq_signed, scaled_eq_signed, signed_mul_signed, hexp, pow_add]
  push_cast
  rw [mul_mul_mul_comm]

theorem scaled_eq_zero {s : Bool} {m : Nat} {e c : Int} : scaled s m e c = 0 ↔ m = 0 := by
  simp [scaled_eq_signed]

/-! ## Values in units of 2^-157 -/

/-- The magnitude of a zero or normal number. -/
def magnitude (v : Word40) : Nat := if expOf v = 0 then 0 else (2 ^ 31 + mantOf v) * 2 ^ (expOf v - 1)

theorem units_eq_signed (v : Word40) : units v = signed (negOf v) (magnitude v) := by
  rw [units, signed, magnitude]
  push_cast
  rfl

theorem magnitude_of_normal {v : Word40} (h : expOf v ≠ 0) : magnitude v = (2 ^ 31 + mantOf v) * 2 ^ (expOf v - 1) :=
  if_neg h

theorem units_eq_zero_iff (v : Word40) : units v = 0 ↔ expOf v = 0 := by
  rw [units_eq_signed, signed_eq_zero, Int.natCast_eq_zero, magnitude]
  simp

/-- What a zero or normal number denotes, with its value in units (R611). -/
theorem fpDecode_of_finite {v : Word40} (h : Finite v) :
    ∃ m e, fpDecode v = .num (negOf v) m e ∧ -157 ≤ e ∧ units v = scaled (negOf v) m e (-157) := by
  obtain ⟨h255, hdenorm⟩ := h
  by_cases h0 : expOf v = 0
  · refine ⟨0, 0, fpDecode_of_zero h0 (hdenorm h0), by decide, ?_⟩
    rw [(units_eq_zero_iff v).mpr h0, scaled_eq_zero.mpr rfl]
  · refine ⟨_, _, fpDecode_of_normal h0 h255, by omega, ?_⟩
    have hexp : ((expOf v : Int) - 158 - -157).toNat = expOf v - 1 := by omega
    rw [units_eq_signed, magnitude_of_normal h0, scaled_eq_signed, hexp]

/-- A larger exponent makes a larger magnitude, whatever the mantissas. -/
theorem magnitude_lt_of_expOf_lt {v w : Word40} (hv : 1 ≤ expOf v) (h : expOf v < expOf w) : magnitude v < magnitude w := by
  have hm := mantOf_lt v
  rw [magnitude_of_normal (by omega), magnitude_of_normal (by omega)]
  calc (2 ^ 31 + mantOf v) * 2 ^ (expOf v - 1)
      < 2 ^ 31 * 2 * 2 ^ (expOf v - 1) := Nat.mul_lt_mul_of_pos_right (by omega) (by positivity)
    _ = 2 ^ 31 * 2 ^ expOf v := by rw [mul_assoc, ← pow_succ', Nat.sub_add_cancel hv]
    _ ≤ (2 ^ 31 + mantOf w) * 2 ^ (expOf w - 1) :=
      Nat.mul_le_mul (by omega) (pow_le_pow_right₀ one_le_two (by omega))

theorem magnitude_pos {v : Word40} (h : 1 ≤ expOf v) : 0 < magnitude v := by
  rw [magnitude_of_normal (by omega)]
  positivity

/-- Normal numbers of one value are one word. -/
theorem eq_of_units_eq {v w : Word40} (hv : 1 ≤ expOf v) (hw : 1 ≤ expOf w) (h : units v = units w) : v = w := by
  have hmag : magnitude v = magnitude w := by
    have habs := congrArg Int.natAbs h
    simpa [units_eq_signed] using habs
  have hneg : negOf v = negOf w := by
    have hpos : ∀ u, 1 ≤ expOf u → (units u < 0 ↔ negOf u = true) := fun u hu => by
      rw [units_eq_signed]
      exact signed_neg_iff (by exact_mod_cast magnitude_pos hu)
    rw [Bool.eq_iff_iff, ← hpos v hv, ← hpos w hw, h]
  have hexp : expOf v = expOf w := by
    rcases Nat.lt_trichotomy (expOf v) (expOf w) with hlt | heq | hlt
    · exact absurd hmag (magnitude_lt_of_expOf_lt hv hlt).ne
    · exact heq
    · exact absurd hmag (magnitude_lt_of_expOf_lt hw hlt).ne'
  refine word_ext hneg hexp ?_
  rw [magnitude_of_normal (by omega), magnitude_of_normal (by omega), hexp] at hmag
  have hsum := Nat.eq_of_mul_eq_mul_right (by positivity) hmag
  omega

theorem magnitude_lt (v : Word40) : magnitude v < 2 ^ (32 + (expOf v - 1)) := by
  have hm := mantOf_lt v
  rw [magnitude, pow_add]
  split
  · positivity
  · exact Nat.mul_lt_mul_of_pos_right (by omega) (by positivity)

/-- Every number lies between the infinities of `rank`. -/
theorem natAbs_units_lt (v : Word40) : (units v).natAbs < 2 ^ 300 := by
  have he := expOf_lt v
  rw [units_eq_signed, natAbs_signed, Int.natAbs_natCast]
  exact (magnitude_lt v).trans_le (pow_le_pow_right₀ one_le_two (by omega))

end Sys2Proof.Machine
end

section
/-! SUPPORT. Signs, NaN operands and the seed generators (R613 to R618, R580). -/

namespace Sys2Proof.Machine

open Sys2Proof.Claims

/-! ## Sign operations (R613) -/

theorem getLsbD_bit39 : ∀ i < 40, (0x8000000000 : Word40).getLsbD i = decide (i = 39) := by decide

theorem getLsbD_below39 : ∀ i < 40, (0x7FFFFFFFFF : Word40).getLsbD i = !decide (i = 39) := by decide

theorem getLsbD_fneg (v : Word40) {i : Nat} (hi : i < 40) :
    (fneg v).getLsbD i = if i = 39 then !v.getLsbD i else v.getLsbD i := by
  rw [fneg, BitVec.getLsbD_xor, getLsbD_bit39 i hi]
  by_cases h : i = 39 <;> simp [h]

theorem getLsbD_fabs (v : Word40) {i : Nat} (hi : i < 40) :
    (fabs v).getLsbD i = if i = 39 then false else v.getLsbD i := by
  rw [fabs, BitVec.getLsbD_and, getLsbD_below39 i hi]
  by_cases h : i = 39 <;> simp [h]

/-! ## NaN operands (R614 to R618) -/

section
variable {a b : Word40} (h : IsNan a ∨ IsNan b)
include h

/-- A NaN on either side decides each operation before the other side is looked at. -/
theorem fadd_of_isNan : fadd a b = (nanWord, .invalid) := by
  rcases h with h | h
  · rw [fadd, fpDecode_of_isNan h]
  · rw [fadd, fpDecode_of_isNan h]
    cases fpDecode a <;> rfl

theorem fmul_of_isNan : fmul a b = (nanWord, .invalid) := by
  rcases h with h | h
  · rw [fmul, fpDecode_of_isNan h]
  · rw [fmul, fpDecode_of_isNan h]
    cases fpDecode a <;> rfl

theorem fcmp_of_isNan : fcmp a b = .unordered := by
  rcases h with h | h
  · rw [fcmp, fpDecode_of_isNan h]
  · rw [fcmp, fpDecode_of_isNan h]
    cases fpDecode a <;> rfl

theorem fmin_of_isNan : fmin a b = (nanWord, .invalid) := by rw [fmin, fcmp_of_isNan h]

theorem fmax_of_isNan : fmax a b = (nanWord, .invalid) := by rw [fmax, fcmp_of_isNan h]

end

/-! ## Seeds (R580) -/

section
variable (root : Bool) (seed : Word40 → Word40) (fl : Word40 → BitVec 5) {v : Word40}

theorem seedVal_of_zero (he : expOf v = 0) (hm : mantOf v = 0) : (seedVal root seed fl v).2.dz = true := by
  simp [seedVal, fpDecode_of_zero he hm]

theorem seedVal_of_isNan (h : IsNan v) : (seedVal root seed fl v).2.inop = true ∧ (seedVal root seed fl v).1 = nanWord := by
  simp [seedVal, fpDecode_of_isNan h]

/-- The square root's seed of a negative normal number. -/
theorem seedVal_of_negative (h0 : expOf v ≠ 0) (h255 : expOf v ≠ 255) (hneg : negOf v = true) :
    (seedVal true seed fl v).2.inop = true ∧ (seedVal true seed fl v).1 = nanWord := by
  simp [seedVal, fpDecode_of_normal h0 h255, hneg]

end

theorem fpDecode_nanWord : fpDecode nanWord = .nan := fpDecode_of_isNan isNan_nanWord

/-- Settles O15: bits by `getLsbD_fneg` and `getLsbD_fabs`, NaN operands operation by operation, seeds by `seedVal`. -/
theorem signsNansAndSeeds : Obligations.SignsNansAndSeeds := by
  refine ⟨fun v i hi => ⟨getLsbD_fneg v hi, getLsbD_fabs v hi⟩, fun a b h => ⟨?nans, fcmp_of_isNan h⟩,
    fun v => ⟨fun he hm => ?zero, fun he hm => ?nan, fun h0 h255 hneg => ?negative⟩⟩
  case nans =>
    rw [fadd_of_isNan h, fmul_of_isNan h, fmin_of_isNan h, fmax_of_isNan h]
    simpa using isNan_nanWord
  case zero =>
    rw [fpMant_eq] at hm
    exact ⟨seedVal_of_zero _ _ _ he hm, seedVal_of_zero _ _ _ he hm⟩
  case nan =>
    rw [fpMant_eq] at hm
    obtain ⟨hinv, hinvWord⟩ := seedVal_of_isNan false Config.invSeed Config.invSeedFlags ⟨he, hm⟩
    obtain ⟨hroot, hrootWord⟩ := seedVal_of_isNan true Config.invSqrtSeed Config.invSqrtSeedFlags ⟨he, hm⟩
    rw [elInvSeed, elInvSqrtSeed, hinvWord, hrootWord]
    exact ⟨hinv, hroot, fpDecode_nanWord, fpDecode_nanWord⟩
  case negative =>
    obtain ⟨hinop, hword⟩ := seedVal_of_negative Config.invSqrtSeed Config.invSqrtSeedFlags (v := v) h0.ne' h255.ne hneg
    rw [elInvSqrtSeed, hword]
    exact ⟨hinop, fpDecode_nanWord⟩

end Sys2Proof.Machine
end

section
/-! SUPPORT. Rounding to nearest even (R612): what `fround` delivers for an exact magnitude, its word in units, and that no normal
number lies nearer. -/

namespace Sys2Proof.Machine

open Sys2Proof.Claims

/-! ## Quotients rounded to nearest even -/

/-- q is n / p rounded to the nearest integer, the even one of two. -/
structure RoundsTo (n p q : Nat) : Prop where
  upper : 2 * (q * p) ≤ 2 * n + p
  lower : 2 * n ≤ 2 * (q * p) + p
  tie : 2 * (q * p) = 2 * n + p ∨ 2 * n = 2 * (q * p) + p → q % 2 = 0

theorem roundsTo_exact (q : Nat) {p : Nat} (hp : 0 < p) : RoundsTo (q * p) p q :=
  ⟨by omega, by omega, by omega⟩

theorem RoundsTo.scale {n p q : Nat} (h : RoundsTo n p q) {c : Nat} (hc : 0 < c) : RoundsTo (n * c) (p * c) q := by
  have hup : 2 * (q * (p * c)) = 2 * (q * p) * c := by ring
  have hdown : 2 * (n * c) + p * c = (2 * n + p) * c := by ring
  have hdown' : 2 * (q * p) * c + p * c = (2 * (q * p) + p) * c := by ring
  have hn : 2 * (n * c) = 2 * n * c := by ring
  refine ⟨?_, ?_, fun ht => h.tie (ht.imp (fun e => ?_) fun e => ?_)⟩
  · rw [hup, hdown]
    exact Nat.mul_le_mul_right c h.upper
  · rw [hn, hup, hdown']
    exact Nat.mul_le_mul_right c h.lower
  · rw [hup, hdown] at e
    exact Nat.eq_of_mul_eq_mul_right hc e
  · rw [hn, hup, hdown'] at e
    exact Nat.eq_of_mul_eq_mul_right hc e

theorem roundShift_roundsTo (m k : Nat) : RoundsTo m (2 ^ k) (roundShift m k) := by
  have hp : 0 < 2 ^ k := by positivity
  have hdiv : m / 2 ^ k * 2 ^ k + m % 2 ^ k = m := Nat.div_add_mod' ..
  have hlt : m % 2 ^ k < 2 ^ k := Nat.mod_lt _ hp
  unfold roundShift
  dsimp only
  generalize m / 2 ^ k = q at *
  generalize m % 2 ^ k = r at *
  generalize 2 ^ k = p at *
  have hsucc : (q + 1) * p = q * p + p := Nat.succ_mul ..
  split
  · next hup =>
    have hup : 2 * r > p ∨ 2 * r = p ∧ q % 2 = 1 := by simpa [tieUp, Config.roundTies] using hup
    exact ⟨by omega, by omega, by omega⟩
  · next hdown =>
    have hdown : ¬ (2 * r > p ∨ 2 * r = p ∧ q % 2 = 1) := by simpa [tieUp, Config.roundTies] using hdown
    exact ⟨by omega, by omega, by omega⟩

/-- Rounding is exact where nothing remains. -/
theorem roundShift_mul_eq_iff (m k : Nat) : roundShift m k * 2 ^ k = m ↔ m % 2 ^ k = 0 := by
  refine ⟨fun h => ?_, fun h => ?_⟩
  · rw [← h]
    exact Nat.mul_mod_left ..
  · have hp : 0 < 2 ^ k := by positivity
    obtain ⟨c, rfl⟩ := Nat.dvd_of_mod_eq_zero h
    simp [roundShift, hp.ne, mul_comm]

section
variable {n p q : Nat} (h : RoundsTo n p q)
include h

/-- An integer c stays on its side of the quotient. -/
theorem RoundsTo.le_of_mul_le {c : Nat} (hp : 0 < p) (hc : c * p ≤ n) : c ≤ q := by
  by_contra hlt
  have hle : (q + 1) * p ≤ c * p := Nat.mul_le_mul_right p (by omega)
  have hlow := h.lower
  rw [Nat.succ_mul] at hle
  omega

theorem RoundsTo.le_of_lt_mul {c : Nat} (hc : n < c * p) : q ≤ c := by
  by_contra hlt
  have hle : (c + 1) * p ≤ q * p := Nat.mul_le_mul_right p (by omega)
  have hup := h.upper
  rw [Nat.succ_mul] at hle
  omega

/-- A quotient rounds up to an even c from half a step below c on. -/
theorem RoundsTo.eq_iff_of_lt {c : Nat} (heven : c % 2 = 0) (hc : n < c * p) : q = c ↔ 2 * (c * p) ≤ 2 * n + p := by
  refine ⟨fun hq => hq ▸ h.upper, fun hhalf => ?_⟩
  by_contra hne
  have hq : q ≤ c := h.le_of_lt_mul hc
  have hle : (q + 1) * p ≤ c * p := Nat.mul_le_mul_right p (by omega)
  have hlow := h.lower
  have htie := h.tie
  rw [Nat.succ_mul] at hle
  have hmid : 2 * n = 2 * (q * p) + p := by omega
  have hnext : c * p = (q + 1) * p := by rw [Nat.succ_mul]; omega
  have hsucc : c = q + 1 := Nat.eq_of_mul_eq_mul_right (by omega) hnext
  have := htie (.inr hmid)
  omega

/-- No integer is nearer to the quotient; another as near only to an even one. -/
theorem RoundsTo.nearest (hp : 0 < p) (c : Int) :
    ((n : Int) - q * p).natAbs ≤ ((n : Int) - c * p).natAbs ∧
      (((n : Int) - q * p).natAbs = ((n : Int) - c * p).natAbs → c = q ∨ q % 2 = 0) := by
  obtain ⟨hup, hlow, htie⟩ := h
  zify at hup hlow htie hp
  rcases lt_trichotomy c q with hlt | rfl | hlt
  · have hstep : (c + 1) * p ≤ (q : Int) * p := Int.mul_le_mul_of_nonneg_right (by omega) hp.le
    rw [add_mul, one_mul] at hstep
    exact ⟨by omega, fun he => by omega⟩
  · simp
  · have hstep : ((q : Int) + 1) * p ≤ c * p := Int.mul_le_mul_of_nonneg_right (by omega) hp.le
    rw [add_mul, one_mul] at hstep
    exact ⟨by omega, fun he => by omega⟩

/-- What lies below an integer g at or below the quotient is farther than the rounded one. -/
theorem RoundsTo.nearer_than_below (hp : 0 < p) {g : Nat} (hg : g * p ≤ n) {y : Int} (hy : y < g * p) :
    ((n : Int) - q * p).natAbs < ((n : Int) - y).natAbs := by
  have hnear := (h.nearest hp g).1
  zify at hg
  omega

end

/-! ## The mantissa of a magnitude -/

/-- The mantissa of a magnitude m, hidden bit included, before a carry to 2^32 is taken into the exponent: m * 2^31 / 2^(log2 m)
rounded. -/
def rounded (m : Nat) : Nat := if m.log2 ≤ 31 then m * 2 ^ (31 - m.log2) else roundShift m (m.log2 - 31)

/-- The carry of the rounding into the exponent. -/
def roundCarry (m : Nat) : Nat := if rounded m = 2 ^ 32 then 1 else 0

/-- The exponent of m * 2^e after rounding. -/
def roundedExp (m : Nat) (e : Int) : Int := e + m.log2 + roundCarry m

theorem rounded_mul_of_short {m : Nat} (h : m.log2 ≤ 31) : rounded m * 2 ^ m.log2 = m * 2 ^ 31 := by
  rw [rounded, if_pos h, mul_assoc, ← pow_add, Nat.sub_add_cancel h]

theorem rounded_mul_eq_iff {m : Nat} (h : 31 < m.log2) : rounded m * 2 ^ m.log2 = m * 2 ^ 31 ↔ m % 2 ^ (m.log2 - 31) = 0 := by
  have hpow : 2 ^ m.log2 = 2 ^ (m.log2 - 31) * 2 ^ 31 := by rw [← pow_add, Nat.sub_add_cancel h.le]
  rw [← roundShift_mul_eq_iff, rounded, if_neg h.not_ge, hpow, ← mul_assoc]
  exact Nat.mul_left_inj (by positivity)

theorem rounded_roundsTo (m : Nat) : RoundsTo (m * 2 ^ 31) (2 ^ m.log2) (rounded m) := by
  by_cases h : m.log2 ≤ 31
  · rw [← rounded_mul_of_short h]
    exact roundsTo_exact _ (by positivity)
  · have hpow : 2 ^ m.log2 = 2 ^ (m.log2 - 31) * 2 ^ 31 := by rw [← pow_add, Nat.sub_add_cancel (by omega)]
    rw [rounded, if_neg h, hpow]
    exact (roundShift_roundsTo m _).scale (by positivity)

theorem mantissa_lt (m : Nat) : m * 2 ^ 31 < 2 ^ 32 * 2 ^ m.log2 := by
  have hlt : m < 2 ^ m.log2 * 2 := Nat.lt_log2_self
  calc m * 2 ^ 31 < 2 ^ m.log2 * 2 * 2 ^ 31 := Nat.mul_lt_mul_of_pos_right hlt (by positivity)
    _ = 2 ^ 32 * 2 ^ m.log2 := by ring

theorem rounded_le (m : Nat) : rounded m ≤ 2 ^ 32 := (rounded_roundsTo m).le_of_lt_mul (mantissa_lt m)

theorem roundCarry_le_one (m : Nat) : roundCarry m ≤ 1 := by
  rw [roundCarry]
  split <;> decide

/-- The rounding carries from the middle between the greatest mantissa and 2^32 on. -/
theorem roundCarry_eq_one_iff (m : Nat) : roundCarry m = 1 ↔ (2 ^ 33 - 1) * 2 ^ m.log2 ≤ m * 2 ^ 32 := by
  have hcarry := (rounded_roundsTo m).eq_iff_of_lt (c := 2 ^ 32) (by decide) (mantissa_lt m)
  have hone : roundCarry m = 1 ↔ rounded m = 2 ^ 32 := by
    rw [roundCarry]
    split <;> simp_all
  rw [hone, hcarry]
  omega

section
variable {m : Nat} (hm : 0 < m)
include hm

theorem le_mantissa : 2 ^ 31 * 2 ^ m.log2 ≤ m * 2 ^ 31 := by
  rw [mul_comm]
  exact Nat.mul_le_mul_right _ (Nat.log2_self_le hm.ne')

theorem le_rounded : 2 ^ 31 ≤ rounded m := (rounded_roundsTo m).le_of_mul_le (by positivity) (le_mantissa hm)

/-- Where the rounded exponent passes a bound, in units of 2^b against 2^a: the middle between two mantissas decides. -/
theorem middle_le_iff (a b : Nat) : (2 ^ 33 - 1) * 2 ^ b ≤ m * 2 ^ a ↔ b + 33 ≤ a + m.log2 + roundCarry m := by
  have hle := roundCarry_le_one m
  have hlow : 2 ^ m.log2 ≤ m := Nat.log2_self_le hm.ne'
  have hhigh : m < 2 ^ (m.log2 + 1) := Nat.lt_log2_self
  rcases Nat.lt_trichotomy (a + m.log2 + 1) (b + 33) with hlt | heq | hlt
  · have hsmall : m * 2 ^ a < (2 ^ 33 - 1) * 2 ^ b :=
      calc m * 2 ^ a < 2 ^ (m.log2 + 1) * 2 ^ a := Nat.mul_lt_mul_of_pos_right hhigh (by positivity)
        _ = 2 ^ (m.log2 + 1 + a) := (pow_add ..).symm
        _ ≤ 2 ^ (32 + b) := pow_le_pow_right₀ one_le_two (by omega)
        _ ≤ (2 ^ 33 - 1) * 2 ^ b := by rw [pow_add]; exact Nat.mul_le_mul_right _ (by decide)
    exact iff_of_false hsmall.not_ge (by omega)
  · have hb : 2 ^ b * 2 ^ 32 = 2 ^ m.log2 * 2 ^ a := by
      rw [← pow_add, ← pow_add]
      congr 1
      omega
    have hscale : (2 ^ 33 - 1) * 2 ^ b ≤ m * 2 ^ a ↔ (2 ^ 33 - 1) * 2 ^ m.log2 ≤ m * 2 ^ 32 := by
      rw [← Nat.mul_le_mul_right_iff (k := 2 ^ 32) (by positivity), mul_assoc, hb, ← mul_assoc, mul_right_comm m]
      exact Nat.mul_le_mul_right_iff (by positivity)
    rw [hscale, ← roundCarry_eq_one_iff]
    omega
  · have hlarge : (2 ^ 33 - 1) * 2 ^ b ≤ m * 2 ^ a :=
      calc (2 ^ 33 - 1) * 2 ^ b ≤ 2 ^ 33 * 2 ^ b := Nat.mul_le_mul_right _ (by decide)
        _ = 2 ^ (33 + b) := (pow_add ..).symm
        _ ≤ 2 ^ (m.log2 + a) := pow_le_pow_right₀ one_le_two (by omega)
        _ = 2 ^ m.log2 * 2 ^ a := pow_add ..
        _ ≤ m * 2 ^ a := Nat.mul_le_mul_right _ hlow
    exact iff_of_true hlarge (by omega)

end

/-! ## `fround` case by case -/

/-- The mantissa field of a rounded magnitude. -/
def mantField (m : Nat) : Nat := if rounded m = 2 ^ 32 then 0 else rounded m - 2 ^ 31

theorem mantField_lt (m : Nat) : mantField m < 2 ^ 31 := by
  have hle := rounded_le m
  rw [mantField]
  split <;> omega

/-- A tie has gone to the even mantissa. -/
theorem mantField_even {m : Nat} (heven : rounded m % 2 = 0) : mantField m % 2 = 0 := by
  rw [mantField]
  split <;> omega

/-- The rounded mantissa is the field with its hidden bit, doubled by a carry. -/
theorem mantField_carried {m : Nat} (hm : 0 < m) : (2 ^ 31 + mantField m) * 2 ^ roundCarry m = rounded m := by
  have hq := le_rounded hm
  rw [mantField, roundCarry]
  split <;> omega

theorem fround_eq (s : Bool) (m : Nat) (e : Int) : fround s m e =
    if 127 < roundedExp m e then (Config.fpOverflowResult s, { ovf := true, inex := true })
    else if roundedExp m e < -126 then (Config.fpUnderflowResult s, { udf := true, inex := true })
    else (fpWord s (roundedExp m e + 127).toNat (mantField m), { inex := decide (rounded m * 2 ^ m.log2 ≠ m * 2 ^ 31) }) := by
  have hinex : (decide (31 < m.log2) && m % 2 ^ (m.log2 - 31) != 0) = decide (rounded m * 2 ^ m.log2 ≠ m * 2 ^ 31) := by
    by_cases h : 31 < m.log2
    · rw [Bool.eq_iff_iff]
      simp [h, ← rounded_mul_eq_iff h]
    · simp [h, rounded_mul_of_short (Nat.not_lt.mp h)]
  have hexp : roundedExp m e = e + m.log2 + (if rounded m = 2 ^ 32 then 1 else 0) := by
    rw [roundedExp, roundCarry]
    split <;> rfl
  rw [← hinex, hexp]
  rfl

section
variable (s : Bool) {m : Nat} {e : Int} (hm : 0 < m) (hlo : -126 ≤ roundedExp m e) (hhi : roundedExp m e ≤ 127)

include hlo hhi in
/-- The word of a number in range. -/
theorem fround_of_inRange : fround s m e =
    (fpWord s (roundedExp m e + 127).toNat (mantField m), { inex := decide (rounded m * 2 ^ m.log2 ≠ m * 2 ^ 31) }) := by
  rw [fround_eq, if_neg (by omega), if_neg (by omega)]

include hlo hhi in
theorem fround_fields : expOf (fround s m e).1 = (roundedExp m e + 127).toNat ∧ mantOf (fround s m e).1 = mantField m ∧
    negOf (fround s m e).1 = s := by
  have he : (roundedExp m e + 127).toNat < 256 := by omega
  have hfield := mantField_lt m
  rw [fround_of_inRange s hlo hhi]
  exact ⟨expOf_fpWord s he hfield, mantOf_fpWord s he hfield, negOf_fpWord s he hfield⟩

include hm hlo hhi in
/-- The value delivered: the rounded mantissa at the exponent before a carry, which may be half a unit. -/
theorem two_mul_units_fround :
    2 * signed s (units (fround s m e).1) = (rounded m * 2 ^ (e + m.log2 + 127).toNat : Nat) := by
  obtain ⟨hexp, hmant, hneg⟩ := fround_fields s hlo hhi
  have hcarry := roundCarry_le_one m
  have hbase : (roundedExp m e + 127).toNat - 1 + 1 = roundCarry m + (e + m.log2 + 127).toNat := by
    rw [roundedExp] at hlo ⊢
    omega
  have hmag : 2 * magnitude (fround s m e).1 = rounded m * 2 ^ (e + m.log2 + 127).toNat := by
    rw [magnitude_of_normal (by omega), hexp, hmant, mul_comm, mul_assoc, ← pow_succ, hbase, pow_add, ← mul_assoc,
      mantField_carried hm]
  rw [units_eq_signed, hneg, signed_signed]
  exact_mod_cast hmag

end

end Sys2Proof.Machine
end

section
/-! SUPPORT. What R612 delivers, in units: `fround` is the delivery of the exact magnitude it is given. -/

namespace Sys2Proof.Machine

open Sys2Proof.Claims

/-- How far the value of w is from x units of 2^-(157+k). -/
def distance (k : Nat) (x : Int) (w : Word40) : Nat := (x - units w * 2 ^ k).natAbs

/-- Seen from the sign s, a normal number is a multiple of the step at an exponent, or lies below its least mantissa. -/
theorem normal_multiple_or_below (s : Bool) {w : Word40} (hw : 1 ≤ expOf w) (b : Nat) :
    (∃ c : Int, 2 * signed s (units w) = c * 2 ^ b) ∨ 2 * signed s (units w) < 2 ^ 31 * 2 ^ b := by
  have hmag : 2 * magnitude w = (2 ^ 31 + mantOf w) * 2 ^ expOf w := by
    rw [magnitude_of_normal (by omega), mul_comm, mul_assoc, ← pow_succ, Nat.sub_add_cancel hw]
  have hpow : (0 : Int) < 2 ^ 31 * 2 ^ b := by positivity
  rw [units_eq_signed]
  by_cases hs : negOf w = s
  · rw [hs, signed_signed]
    rcases Nat.lt_or_ge (expOf w) b with hlt | hge
    · refine .inr ?_
      have hm := mantOf_lt w
      have hbelow : 2 * magnitude w < 2 ^ 31 * 2 ^ b :=
        calc 2 * magnitude w = (2 ^ 31 + mantOf w) * 2 ^ expOf w := hmag
          _ < 2 ^ 31 * 2 * 2 ^ expOf w := Nat.mul_lt_mul_of_pos_right (by omega) (by positivity)
          _ = 2 ^ 31 * 2 ^ (expOf w + 1) := by ring
          _ ≤ 2 ^ 31 * 2 ^ b := Nat.mul_le_mul_left _ (pow_le_pow_right₀ one_le_two hlt)
      exact_mod_cast hbelow
    · refine .inl ⟨((2 ^ 31 + mantOf w) * 2 ^ (expOf w - b) : Nat), ?_⟩
      have hsplit : 2 * magnitude w = (2 ^ 31 + mantOf w) * 2 ^ (expOf w - b) * 2 ^ b := by
        rw [hmag, mul_assoc, ← pow_add, Nat.sub_add_cancel hge]
      exact_mod_cast hsplit
  · refine .inr (lt_of_le_of_lt ?_ hpow)
    rw [signed_signed_of_ne hs]
    omega

theorem natAbs_mul_natCast (n : Int) (c : Nat) : (n * c).natAbs = n.natAbs * c := by
  rw [Int.natAbs_mul, Int.natAbs_natCast]

section
variable (s : Bool) {m : Nat} {e : Int} {k b : Nat} (hm : 0 < m) (he : -(157 + k : Int) ≤ e)
  (hb : (b : Int) = e + m.log2 + 127)
include he hb

/-- Distances from m * 2^e in steps of the rounding, b the biased exponent before a carry. -/
theorem distance_mul (w : Word40) :
    distance k (scaled s m e (-(157 + k))) w * (2 * 2 ^ m.log2) =
      (((m * 2 ^ 31 * 2 ^ b : Nat) : Int) - 2 * signed s (units w) * 2 ^ m.log2).natAbs * 2 ^ k := by
  have hx : m * 2 ^ (e - -(157 + k)).toNat * (2 * 2 ^ m.log2) = m * 2 ^ 31 * 2 ^ b * 2 ^ k := by
    rw [mul_assoc, mul_assoc m, mul_assoc m, ← pow_succ', ← pow_add, ← pow_add, ← pow_add]
    congr 2
    omega
  have hsides : signed s (scaled s m e (-(157 + k)) - units w * 2 ^ k) * (2 * 2 ^ m.log2 : Nat) =
      (((m * 2 ^ 31 * 2 ^ b : Nat) : Int) - 2 * signed s (units w) * 2 ^ m.log2) * (2 ^ k : Nat) := by
    rw [signed_sub, scaled_eq_signed, signed_signed, ← signed_mul, sub_mul, ← Nat.cast_mul, hx, sub_mul]
    push_cast
    ring
  rw [distance, ← natAbs_signed s, ← natAbs_mul_natCast, hsides, natAbs_mul_natCast]

variable (hlo : -126 ≤ roundedExp m e) (hhi : roundedExp m e ≤ 127)
include hm hlo hhi

/-- The distance of the word delivered is what the rounding changed. -/
theorem distance_fround_mul : distance k (scaled s m e (-(157 + k))) (fround s m e).1 * (2 * 2 ^ m.log2) =
    (((m * 2 ^ 31 * 2 ^ b : Nat) : Int) - rounded m * (2 ^ m.log2 * 2 ^ b : Nat)).natAbs * 2 ^ k := by
  have hbase : (e + m.log2 + 127).toNat = b := by omega
  rw [distance_mul s he hb, two_mul_units_fround s hm hlo hhi, hbase]
  push_cast
  congr 3
  ring

/-- The word delivered is exact where the rounding is. -/
theorem distance_fround_eq_zero_iff :
    distance k (scaled s m e (-(157 + k))) (fround s m e).1 = 0 ↔ rounded m * 2 ^ m.log2 = m * 2 ^ 31 := by
  have hpos : 0 < 2 * 2 ^ m.log2 := by positivity
  have hposk : 0 < 2 ^ k := by positivity
  have hposb : 0 < 2 ^ b := by positivity
  rw [← Nat.mul_left_inj hpos.ne', distance_fround_mul s hm he hb hlo hhi, zero_mul, Nat.mul_eq_zero,
    or_iff_left hposk.ne', Int.natAbs_eq_zero, sub_eq_zero, eq_comm, ← Nat.mul_left_inj hposb.ne', mul_assoc (rounded m)]
  norm_cast

/-- No normal number is nearer than the word delivered; another as near only when that has an even mantissa. -/
theorem fround_nearest {w : Word40} (hw : 1 ≤ expOf w) :
    distance k (scaled s m e (-(157 + k))) (fround s m e).1 ≤ distance k (scaled s m e (-(157 + k))) w ∧
      (distance k (scaled s m e (-(157 + k))) (fround s m e).1 = distance k (scaled s m e (-(157 + k))) w →
        w = (fround s m e).1 ∨ mantOf (fround s m e).1 % 2 = 0) := by
  have hpos : 0 < 2 * 2 ^ m.log2 := by positivity
  have hposk : 0 < 2 ^ k := by positivity
  have hp : 0 < 2 ^ m.log2 * 2 ^ b := by positivity
  have hround : RoundsTo (m * 2 ^ 31 * 2 ^ b) (2 ^ m.log2 * 2 ^ b) (rounded m) := (rounded_roundsTo m).scale (by positivity)
  obtain ⟨hexp, hmant, -⟩ := fround_fields s hlo hhi
  rw [← Nat.mul_le_mul_right_iff hpos, ← Nat.mul_left_inj hpos.ne', distance_fround_mul s hm he hb hlo hhi,
    distance_mul s he hb, Nat.mul_le_mul_right_iff hposk, Nat.mul_left_inj hposk.ne', hmant]
  rcases normal_multiple_or_below s hw b with ⟨c, hc⟩ | hbelow
  · have hstep : 2 * signed s (units w) * 2 ^ m.log2 = c * (2 ^ m.log2 * 2 ^ b : Nat) := by
      rw [hc]
      push_cast
      ring
    obtain ⟨hle, htie⟩ := hround.nearest hp c
    rw [hstep]
    refine ⟨hle, fun heq => (htie heq).imp (fun hsame => ?_) mantField_even⟩
    refine eq_of_units_eq hw (by omega) ?_
    have hbase : (e + m.log2 + 127).toNat = b := by omega
    have htwice : 2 * signed s (units w) = 2 * signed s (units (fround s m e).1) := by
      rw [two_mul_units_fround s hm hlo hhi, hbase, hc, hsame, Nat.cast_mul, Nat.cast_pow, Nat.cast_ofNat]
    exact signed_inj.mp (mul_left_cancel₀ two_ne_zero htwice)
  · have hlow : 2 ^ 31 * (2 ^ m.log2 * 2 ^ b) ≤ m * 2 ^ 31 * 2 ^ b := by
      rw [← mul_assoc]
      exact Nat.mul_le_mul_right _ (le_mantissa hm)
    have hfar : 2 * signed s (units w) * 2 ^ m.log2 < (2 ^ 31 : Nat) * (2 ^ m.log2 * 2 ^ b : Nat) := by
      have hmul := Int.mul_lt_mul_of_pos_right hbelow (c := 2 ^ m.log2) (by positivity)
      push_cast
      linarith
    have hlt := hround.nearer_than_below hp hlow hfar
    exact ⟨hlt.le, fun heq => absurd heq hlt.ne⟩

end

/-- R612 for an exact magnitude that is not 0, of sign s, in units of 2^-(157+k). -/
theorem fround_delivered (s : Bool) {m : Nat} {e : Int} {k : Nat} (hm : 0 < m) (he : -(157 + k : Int) ≤ e) :
    Delivered k (scaled s m e (-(157 + k))) (fround s m e) := by
  have hmag : (scaled s m e (-(157 + k))).natAbs = m * 2 ^ (e - -(157 + k)).toNat := by
    rw [scaled_eq_signed, natAbs_signed, Int.natAbs_natCast]
  have hneg : decide (scaled s m e (-(157 + k)) < 0) = s := by
    rw [scaled_eq_signed, Bool.eq_iff_iff, decide_eq_true_iff]
    exact signed_neg_iff (by positivity)
  have hover : (2 ^ 33 - 1) * 2 ^ (252 + k) ≤ (scaled s m e (-(157 + k))).natAbs ↔ 127 < roundedExp m e := by
    rw [hmag, middle_le_iff hm, roundedExp]
    omega
  have hunder : 4 * (scaled s m e (-(157 + k))).natAbs < (2 ^ 33 - 1) * 2 ^ k ↔ roundedExp m e < -126 := by
    have hfour : 4 * (m * 2 ^ (e - -(157 + k)).toNat) = m * 2 ^ ((e - -(157 + k)).toNat + 2) := by ring
    rw [hmag, hfour, ← not_le, middle_le_iff hm, roundedExp]
    omega
  simp only [Delivered, hneg, hover, hunder]
  split
  · next h => rw [fround_eq, if_pos h]
  · next hhi =>
    split
    · next h => rw [fround_eq, if_neg hhi, if_pos h]
    · next hlo =>
      rw [not_lt] at hlo hhi
      obtain ⟨hexp, -, hsign⟩ := fround_fields s hlo hhi
      have hcarry := roundCarry_le_one m
      obtain ⟨b, hb⟩ : ∃ b : Nat, (b : Int) = e + m.log2 + 127 := by
        refine ⟨(e + m.log2 + 127).toNat, Int.toNat_of_nonneg ?_⟩
        rw [roundedExp] at hlo
        omega
      have hexact := distance_fround_eq_zero_iff s hm he hb hlo hhi
      refine ⟨by omega, by omega, hsign, ?_, fun w hw _ => fround_nearest s hm he hb hlo hhi hw⟩
      have hev : (fround s m e).2 = { inex := decide (rounded m * 2 ^ m.log2 ≠ m * 2 ^ 31) } := by
        rw [fround_of_inRange s hlo hhi]
      rw [hev, decide_eq_decide.mpr (not_congr hexact.symm)]
      rfl

end Sys2Proof.Machine
end

section
/-! SUPPORT. Sums and products of floating point words (R614, R616): numbers through `fround_delivered`, zeros, infinities. -/

namespace Sys2Proof.Machine

open Sys2Proof.Claims

/-- A word that is no NaN is an infinity or a number of its sign. -/
theorem not_isNan_cases {v : Word40} (h : ¬ IsNan v) : IsInf v ∨ ∃ m e, fpDecode v = .num (negOf v) m e := by
  by_cases he : expOf v = 255
  · exact .inl ⟨he, by_contra fun hm => h ⟨he, hm⟩⟩
  · exact .inr (fpDecode_of_expOf_ne he)

/-- Two infinities of one sign are one word. -/
theorem eq_of_isInf {a b : Word40} (ha : IsInf a) (hb : IsInf b) (h : negOf a = negOf b) : a = b := by
  rw [eq_infOf ha, eq_infOf hb, h]

theorem infWord_negOf {v : Word40} (h : IsInf v) : infWord (negOf v) = v := by
  rw [infWord_eq, ← eq_infOf h]

/-! ## Sums -/

/-- The exact sum of two numbers, in units of the smaller exponent. -/
def alignedSum (s : Bool) (m : Nat) (e : Int) (t : Bool) (n : Nat) (f : Int) : Int :=
  scaled s m e (min e f) + scaled t n f (min e f)

theorem scaled_add_scaled (s t : Bool) (m n : Nat) {e f c : Int} (he : c ≤ e) (hf : c ≤ f) :
    scaled s m e c + scaled t n f c = alignedSum s m e t n f * 2 ^ (min e f - c).toNat := by
  have hmin : c ≤ min e f := le_min he hf
  rw [alignedSum, scaled_rebase s m (min_le_left e f) hmin, scaled_rebase t n (min_le_right e f) hmin, ← add_mul]

theorem scaled_add_scaled_eq_zero_iff (s t : Bool) (m n : Nat) {e f c : Int} (he : c ≤ e) (hf : c ≤ f) :
    scaled s m e c + scaled t n f c = 0 ↔ alignedSum s m e t n f = 0 := by
  rw [scaled_add_scaled s t m n he hf]
  exact mul_eq_zero_iff_right (by positivity)

/-- The sum of two numbers as R614 orders it: two zeros, an exact sum of 0, any other. -/
theorem fadd_of_num {a b : Word40} {s t : Bool} {m n : Nat} {e f : Int} (ha : fpDecode a = .num s m e)
    (hb : fpDecode b = .num t n f) :
    let x := alignedSum s m e t n f
    fadd a b = if m = 0 ∧ n = 0 then (zeroOf (s && t), .none)
      else if x = 0 then (zeroOf false, .none) else fround (x < 0) x.natAbs (min e f) := by
  rw [fadd, ha, hb]
  by_cases hz : m = 0 ∧ n = 0
  · simp [hz, zeroWord_eq]
  · by_cases hx : scaled s m e (min e f) + scaled t n f (min e f) = 0
    · simp [hz, alignedSum, hx, zeroWord_eq]
    · have hz' : ¬ (decide (m = 0) && decide (n = 0)) = true := by simpa using hz
      exact ((if_neg hz').trans (if_neg hx)).trans ((if_neg hz).trans (if_neg hx)).symm

section
variable {a b : Word40}

/-- A sum that is not 0 is rounded at the smaller exponent. -/
theorem fadd_of_sum_ne_zero (ha : Finite a) (hb : Finite b) (h : units a + units b ≠ 0) :
    Delivered 0 (units a + units b) (fadd a b) := by
  obtain ⟨m, e, hdeca, he, hua⟩ := fpDecode_of_finite ha
  obtain ⟨n, f, hdecb, hf, hub⟩ := fpDecode_of_finite hb
  rw [hua, hub] at h ⊢
  have hx := mt (scaled_add_scaled_eq_zero_iff _ _ m n he hf).mpr h
  have hnum : ¬ (m = 0 ∧ n = 0) := fun ⟨hm, hn⟩ => h (by rw [scaled_eq_zero.mpr hm, scaled_eq_zero.mpr hn]; rfl)
  rw [fadd_of_num hdeca hdecb, if_neg hnum, if_neg hx, scaled_add_scaled _ _ m n he hf]
  generalize alignedSum (negOf a) m e (negOf b) n f = x at hx
  have hscaled : x * 2 ^ (min e f - -157).toNat = scaled (x < 0) x.natAbs (min e f) (-(157 + (0 : Nat))) := by
    rw [scaled_eq_signed, Nat.cast_mul, ← signed_mul, signed_natAbs]
    simp
  rw [hscaled]
  exact fround_delivered _ (by omega) (by omega)

theorem fadd_of_sum_eq_zero (ha : Finite a) (hb : Finite b) (h : units a + units b = 0) :
    fadd a b = (zeroOf (decide (units a = 0) && negOf a && negOf b), Ev.none) := by
  obtain ⟨m, e, hdeca, he, hua⟩ := fpDecode_of_finite ha
  obtain ⟨n, f, hdecb, hf, hub⟩ := fpDecode_of_finite hb
  have hm : units a = 0 ↔ m = 0 := by rw [hua, scaled_eq_zero]
  have hn : units b = 0 ↔ n = 0 := by rw [hub, scaled_eq_zero]
  rw [fadd_of_num hdeca hdecb]
  by_cases h0 : units a = 0
  · have hb0 : units b = 0 := by omega
    rw [if_pos ⟨hm.mp h0, hn.mp hb0⟩, decide_eq_true h0, Bool.true_and]
  · have hx : alignedSum (negOf a) m e (negOf b) n f = 0 := by
      rwa [hua, hub, scaled_add_scaled_eq_zero_iff _ _ m n he hf] at h
    rw [if_neg fun hz => h0 (hm.mpr hz.1), if_pos hx, decide_eq_false h0]
    rfl

theorem fadd_of_isInf_left (ha : IsInf a) (hb : ¬ IsNan b) (hsame : IsInf b → negOf a = negOf b) :
    fadd a b = (a, Ev.none) := by
  rcases not_isNan_cases hb with hinf | ⟨m, e, hnum⟩
  · obtain rfl := eq_of_isInf ha hinf (hsame hinf)
    simp [fadd, fpDecode_of_isInf ha, infWord_negOf ha]
  · simp [fadd, fpDecode_of_isInf ha, hnum, infWord_negOf ha]

theorem fadd_of_isInf_right (hb : IsInf b) (ha : ¬ IsNan a) (hnot : ¬ IsInf a) : fadd a b = (b, Ev.none) := by
  obtain ⟨m, e, hnum⟩ := (not_isNan_cases ha).resolve_left hnot
  simp [fadd, fpDecode_of_isInf hb, hnum, infWord_negOf hb]

theorem fadd_of_opposite_infs (ha : IsInf a) (hb : IsInf b) (h : negOf a ≠ negOf b) : fadd a b = (nanWord, Ev.invalid) := by
  simp [fadd, fpDecode_of_isInf ha, fpDecode_of_isInf hb, h]

end

/-- Settles O7: the exact sum, an integer at the smaller exponent, through `fround_delivered`; then zeros and infinities. -/
theorem floatSums : Obligations.FloatSums := by
  intro a b
  refine ⟨fadd_of_sum_ne_zero, fadd_of_sum_eq_zero, fadd_of_isInf_left, fadd_of_isInf_right, fun ha hb h => ?_⟩
  rw [fadd_of_opposite_infs ha hb h]
  exact ⟨isNan_nanWord, rfl⟩

/-! ## Products -/

section
variable {a b : Word40}

/-- The product of two numbers that are not 0: of the mantissas, at the sum of the exponents. -/
theorem fmul_of_product_ne_zero (ha : Finite a) (hb : Finite b) (h : units a * units b ≠ 0) :
    Delivered 157 (units a * units b) (fmul a b) := by
  obtain ⟨m, e, hdeca, he, hua⟩ := fpDecode_of_finite ha
  obtain ⟨n, f, hdecb, hf, hub⟩ := fpDecode_of_finite hb
  have hm : m ≠ 0 := fun h0 => h (by rw [hua, scaled_eq_zero.mpr h0, zero_mul])
  have hn : n ≠ 0 := fun h0 => h (by rw [hub, scaled_eq_zero.mpr h0, mul_zero])
  have hmul : fmul a b = fround (negOf a != negOf b) (m * n) (e + f) := by
    rw [fmul, hdeca, hdecb]
    simp [hm, hn, fpSign_eq]
  rw [hmul, hua, hub, scaled_mul_scaled _ _ m n he hf]
  exact fround_delivered (k := 157) _ (Nat.mul_pos (by omega) (by omega)) (by omega)

theorem fmul_of_product_eq_zero (ha : Finite a) (hb : Finite b) (h : units a * units b = 0) :
    fmul a b = (zeroOf (negOf a != negOf b), Ev.none) := by
  obtain ⟨m, e, hdeca, he, hua⟩ := fpDecode_of_finite ha
  obtain ⟨n, f, hdecb, hf, hub⟩ := fpDecode_of_finite hb
  rw [hua, hub, mul_eq_zero, scaled_eq_zero, scaled_eq_zero] at h
  rw [fmul, hdeca, hdecb]
  simp [h, zeroWord_eq, fpSign_eq]

/-- An infinity times a number: the infinity of the product's sign unless the number is 0. -/
theorem fmul_of_isInf_finite (ha : IsInf a) (hb : Finite b) :
    fmul a b = if units b = 0 then (nanWord, .invalid) else (infOf (negOf a != negOf b), .none) := by
  obtain ⟨n, f, hdecb, hf, hub⟩ := fpDecode_of_finite hb
  simp [fmul, fpDecode_of_isInf ha, hdecb, hub, scaled_eq_zero, infWord_eq, fpSign_eq]

theorem fmul_of_finite_isInf (ha : Finite a) (hb : IsInf b) :
    fmul a b = if units a = 0 then (nanWord, .invalid) else (infOf (negOf a != negOf b), .none) := by
  obtain ⟨m, e, hdeca, he, hua⟩ := fpDecode_of_finite ha
  simp [fmul, fpDecode_of_isInf hb, hdeca, hua, scaled_eq_zero, infWord_eq, fpSign_eq]

theorem fmul_of_isInf_isInf (ha : IsInf a) (hb : IsInf b) : fmul a b = (infOf (negOf a != negOf b), Ev.none) := by
  simp [fmul, fpDecode_of_isInf ha, fpDecode_of_isInf hb, infWord_eq, fpSign_eq]

end

/-- Settles O14: the magnitudes' product at the sum of the exponents through `fround_delivered`; then zeros and infinities. -/
theorem floatProducts : Obligations.FloatProducts := by
  intro a b neg
  refine ⟨fmul_of_product_ne_zero, fmul_of_product_eq_zero, fun ha hb => ?_, fun hb ha h => ?_, fun h => ?_⟩
  · rcases hb with hb | ⟨hb, hne⟩
    · exact fmul_of_isInf_isInf ha hb
    · rw [fmul_of_isInf_finite ha hb, if_neg hne]
  · rw [fmul_of_finite_isInf ha hb, if_neg h]
  · have hnan : fmul a b = (nanWord, Ev.invalid) := by
      rcases h with ⟨ha, hb, hzero⟩ | ⟨hb, ha, hzero⟩
      · rw [fmul_of_isInf_finite ha hb, if_pos hzero]
      · rw [fmul_of_finite_isInf ha hb, if_pos hzero]
    rw [hnan]
    exact ⟨isNan_nanWord, rfl⟩

end Sys2Proof.Machine
end

section
/-! SUPPORT. Conversions between integers and floating point, and the order of numbers (R617 to R620). -/

namespace Sys2Proof.Machine

open Sys2Proof.Claims

/-! ## From integers (R620) -/

theorem natAbs_xi_le (v : Word40) : (xi v).natAbs ≤ 2 ^ 31 := by
  have hlo := BitVec.le_toInt (v.setWidth 32)
  have hhi := BitVec.toInt_lt (x := v.setWidth 32)
  rw [xi]
  omega

/-- A magnitude of at most 32 bits converts exactly. -/
theorem fround_of_short (s : Bool) {m : Nat} (hm : 0 < m) (h : m < 2 ^ 32) :
    Finite (fround s m 0).1 ∧ units (fround s m 0).1 = signed s m * 2 ^ 157 := by
  have hlog : m.log2 < 32 := (Nat.log2_lt hm.ne').mpr h
  have hcarry := roundCarry_le_one m
  have hlo : -126 ≤ roundedExp m 0 := by rw [roundedExp]; omega
  have hhi : roundedExp m 0 ≤ 127 := by rw [roundedExp]; omega
  obtain ⟨hexp, -, -⟩ := fround_fields s hlo hhi
  have hshort := rounded_mul_of_short (m := m) (by omega)
  have hbase : ((0 : Int) + m.log2 + 127).toNat = m.log2 + 127 := by omega
  have htwice : 2 * signed s (units (fround s m 0).1) = 2 * (m * 2 ^ 157 : Nat) := by
    rw [two_mul_units_fround s hm hlo hhi, hbase, pow_add, ← mul_assoc, hshort]
    push_cast
    ring
  refine ⟨⟨by omega, by omega⟩, ?_⟩
  rw [signed_mul, ← signed_inj (s := s), signed_signed]
  exact_mod_cast mul_left_cancel₀ two_ne_zero htwice

theorem itof_exact (v : Word40) : Finite (itof v) ∧ units (itof v) = xi v * 2 ^ 157 := by
  have hle := natAbs_xi_le v
  by_cases h : xi v = 0
  · rw [itof, if_pos h, h]
    decide
  · rw [itof, if_neg h]
    have hexact := fround_of_short (decide (xi v < 0)) (m := (xi v).natAbs) (by omega) (by omega)
    rwa [signed_natAbs] at hexact

/-! ## To integers (R619) -/

theorem signed_tdiv (s : Bool) (x y : Int) : (signed s x).tdiv y = signed s (x.tdiv y) := by
  cases s <;> simp [signed]

/-- The integer part of m * 2^e. -/
def truncated (m : Nat) (e : Int) : Nat := if 0 ≤ e then m * 2 ^ e.toNat else m / 2 ^ (-e).toNat

/-- A power of 2 at or above 1, in units of 2^-157. -/
theorem two_pow_units_of_nonneg {e : Int} (h : 0 ≤ e) : 2 ^ (e - -157).toNat = 2 ^ e.toNat * 2 ^ 157 := by
  rw [← pow_add]
  congr 1
  omega

theorem two_pow_units_of_neg {e : Int} (h : ¬ 0 ≤ e) (he : -157 ≤ e) : 2 ^ 157 = 2 ^ (-e).toNat * 2 ^ (e - -157).toNat := by
  rw [← pow_add]
  congr 1
  omega

theorem truncated_eq_div (m : Nat) {e : Int} (he : -157 ≤ e) : truncated m e = m * 2 ^ (e - -157).toNat / 2 ^ 157 := by
  rw [truncated]
  split
  · next h => rw [two_pow_units_of_nonneg h, ← mul_assoc, Nat.mul_div_cancel _ (by positivity)]
  · next h => rw [two_pow_units_of_neg h he, Nat.mul_div_mul_right _ _ (by positivity)]

/-- Truncation loses something where bits below the point remain. -/
theorem truncated_inexact (m : Nat) {e : Int} (he : -157 ≤ e) :
    (decide (e < 0) && m % 2 ^ (-e).toNat != 0) = decide (truncated m e * 2 ^ 157 ≠ m * 2 ^ (e - -157).toNat) := by
  rw [truncated]
  split
  · next h =>
    rw [two_pow_units_of_nonneg h, ← mul_assoc]
    simp [h]
  · next h =>
    have hpos : 0 < 2 ^ (e - -157).toNat := by positivity
    have hexact : m / 2 ^ (-e).toNat * 2 ^ 157 = m * 2 ^ (e - -157).toNat ↔ m % 2 ^ (-e).toNat = 0 := by
      rw [two_pow_units_of_neg h he, ← mul_assoc, Nat.mul_left_inj hpos.ne',
        ← Nat.dvd_iff_div_mul_eq, Nat.dvd_iff_mod_eq_zero]
    rw [Bool.eq_iff_iff, decide_eq_true_iff, ne_eq, hexact]
    simp [not_le.mp h]

/-- A number out of range or not: its truncation toward zero decides. -/
theorem ftoi_of_finite {v : Word40} (h : Finite v) :
    let n := (units v).tdiv (2 ^ 157)
    ftoi v = if iOverflow n then ((Config.ftoiOverflow (negOf v)).setWidth 40, { ovf := true })
      else (iword n, { inex := decide (n * 2 ^ 157 ≠ units v) }) := by
  obtain ⟨m, e, hdec, he, hu⟩ := fpDecode_of_finite h
  have hn : (units v).tdiv (2 ^ 157) = signed (negOf v) (truncated m e) := by
    rw [hu, scaled_eq_signed, signed_tdiv, truncated_eq_div m he]
    rfl
  have hinex : signed (negOf v) (truncated m e) * 2 ^ 157 ≠ units v ↔
      truncated m e * 2 ^ 157 ≠ m * 2 ^ (e - -157).toNat := by
    rw [hu, scaled_eq_signed, signed_mul, ne_eq, signed_inj]
    exact not_congr (by exact_mod_cast Iff.rfl)
  dsimp only
  rw [hn, decide_eq_decide.mpr hinex, ← truncated_inexact m he, ftoi, hdec]
  rfl

/-! ## Order (R617, R618) -/

theorem rank_of_isInf {v : Word40} (h : IsInf v) : rank v = if negOf v then -(2 ^ 300) else 2 ^ 300 := if_pos h.1

theorem rank_of_finite {v : Word40} (h : Finite v) : rank v = units v := if_neg h.1

theorem units_between (v : Word40) : -(2 ^ 300) < units v ∧ units v < 2 ^ 300 := by
  have hlt : ((units v).natAbs : Int) < (2 ^ 300 : Nat) := Int.ofNat_lt.mpr (natAbs_units_lt v)
  rw [Int.natCast_natAbs, Nat.cast_pow, Nat.cast_ofNat] at hlt
  exact abs_lt.mp hlt

theorem cmpInt_of_lt {x y : Int} (h : x < y) : cmpInt x y = .less := if_pos h

theorem cmpInt_of_gt {x y : Int} (h : y < x) : cmpInt x y = .greater := by
  rw [cmpInt, if_neg h.not_gt, if_neg h.ne']

theorem cmpInt_self (x : Int) : cmpInt x x = .equal := by
  rw [cmpInt, if_neg (lt_irrefl x), if_pos rfl]

/-- The order does not depend on the unit. -/
theorem cmpInt_mul {c : Int} (hc : 0 < c) (x y : Int) : cmpInt (x * c) (y * c) = cmpInt x y := by
  simp only [cmpInt, mul_lt_mul_iff_left₀ hc, mul_left_inj' hc.ne']

section
variable {a b : Word40}

theorem fcmp_of_finite (ha : Finite a) (hb : Finite b) : fcmp a b = cmpInt (units a) (units b) := by
  obtain ⟨m, e, hdeca, he, hua⟩ := fpDecode_of_finite ha
  obtain ⟨n, f, hdecb, hf, hub⟩ := fpDecode_of_finite hb
  have hmin : -157 ≤ min e f := by omega
  rw [fcmp, hdeca, hdecb, hua, hub, scaled_rebase _ m (min_le_left e f) hmin, scaled_rebase _ n (min_le_right e f) hmin,
    cmpInt_mul (by positivity)]

theorem fcmp_of_isInf_finite (ha : IsInf a) (hb : Finite b) : fcmp a b = if negOf a then .less else .greater := by
  obtain ⟨n, f, hdecb, -, -⟩ := fpDecode_of_finite hb
  rw [fcmp, fpDecode_of_isInf ha, hdecb]

theorem fcmp_of_finite_isInf (ha : Finite a) (hb : IsInf b) : fcmp a b = if negOf b then .greater else .less := by
  obtain ⟨m, e, hdeca, -, -⟩ := fpDecode_of_finite ha
  rw [fcmp, fpDecode_of_isInf hb, hdeca]

theorem fcmp_of_isInf (ha : IsInf a) (hb : IsInf b) :
    fcmp a b = if negOf a = negOf b then .equal else if negOf a then .less else .greater := by
  rw [fcmp, fpDecode_of_isInf ha, fpDecode_of_isInf hb]

/-- On numbers and infinities a compare is that of the ranks. -/
theorem fcmp_eq_cmpInt_rank (ha : Finite a ∨ IsInf a) (hb : Finite b ∨ IsInf b) : fcmp a b = cmpInt (rank a) (rank b) := by
  rcases ha with ha | ha <;> rcases hb with hb | hb
  · rw [fcmp_of_finite ha hb, rank_of_finite ha, rank_of_finite hb]
  · obtain ⟨hlo, hhi⟩ := units_between a
    rw [fcmp_of_finite_isInf ha hb, rank_of_finite ha, rank_of_isInf hb]
    split
    · exact (cmpInt_of_gt hlo).symm
    · exact (cmpInt_of_lt hhi).symm
  · obtain ⟨hlo, hhi⟩ := units_between b
    rw [fcmp_of_isInf_finite ha hb, rank_of_isInf ha, rank_of_finite hb]
    split
    · exact (cmpInt_of_lt hlo).symm
    · exact (cmpInt_of_gt hhi).symm
  · have hlt : -(2 ^ 300) < (2 ^ 300 : Int) := neg_lt_self (by positivity)
    rw [fcmp_of_isInf ha hb, rank_of_isInf ha, rank_of_isInf hb]
    cases negOf a <;> cases negOf b
    · exact (cmpInt_self _).symm
    · exact (cmpInt_of_gt hlt).symm
    · exact (cmpInt_of_lt hlt).symm
    · exact (cmpInt_self _).symm

theorem fmin_eq {x y : Int} (h : fcmp a b = cmpInt x y) : fmin a b = (if x ≤ y then a else b, Ev.none) := by
  rcases lt_trichotomy x y with hlt | rfl | hgt
  · rw [fmin, h, cmpInt_of_lt hlt, if_pos hlt.le]
  · rw [fmin, h, cmpInt_self, if_pos le_rfl]
  · rw [fmin, h, cmpInt_of_gt hgt, if_neg hgt.not_ge]

theorem fmax_eq {x y : Int} (h : fcmp a b = cmpInt x y) : fmax a b = (if y ≤ x then a else b, Ev.none) := by
  rcases lt_trichotomy x y with hlt | rfl | hgt
  · rw [fmax, h, cmpInt_of_lt hlt, if_neg hlt.not_ge]
  · rw [fmax, h, cmpInt_self, if_pos le_rfl]
  · rw [fmax, h, cmpInt_of_gt hgt, if_pos hgt.le]

end

/-- Settles O13: `itof_exact`, `ftoi_of_finite`, and the compare of the ranks, which decides minimum and maximum. -/
theorem floatConversionsAndOrder : Obligations.FloatConversionsAndOrder := by
  refine ⟨fun v => xi_eq v ▸ itof_exact v, fun v => ?toInteger, fun a b ha hb => ?order⟩
  case toInteger =>
    intro n
    have hround : Finite v → ftoi v = if iOverflow n then _ else (iword n, { inex := decide (n * 2 ^ 157 ≠ units v) }) :=
      ftoi_of_finite
    have hfit := iOverflow_eq n
    refine ⟨fun h hlo hhi => ?_, fun h => ?_, fun h => ?_⟩
    · rw [hround h, hfit, if_neg (by simp only [decide_eq_true_iff]; omega)]
      exact ⟨toNat_iword n, rfl⟩
    · rcases h with h | ⟨h, hout⟩
      · rw [ftoi, fpDecode_of_isInf h]
      · rw [hround h, hfit, if_pos (decide_eq_true (by omega))]
    · rw [ftoi, fpDecode_of_isNan h]
  case order =>
    have hcmp := fcmp_eq_cmpInt_rank ha hb
    exact ⟨hcmp, fmin_eq hcmp, fmax_eq hcmp⟩

end Sys2Proof.Machine
end

section
/-! SUPPORT. AGU memory accesses (spec 44): the circular update and the sixteen modes, what every access does before its
data side, which data side each of the eight operations of a mode has, and what the data sides do. -/

namespace Sys2Proof.Machine

open Sys2Proof.Claims

/-! ## Addressing (R676, R690) -/

theorem circ_of_zero {b a l : BitVec 16} {d : Int} (h : l = 0) : circ b a l d = (BitVec.ofInt 16 (a.toNat + d), none) :=
  if_pos h

theorem circ_of_ne_zero {b a l : BitVec 16} {d : Int} (h : l ≠ 0) :
    let e : Int := a.toNat + d
    circ b a l d =
      (BitVec.ofInt 16
        (if 0 ≤ d then (if e - b.toNat < l.toNat then e else e - l.toNat) else (if (b.toNat : Int) ≤ e then e else e + l.toNat)),
       some (decide ((b.toNat : Int) + l.toNat ≤ e ∨ e < b.toNat))) := by
  intro e
  rw [Bool.decide_or]
  exact if_neg h

/-- Settles O16: the two cases of `circ`, then the rows of the table one by one. -/
theorem addressModeTable : Obligations.AddressModeTable :=
  ⟨fun _ _ _ _ => circ_of_zero, fun _ _ _ _ => circ_of_ne_zero, fun _ => by and_intros <;> rfl⟩

/-! ## What every access does before its data side (R341, R344, R673, R680) -/

theorem addrOver_eq_false_iff {a : BitVec 16} : addrOver a = false ↔ a.toNat ≤ 0x3FFF :=
  decide_eq_false_iff_not.trans not_lt

theorem addrOver_eq_true_iff {a : BitVec 16} : addrOver a = true ↔ ¬ a.toNat ≤ 0x3FFF :=
  decide_eq_true_iff.trans not_le.symm

theorem bndFlag_mask (u : AguUnit) (b : Bool) : AguFlags.mask u { bnd := some b } = bndBit u := by
  cases u <;> cases b <;> rfl

theorem bndFlag_val (u : AguUnit) (b : Bool) : AguFlags.val u { bnd := some b } = if b then bndBit u else 0 := by
  cases u <;> cases b <;> rfl

/-- The model's pointer and flag updates are those of `accessNext` (R673). -/
theorem addressed_eq_accessNext (m : AguMode) (u : AguUnit) (x : BitVec 4) (s : State) :
    ({ s with pend := s.pend ++ addressEffects u x (aguAddress m (aguIn s u x)) } : State) = accessNext m u x s [] := by
  have hnil : s.ports ++ [] = s.ports := List.append_nil _
  unfold accessNext generated addressEffects
  rw [hnil]
  rcases aguAddress m (aguIn s u x) with ⟨a, newA, _ | b⟩
  · rfl
  · rw [bndFlag_mask, bndFlag_val]
    rfl

@[simp] theorem accessNext_port (m : AguMode) (u v : AguUnit) (x : BitVec 4) (s : State) (d : Nat) (o : PortOp) :
    (accessNext m u x s []).port v d o = accessNext m u x s [⟨v, d, o⟩] := by
  simp [accessNext, State.port]

section
variable {u : AguUnit} {vec rf : Bool} {m : AguMode} {p : BitVec 2} {x : BitVec 4} {data : Gate → BitVec 16 → State → Res}
  {s : State}

theorem aguAccess_off (hg : (aguGate u p s).g = false) : aguAccess u vec rf m p x data s = .next s := by
  rw [aguGate] at hg
  simp [aguAccess, hg]

theorem aguAccess_differ (hg : AguOn u p s) (hne : (aguGate u p s).c0 ≠ (aguGate u p s).c1) :
    aguAccess u vec true m p x data s = .fault .scalarPredicate := by
  rw [AguOn, aguGate] at hg
  rw [aguGate] at hne
  simp [aguAccess, hg, hne]

/-- An access whose gate lets it reach an illegal address raises what is wrong with it and drops the rest. -/
theorem aguAccess_illegal (hg : AguOn u p s) (hs : rf = true → (aguGate u p s).c0 = (aguGate u p s).c1)
    (ha : (addrOver (addrOf m u x s) || addrOdd vec (addrOf m u x s)) = true) :
    aguAccess u vec rf m p x data s =
      .next (raiseIf (addrOdd vec (addrOf m u x s)) (ptyExc u) (raiseIf (addrOver (addrOf m u x s)) (ovfExc u) s)) := by
  have hon : ¬ (!(aguGate u p s).g) = true := by simp [hg]
  have hsame : ¬ (rf && (aguGate u p s).c0 != (aguGate u p s).c1) = true := by
    intro h
    obtain ⟨hrf, hne⟩ := Bool.and_eq_true_iff.mp h
    exact bne_iff_ne.mp hne (hs hrf)
  exact (if_neg hon).trans ((if_neg hsame).trans (if_pos ha))

variable (hg : AguOn u p s)
include hg

theorem aguAccess_legalOne (hs : rf = true → (aguGate u p s).c0 = (aguGate u p s).c1) (h : LegalOne m u x s) :
    aguAccess u false rf m p x data s = data (aguGate u p s) (addrOf m u x s) (accessNext m u x s []) := by
  rw [aguAccess_on hg hs (addrOver_eq_false_iff.mpr h) rfl, addressed_eq_accessNext]
  rfl

theorem aguAccess_legalTwo (h : LegalTwo m u x s) :
    aguAccess u true false m p x data s = data (aguGate u p s) (addrOf m u x s) (accessNext m u x s []) := by
  obtain ⟨hlow, heven⟩ := h
  have hodd : addrOdd true (addrOf m u x s) = false := heven
  rw [aguAccess_on hg Bool.false_ne_true.elim (addrOver_eq_false_iff.mpr hlow) hodd, addressed_eq_accessNext]
  rfl

theorem aguAccess_not_legalOne (hs : rf = true → (aguGate u p s).c0 = (aguGate u p s).c1) (h : ¬LegalOne m u x s) :
    aguAccess u false rf m p x data s = .next (raise (ovfExc u) s) := by
  have hover := addrOver_eq_true_iff.mpr h
  rw [aguAccess_illegal hg hs (by simp [hover]), hover]
  rfl

theorem aguAccess_not_legalTwo (h : ¬LegalTwo m u x s) :
    aguAccess u true false m p x data s = .next (
      let s1 := if (addrOf m u x s).toNat ≤ 0x3FFF then s else raise (ovfExc u) s
      if (addrOf m u x s).getLsbD 0 then raise (ptyExc u) s1 else s1) := by
  have hraise : raiseIf (addrOver (addrOf m u x s)) (ovfExc u) s =
      if (addrOf m u x s).toNat ≤ 0x3FFF then s else raise (ovfExc u) s := by
    simp only [raiseIf, addrOver_eq_true_iff, ite_not]
  have ha : (addrOver (addrOf m u x s) || addrOdd true (addrOf m u x s)) = true := by
    by_contra hno
    obtain ⟨hlow, heven⟩ := Bool.or_eq_false_iff.mp (Bool.eq_false_iff.mpr hno)
    exact h ⟨addrOver_eq_false_iff.mp hlow, heven⟩
  rw [aguAccess_illegal hg Bool.false_ne_true.elim ha, hraise]
  rfl

end

/-! ## The operations of a mode (R691 to R706) -/

/-- The eight operations of a row are the read and the write of each unit, of a word and of a pair, in its mode. -/
structure RowMeans (r : AccessRow) : Prop where
  rs0 : ∀ p x t s, exec (r.rs0 p x t) s = agu0Read false r.mode p x t s
  rv0 : ∀ p x t s, exec (r.rv0 p x t) s = agu0Read true r.mode p x t s
  ws0 : ∀ p x t s, exec (r.ws0 p x t) s = agu0Write false r.mode p x t s
  wv0 : ∀ p x t s, exec (r.wv0 p x t) s = agu0Write true r.mode p x t s
  rs1 : ∀ p x n s, exec (r.rs1 p x n) s = agu1Read false r.mode p x n s
  rv1 : ∀ p x n s, exec (r.rv1 p x n) s = agu1Read true r.mode p x n s
  ws1 : ∀ p x s, exec (r.ws1 p x) s = agu1Write false r.mode p x s
  wv1 : ∀ p x s, exec (r.wv1 p x) s = agu1Write true r.mode p x s

theorem accessRow_means : ∀ r ∈ accessRows, RowMeans r := by
  simp only [accessRows, ← List.forall_iff_forall_mem, List.Forall]
  and_intros <;> constructor <;> intros <;> rfl

/-! ## The transfer types of RFA7 (R682, R684, R811) -/

theorem toRf_rf (n : BitVec 8) : (toRf n).getLsbD 8 = true ∧ (toRf n).setWidth 8 = n :=
  ⟨BitVec.getLsbD_append, BitVec.setWidth_append_eq_right⟩

theorem toFirst_first (a : BitVec 7) :
    (toFirst a).getLsbD 8 = false ∧ (toFirst a).getLsbD 7 = false ∧ (toFirst a).setWidth 7 = a :=
  ⟨BitVec.getLsbD_append, BitVec.getLsbD_append, BitVec.setWidth_append_eq_right⟩

theorem fromFirst_first (a : BitVec 7) :
    (fromFirst a).getLsbD 8 = false ∧ (fromFirst a).getLsbD 7 = true ∧ (fromFirst a).setWidth 7 = a :=
  ⟨BitVec.getLsbD_append, BitVec.getLsbD_append, BitVec.setWidth_append_eq_right⟩

/-- Transfer type 01 names a first-bank register as a store's source, and no other type does. -/
theorem fromFirstBank_eq_false {t : BitVec 9} (h : ∀ a, t ≠ fromFirst a) : fromFirstBank t = false := by
  by_contra hfrom
  simp only [fromFirstBank, Bool.not_eq_false, Bool.and_eq_true, Bool.not_eq_true'] at hfrom
  obtain ⟨h8, h7⟩ := hfrom
  obtain ⟨hf8, hf7, -⟩ := fromFirst_first (t.setWidth 7)
  refine h (t.setWidth 7) (BitVec.eq_of_getLsbD_eq fun i hi => ?_)
  obtain hlow | rfl | rfl : i < 7 ∨ i = 7 ∨ i = 8 := by omega
  · rw [fromFirst, BitVec.getLsbD_append, if_pos hlow, BitVec.getLsbD_setWidth, decide_eq_true hlow, Bool.true_and]
  · rw [h7, hf7]
  · rw [h8, hf8]

/-! ## What each operation's data side is -/

section
variable (vec : Bool) (m : AguMode) (p : BitVec 2) (x : BitVec 4) (s : State)

theorem agu0Read_toRf (n : BitVec 8) :
    agu0Read vec m p x (toRf n) s = aguAccess .agu0 vec (!vec) m p x (readRf .agu0 .p7 vec n) s := by
  obtain ⟨hrf, hn⟩ := toRf_rf n
  simp only [agu0Read, hrf, hn, if_true, Bool.and_true]

theorem agu0Read_toFirst (a : BitVec 7) :
    agu0Read vec m p x (toFirst a) s = aguAccess .agu0 vec false m p x (fun _ d => readFirst vec a d) s := by
  obtain ⟨h8, h7, ha⟩ := toFirst_first a
  simp only [agu0Read, h8, h7, ha, Bool.false_eq_true, if_false, Bool.and_false]

theorem agu0Read_fromFirst (a : BitVec 7) :
    agu0Read vec m p x (fromFirst a) s = aguAccess .agu0 vec false m p x (fun _ _ _ => .refused .transferType) s := by
  obtain ⟨h8, h7, -⟩ := fromFirst_first a
  simp only [agu0Read, h8, h7, Bool.false_eq_true, if_false, if_true, Bool.and_false]

theorem agu0Write_fromFirst (a : BitVec 7) :
    agu0Write vec m p x (fromFirst a) s = aguAccess .agu0 vec false m p x (fun _ d => storeFirst vec a d) s := by
  obtain ⟨h8, h7, ha⟩ := fromFirst_first a
  have hfrom : fromFirstBank (fromFirst a) = true := by rw [fromFirstBank, h8, h7]; rfl
  simp only [agu0Write, hfrom, ha, if_true, Bool.not_true, Bool.and_false]

theorem agu0Write_result {t : BitVec 9} (ht : ∀ a, t ≠ fromFirst a) :
    agu0Write vec m p x t s =
      aguAccess .agu0 vec (!vec) m p x (fun g d s => storeResult .agu0 vec s.mulOut g d s) s := by
  simp only [agu0Write, fromFirstBank_eq_false ht, Bool.false_eq_true, if_false, Bool.not_false, Bool.and_true]

end

/-! ## Reads toward the Register File (R682, R683) -/

section
variable {u : AguUnit} {q : RfPort} {m : AguMode} {p : BitVec 2} {x : BitVec 4} {n : BitVec 8} {s : State}
  (hg : AguOn u p s)
include hg

theorem aguAccess_readRf_word (hs : (aguGate u p s).c0 = (aguGate u p s).c1) (h : LegalOne m u x s) :
    aguAccess u false true m p x (readRf u q false n) s =
      .next (accessNext m u x s [⟨u, 1, .read (addrOf m u x s) false (.rf q n (aguGate u p s).c0 false)⟩]) := by
  rw [aguAccess_legalOne hg (fun _ => hs) h, ← accessNext_port]
  rfl

theorem aguAccess_readRf_even (h : LegalTwo m u x s) (hn : IsEven n) :
    aguAccess u true false m p x (readRf u q true n) s =
      .next (accessNext m u x s
        [⟨u, 1, .read (addrOf m u x s) true (.rf q n (aguGate u p s).c0 (aguGate u p s).c1)⟩]) := by
  rw [aguAccess_legalTwo hg h, ← accessNext_port]
  exact if_neg (by simpa [evenPair, IsEven] using hn)

theorem aguAccess_readRf_odd (h : LegalTwo m u x s) (hn : ¬IsEven n) :
    aguAccess u true false m p x (readRf u q true n) s = .refused .oddPair := by
  rw [aguAccess_legalTwo hg h]
  exact if_pos (by simpa [evenPair, IsEven] using hn)

end

/-- Settles O17: on both units the operations are accesses with `readRf`. -/
theorem readsIntoRegisterFile : Obligations.ReadsIntoRegisterFile := by
  refine ⟨fun r hr p x n s hg => ?_, fun r hr p x n s hg => ?_⟩
  · obtain ⟨_, _, _, _, hrs, hrv, _, _⟩ := accessRow_means r hr
    rw [hrs, hrv]
    exact ⟨fun h hs => aguAccess_readRf_word hg hs h, aguAccess_differ hg, aguAccess_readRf_even hg, aguAccess_readRf_odd hg⟩
  · obtain ⟨hrs, hrv, _, _, _, _, _, _⟩ := accessRow_means r hr
    rw [hrs, hrv, agu0Read_toRf, agu0Read_toRf]
    exact ⟨fun h hs => aguAccess_readRf_word hg hs h, aguAccess_differ hg, aguAccess_readRf_even hg, aguAccess_readRf_odd hg⟩

/-! ## Reads toward the first bank (R682, R38) -/

theorem arfAM_toNat (k : BitVec 4) : (arfAM k).toNat = 0x14 + k.toNat := by
  rw [arfAM, BitVec.toNat_add, BitVec.toNat_setWidth, BitVec.toNat_ofNat]
  omega

/-- The addresses of the vector views are the sixteen that a vector access accepts (U2). -/
theorem arfVector_eq_some_iff {a : BitVec 7} {k : BitVec 4} : arfVector a = some k ↔ a = arfAM k := by
  rw [arfVector, BitVec.toNat_eq, arfAM_toNat]
  split
  case isTrue h =>
    have hrange : 0x14 ≤ a.toNat ∧ a.toNat < 0x24 := by simpa using h
    rw [Option.some_inj, BitVec.toNat_eq, BitVec.toNat_ofNat]
    omega
  case isFalse h =>
    have hrange : ¬(0x14 ≤ a.toNat ∧ a.toNat < 0x24) := by simpa using h
    simp only [reduceCtorEq, false_iff]
    omega

theorem arfVector_arfAM (k : BitVec 4) : arfVector (arfAM k) = some k := arfVector_eq_some_iff.mpr rfl

theorem arfVector_eq_none {a : BitVec 7} (h : ∀ k, a ≠ arfAM k) : arfVector a = none :=
  Option.eq_none_iff_forall_ne_some.mpr fun k hk => h k (arfVector_eq_some_iff.mp hk)

theorem readFirst_vector {a : BitVec 7} {k : BitVec 4} (h : arfVector a = some k) (d : BitVec 16) (s : State) :
    readFirst true a d s = .next (s.port .agu0 1 (.read d true (.arf k))) := by
  simp [readFirst, h]

theorem readFirst_refused {a : BitVec 7} (h : arfVector a = none) (d : BitVec 16) (s : State) :
    readFirst true a d s = .refused .vectorFirstBank := by
  simp [readFirst, h]

/-- Settles O18: the operations are accesses with `readFirst`, or with a refusal for transfer type 01. -/
theorem agu0ReadsIntoFirstBank : Obligations.Agu0ReadsIntoFirstBank := by
  intro r hr p x a s hg
  obtain ⟨hrs, hrv, _, _, _, _, _, _⟩ := accessRow_means r hr
  simp only [hrs, hrv, agu0Read_toFirst, agu0Read_fromFirst, ← accessNext_port]
  refine ⟨fun h => ⟨aguAccess_legalOne hg nofun h, aguAccess_legalOne hg nofun h⟩,
    fun h => ⟨fun k => ?_, fun ha => ?_, ?_⟩⟩
  · rw [aguAccess_legalTwo hg h, readFirst_vector (arfVector_arfAM k)]
  · rw [aguAccess_legalTwo hg h, readFirst_refused (arfVector_eq_none ha)]
  · exact aguAccess_legalTwo hg h

/-! ## Stores of an operator's result (R686) -/

section
variable {u : AguUnit} {vec : Bool} {o : Option OpOut} {g : Gate} {d : BitVec 16} {s : State}

theorem storeResult_none_enabled (h0 : g.c0 = false) (h1 : (vec && g.c1) = false) :
    storeResult u vec o g d s = .next s := by
  simp [storeResult, h0, h1]

/-- With an element enabled, a store takes the data that R686 says, or is refused for want of it (U18). -/
theorem storeResult_of_enabled (hon : g.c0 = true ∨ (vec && g.c1) = true) :
    (∀ n v0 v1, produced vec o g.c0 (vec && g.c1) = some (n, v0, v1) →
      storeResult u vec o g d s = .next (s.port u n (.write d v0 v1))) ∧
    (produced vec o g.c0 (vec && g.c1) = none → storeResult u vec o g d s = .refused .storeNoProducer) := by
  have hopen : ¬ (!g.c0 && !(vec && g.c1)) = true := by
    rcases hon with h | h <;> simp [h]
  cases o with
  | none => exact ⟨nofun, fun _ => if_neg hopen⟩
  | some r =>
    have hlacks : (r.vec != vec || (g.c0 && r.e0.isNone) || ((vec && g.c1) && r.e1.isNone)) = true ↔
        ¬(r.vec = vec ∧ (g.c0 = true → r.e0.isSome) ∧ ((vec && g.c1) = true → r.e1.isSome)) := by
      simp only [Bool.or_eq_true, bne_iff_ne, Bool.and_eq_true g.c0, Bool.and_eq_true (vec && g.c1),
        Option.isNone_iff_eq_none, Option.isSome_iff_ne_none]
      tauto
    simp only [produced]
    split
    case isTrue h =>
      refine ⟨fun n v0 v1 hp => ?_, nofun⟩
      cases hp
      exact (if_neg hopen).trans (if_neg (hlacks.not_left.mpr h))
    case isFalse h => exact ⟨nofun, fun _ => (if_neg hopen).trans (if_pos (hlacks.mpr h))⟩

end

/-- Past a legal address a store of a result does what R686 says. -/
theorem storesResult_storeResult (m : AguMode) (u : AguUnit) (x : BitVec 4) (vec : Bool) (o : Option OpOut) (g : Gate)
    (s : State) :
    StoresResult m u x vec o g.c0 (vec && g.c1) s (storeResult u vec o g (addrOf m u x s) (accessNext m u x s [])) := by
  refine ⟨fun ⟨h0, h1⟩ => storeResult_none_enabled h0 h1, fun hon => ?_⟩
  cases hp : produced vec o g.c0 (vec && g.c1) with
  | none => exact (storeResult_of_enabled hon).2 hp
  | some r =>
    obtain ⟨n, v0, v1⟩ := r
    exact ((storeResult_of_enabled hon).1 n v0 v1 hp).trans (congrArg Host.Outcome.next (accessNext_port ..))

section
variable {u : AguUnit} {m : AguMode} {p : BitVec 2} {x : BitVec 4} {s : State} (hg : AguOn u p s)
include hg

/-- `out` is the producer that the unit's stores take from. -/
theorem aguAccess_storeResult_word {out : State → Option OpOut} (hout : out (accessNext m u x s []) = out s)
    (h : LegalOne m u x s) (hs : (aguGate u p s).c0 = (aguGate u p s).c1) :
    StoresResult m u x false (out s) (aguGate u p s).c0 false s
      (aguAccess u false true m p x (fun g d t => storeResult u false (out t) g d t) s) := by
  rw [aguAccess_legalOne hg (fun _ => hs) h, hout]
  exact storesResult_storeResult m u x false (out s) (aguGate u p s) s

theorem aguAccess_storeResult_pair {out : State → Option OpOut} (hout : out (accessNext m u x s []) = out s)
    (h : LegalTwo m u x s) :
    StoresResult m u x true (out s) (aguGate u p s).c0 (aguGate u p s).c1 s
      (aguAccess u true false m p x (fun g d t => storeResult u true (out t) g d t) s) := by
  rw [aguAccess_legalTwo hg h, hout]
  exact storesResult_storeResult m u x true (out s) (aguGate u p s) s

end

/-- Settles O19: on both units the operations are accesses with `storeResult` of the unit's producer. -/
theorem storesOfResults : Obligations.StoresOfResults := by
  refine ⟨fun r hr p x s hg => ?_, fun r hr p x t s hg ht => ?_⟩
  · obtain ⟨_, _, _, _, _, _, hws, hwv⟩ := accessRow_means r hr
    rw [hws, hwv]
    exact ⟨aguAccess_storeResult_word (out := State.addOut) hg rfl, aguAccess_differ hg,
      aguAccess_storeResult_pair (out := State.addOut) hg rfl⟩
  · obtain ⟨_, _, hws, hwv, _, _, _, _⟩ := accessRow_means r hr
    rw [hws, hwv, agu0Write_result _ _ _ _ _ ht, agu0Write_result _ _ _ _ _ ht]
    exact ⟨aguAccess_storeResult_word (out := State.mulOut) hg rfl, aguAccess_differ hg,
      aguAccess_storeResult_pair (out := State.mulOut) hg rfl⟩

/-! ## Stores of a first-bank register (R684) -/

theorem firstRead_accessNext (m : AguMode) (u : AguUnit) (x : BitVec 4) (s : State) (o : List PortEntry) (a : BitVec 7) :
    firstRead (accessNext m u x s o) a = firstRead s a := rfl

theorem readMark_port (a : BitVec 7) (s : State) (u : AguUnit) (d : Nat) (o : PortOp) :
    readMark a (s.port u d o) = (readMark a s).port u d o := by
  unfold readMark drawRead
  split <;> rfl

theorem storeFirst_vector {a : BitVec 7} {k : BitVec 4} (h : arfVector a = some k) (d : BitVec 16) (s : State) :
    storeFirst true a d s = .next (s.port .agu0 1 (.write d (some (arfPair s k).1) (some (arfPair s k).2))) := by
  simp [storeFirst, h]

theorem storeFirst_refused {a : BitVec 7} (h : arfVector a = none) (d : BitVec 16) (s : State) :
    storeFirst true a d s = .refused .vectorFirstBank := by
  simp [storeFirst, h]

/-- Settles O20: the operations are accesses with `storeFirst`, gated by G alone. -/
theorem agu0StoresOfFirstBank : Obligations.Agu0StoresOfFirstBank := by
  intro r hr p x a s hg
  obtain ⟨_, _, hws, hwv, _, _, _, _⟩ := accessRow_means r hr
  simp only [hws, hwv, agu0Write_fromFirst, ← accessNext_port, readMark_port]
  refine ⟨fun h => aguAccess_legalOne hg nofun h, aguAccess_not_legalOne hg nofun, fun h k => ?_, fun h ha => ?_⟩
  · rw [aguAccess_legalTwo hg h, storeFirst_vector (arfVector_arfAM k)]
    rfl
  · rw [aguAccess_legalTwo hg h, storeFirst_refused (arfVector_eq_none ha)]

/-! ## Closed gates and illegal addresses (R344, R680) -/

/-- Settles O21: all eight operations are accesses, which look at the gate and the address before the destination field. -/
theorem addressExceptions : Obligations.AddressExceptions := by
  intro r hr p x t n s
  obtain ⟨hrs0, hrv0, hws0, hwv0, hrs1, hrv1, hws1, hwv1⟩ := accessRow_means r hr
  simp only [List.forall_mem_cons, List.not_mem_nil, false_implies, implies_true, and_true, hrs0, hrv0, hws0, hwv0, hrs1, hrv1,
    hws1, hwv1]
  refine ⟨?_, ?_, ?_, ?_, ?_, ?_⟩
  · exact ⟨aguAccess_off, aguAccess_off, aguAccess_off, aguAccess_off⟩
  · exact ⟨aguAccess_off, aguAccess_off, aguAccess_off, aguAccess_off⟩
  · exact fun hg hs h => ⟨aguAccess_not_legalOne hg (fun _ => hs) h, aguAccess_not_legalOne hg (fun _ => hs) h⟩
  · exact fun hg hs h => ⟨aguAccess_not_legalOne hg (fun _ => hs) h, aguAccess_not_legalOne hg (fun _ => hs) h⟩
  · exact fun hg h => ⟨aguAccess_not_legalTwo hg h, aguAccess_not_legalTwo hg h⟩
  · exact fun hg h => ⟨aguAccess_not_legalTwo hg h, aguAccess_not_legalTwo hg h⟩

end Sys2Proof.Machine
end

section
/-! SUPPORT. AGU arithmetic (spec 45): what the functions that build the rows of Table 3-25 deliver, the flags that an
operation writes, and what every arithmetic operation does with its row. -/

namespace Sys2Proof.Machine

open Sys2Proof.Claims

/-! ## Operands and results (R670, R720 to R725) -/

theorem toNat_ofInt_eq_emod (w : Nat) (e : Int) : ((BitVec.ofInt w e).toNat : Int) = e % 2 ^ w := by
  rw [BitVec.toNat_ofInt, Int.toNat_of_nonneg (Int.emod_nonneg _ (by positivity)), Nat.cast_pow, Nat.cast_ofNat]

/-- Z of a wrapped result: the exact one is a multiple of 2^16. -/
theorem ofInt16_beq_zero (e : Int) : (BitVec.ofInt 16 e == 0) = decide (e % 2 ^ 16 = 0) := by
  rw [← toNat_ofInt_eq_emod]
  refine decide_eq_decide.mpr (BitVec.toNat_inj.symm.trans ?_)
  exact Int.natCast_eq_zero.symm

/-- The absolute value holds for 0x8000 too: as a natural number it is 2^15 (R725). -/
theorem toNat_abs16 (v : BitVec 16) : ((abs16 v).toNat : Int) = v.toInt.natAbs := by
  have hsign : v.getLsbD 15 = v.msb := rfl
  rw [abs16, hsign, BitVec.toInt_eq_msb_cond]
  cases hneg : v.msb with
  | false => simp
  | true =>
    have hlow := BitVec.toNat_ge_of_msb_true hneg
    have hhigh := v.isLt
    simp only [if_true, BitVec.toNat_neg]
    omega

theorem signedOut_eq (toA : Bool) (e : Int) :
    signedOut toA e = ⟨opt toA (BitVec.ofInt 16 e), opt (!toA) (BitVec.ofInt 16 e),
      ⟨none, none, some (decide (e % 2 ^ 16 = 0)), some ((BitVec.ofInt 16 e).getLsbD 15)⟩,
      decide (e < -(2 ^ 15) ∨ 2 ^ 15 - 1 < e)⟩ := by
  rw [← ofInt16_beq_zero, Bool.decide_or]
  cases toA <;> rfl

theorem unsignedOut_eq (toA : Bool) (e : Int) :
    unsignedOut toA e = ⟨opt toA (BitVec.ofInt 16 e), opt (!toA) (BitVec.ofInt 16 e),
      ⟨none, none, some (decide (e % 2 ^ 16 = 0)), none⟩, false⟩ := by
  rw [← ofInt16_beq_zero]
  cases toA <;> rfl

/-! ## The flags of a unit in MGCCONDITION (R48) -/

theorem getLsbD_optVal {k i : Nat} (hi : i < 16) (o : Option Bool) : (optVal k o).getLsbD i = (i == k && o == some true) := by
  rw [optVal, getLsbD_flag, Bool.and_comm]
  congr 1
  by_cases hik : i = k
  · subst hik; simp [hi]
  · simp [hik, Ne.symm hik]

theorem AguFlags.getLsbD_val (u : AguUnit) (f : AguFlags) {i : Nat} (hi : i < 16) :
    (f.val u).getLsbD i = ((i == aguBase u && f.cond == some true) || (i == aguBase u + 1 && f.bnd == some true) ||
      (i == aguBase u + 2 && f.zero == some true) || (i == aguBase u + 3 && f.neg == some true)) := by
  simp only [AguFlags.val, BitVec.getLsbD_or, getLsbD_optVal hi]

theorem AguFlags.mask_eq_flagMask (u : AguUnit) (f : AguFlags) : f.mask u = flagMask u f := by
  unfold AguFlags.mask flagMask optMask
  generalize f.cond.isSome = c, f.bnd.isSome = b, f.zero.isSome = z, f.neg.isSome = n
  cases u
  case agu0 => revert c b z n; decide
  case agu1 => revert c b z n; decide

/-- What the rows are made of is what the model's functions say. -/
theorem aguParts : AguParts := by
  refine ⟨fun _ u _ => by cases u <;> rfl, fun v => ⟨rfl, rfl, toNat_abs16 v⟩, fun toA e => ?_, fun _ => ⟨rfl, rfl, rfl⟩,
    fun _ => ⟨rfl, fun _ => rfl⟩, fun f i hi => ⟨f.getLsbD_val .agu0 hi, f.getLsbD_val .agu1 hi⟩⟩
  exact ⟨BitVec.ofInt 16 e, toNat_ofInt_eq_emod 16 e, signedOut_eq toA e, unsignedOut_eq toA e⟩

/-! ## What every arithmetic operation does (R340, R344, R720 to R723) -/

section
variable {u : AguUnit} {p : BitVec 2} {x : BitVec 4} {f : AguIn → AguOut} {s : State}

theorem aguArith_off (hg : (aguGate u p s).g = false) : aguArith u p x f s = .next s := by
  rw [aguGate] at hg
  simp [aguArith, hg]

theorem aguArith_eq_arithNext (hg : AguOn u p s) :
    aguArith u p x f s = .next (arithNext u x (f (aguIn s u x)) s) := by
  rw [aguArith_on hg, ← raiseIf_pend (f (aguIn s u x)).ovf (aovfExc u) s, arithEffects, AguFlags.mask_eq_flagMask]
  rfl

end

/-! ## The rows of Table 3-25 (R731 to R791) -/

/-- The two operations of a row deliver what its function says, each on its own unit. -/
structure ArithRowMeans (r : ArithRow) : Prop where
  op0 : ∀ p x s, exec (r.op0 p x) s = aguArith .agu0 p x (r.f x) s
  op1 : ∀ p x s, exec (r.op1 p x) s = aguArith .agu1 p x (r.f x) s

theorem arithRow_means : ∀ r ∈ arithRows, ArithRowMeans r := by
  simp only [arithRows, ← List.forall_iff_forall_mem, List.Forall]
  and_intros <;> constructor <;> intros <;> rfl

/-- Settles O22: every row's operations are `aguArith` of its function, gated by G. -/
theorem aguArithmetic : Obligations.AguArithmetic := by
  refine ⟨aguParts, fun r hr p x s => ?_⟩
  obtain ⟨hop0, hop1⟩ := arithRow_means r hr
  rw [hop0, hop1]
  exact ⟨aguArith_eq_arithNext, aguArith_eq_arithNext, aguArith_off, aguArith_off⟩

end Sys2Proof.Machine
end

section
/-! SUPPORT. FLOW movements (spec 46): what a scalar and a vector movement do by destination field and gate, and which of the two
each instruction is. -/

namespace Sys2Proof.Machine

open Sys2Proof.Claims

/-! ## Gates (R340, R341) -/

section
variable {g : Gate} {s : State} {run : State → Res}

theorem scalarGate_off (h : g.c0 = false ∧ g.c1 = false) : scalarGate g s run = .next s := by
  obtain ⟨h0, h1⟩ := h
  simp [scalarGate, h0, h1]

theorem scalarGate_differ (h : g.c0 ≠ g.c1) : scalarGate g s run = .fault .scalarPredicate :=
  if_pos (bne_iff_ne.mpr h)

end

/-! ## Scalar movements (R812 to R814) -/

section
variable {p : BitVec 2} {lat : Nat} {src : Option MoveClass} {bad : Option Refusal} {val : State → Word40}
  {after : State → State} {s : State}

/-! Toward RF, under C0 = C1. -/

theorem moveScalar_toRf_on (h : MoveOn p s) (n : BitVec 8) :
    moveScalar p (toRf n) lat src none val after s = .next (plus (after s) lat (.rf .p7 [(n, val s)])) := by
  obtain ⟨hrf, hn⟩ := toRf_rf n
  rw [moveScalar, if_pos hrf, scalarGate_on h.1 h.2, hn]
  rfl

theorem moveScalar_toRf_bad (h : MoveOn p s) (n : BitVec 8) (r : Refusal) :
    moveScalar p (toRf n) lat src (some r) val after s = .refused r := by
  simp only [moveScalar, (toRf_rf n).1, if_true, scalarGate_on h.1 h.2]

theorem moveScalar_toRf_off (h : MoveNone p s) (n : BitVec 8) : moveScalar p (toRf n) lat src bad val after s = .next s := by
  simp only [moveScalar, (toRf_rf n).1, if_true, scalarGate_off h]

theorem moveScalar_toRf_differ (h : (gateOf s p).c0 ≠ (gateOf s p).c1) (n : BitVec 8) :
    moveScalar p (toRf n) lat src bad val after s = .fault .scalarPredicate := by
  simp only [moveScalar, (toRf_rf n).1, if_true, scalarGate_differ h]

/-! Toward the first bank, under G. -/

theorem moveScalar_first_off (h : FlowOff p s) {d : BitVec 9} (hd : d.getLsbD 8 = false) :
    moveScalar p d lat src bad val after s = .next s := by
  simp only [moveScalar, hd, h, Bool.false_eq_true, if_false, Bool.not_false, if_true]

theorem moveScalar_fromFirst (h : FlowOn p s) (a : BitVec 7) :
    moveScalar p (fromFirst a) lat src bad val after s = .refused .transferType := by
  obtain ⟨h8, h7, -⟩ := fromFirst_first a
  simp only [moveScalar, h8, h7, h, Bool.false_eq_true, if_false, Bool.not_true, if_true]

theorem moveScalar_toFirst_bad (h : FlowOn p s) (a : BitVec 7) (r : Refusal) :
    moveScalar p (toFirst a) lat src (some r) val after s = .refused r := by
  obtain ⟨h8, h7, -⟩ := toFirst_first a
  simp only [moveScalar, h8, h7, h, Bool.false_eq_true, if_false, Bool.not_true]

/-- With nothing against the source field, the class of the destination decides, and then whether it is MGCPC. -/
theorem moveScalar_toFirst (h : FlowOn p s) (a : BitVec 7) :
    moveScalar p (toFirst a) lat src none val after s =
      if sameClass src a then .refused .movementClass
      else if a = 0x08 then .refused .movePc
      else .next (plus (after s) lat (.move a (val s) (lat == 1))) := by
  obtain ⟨h8, h7, ha⟩ := toFirst_first a
  simp only [moveScalar, h8, h7, h, ha, Bool.false_eq_true, if_false, Bool.not_true]
  rfl

end

/-! ## Scalar immediates and movsf (R822 to R827, R833) -/

theorem scalarMove_means (imm : BitVec 40) (sel : BitVec 2) (src : BitVec 8) (s : State) :
    ∀ r ∈ scalarMoves imm sel src s, ∀ p d,
      exec (r.1 p d) s = moveScalar p d r.2.1 none none (fun _ => r.2.2) id s := by
  simp only [scalarMoves, ← List.forall_iff_forall_mem, List.Forall]
  and_intros <;> intros <;> rfl

/-- Settles O23: every row is a `moveScalar` without a source class, which the gate and the destination field decide. -/
theorem scalarMovements : Obligations.ScalarMovements := by
  intro imm sel src s r hr p
  simp only [scalarMove_means imm sel src s r hr]
  refine ⟨moveScalar_toRf_on, moveScalar_toRf_off, moveScalar_toRf_differ, fun h a ha => ?_, fun h => ?_,
    moveScalar_fromFirst, fun h a => moveScalar_first_off h (toFirst_first a).1⟩
  · exact (moveScalar_toFirst h a).trans (if_neg ha)
  · exact moveScalar_toFirst h 0x08

/-! ## Vector movements (R811, R812, R814) -/

section
variable {p : BitVec 2} {lat : Nat} {bad : Option Refusal} {val : State → Word40 × Word40} {s : State}

/-- A vector movement reads its source in the state it starts from. -/
theorem moveVector_value (d : BitVec 9) : moveVector p d lat bad val s = moveVector p d lat bad (fun _ => val s) s := rfl

/-! Toward an RF pair, element by element. -/

theorem someEnabled_of_moveSome (h : MoveSome p s) : ¬ (!(gateOf s p).c0 && !(gateOf s p).c1) = true := by
  rcases h with h | h <;> simp [h]

theorem moveVector_toRf_even (h : MoveSome p s) {n : BitVec 8} (hn : IsEven n) :
    moveVector p (toRf n) lat none val s = .next (plus s lat (.rf .p7
      (only (gateOf s p).c0 (n, (val s).1) ++ only (gateOf s p).c1 (n + 1, (val s).2)))) := by
  obtain ⟨hrf, hwidth⟩ := toRf_rf n
  have heven : evenPair n = true := by rw [evenPair, hn]; rfl
  simp only [moveVector, hrf, if_true, if_neg (someEnabled_of_moveSome h), hwidth, heven, Bool.not_true, Bool.false_eq_true,
    if_false]
  rfl

theorem moveVector_toRf_odd (h : MoveSome p s) {n : BitVec 8} (hn : ¬IsEven n) :
    moveVector p (toRf n) lat none val s = .refused .oddPair := by
  obtain ⟨hrf, hwidth⟩ := toRf_rf n
  have hodd : evenPair n = false := by simpa [evenPair, IsEven] using hn
  simp only [moveVector, hrf, if_true, if_neg (someEnabled_of_moveSome h), hwidth, hodd, Bool.not_false]

theorem moveVector_toRf_bad (h : MoveSome p s) (n : BitVec 8) (r : Refusal) :
    moveVector p (toRf n) lat (some r) val s = .refused r := by
  simp only [moveVector, (toRf_rf n).1, if_true, if_neg (someEnabled_of_moveSome h)]

theorem moveVector_toRf_off (h : MoveNone p s) (n : BitVec 8) : moveVector p (toRf n) lat bad val s = .next s := by
  simp [moveVector, toRf_rf n, h]

/-! Toward an ARF register, all four fields under G. -/

theorem moveVector_first_off (h : FlowOff p s) {d : BitVec 9} (hd : d.getLsbD 8 = false) :
    moveVector p d lat bad val s = .next s := by
  simp only [moveVector, hd, h, Bool.false_eq_true, if_false, Bool.not_false, if_true]

theorem moveVector_fromFirst (h : FlowOn p s) (a : BitVec 7) :
    moveVector p (fromFirst a) lat bad val s = .refused .transferType := by
  obtain ⟨h8, h7, -⟩ := fromFirst_first a
  simp only [moveVector, h8, h7, h, Bool.false_eq_true, if_false, Bool.not_true, if_true]

theorem moveVector_toFirst_arf (h : FlowOn p s) (j : BitVec 4) :
    moveVector p (toFirst (arfAM j)) lat none val s = .next (plus s lat (.moveArf j (val s).1 (val s).2)) := by
  obtain ⟨h8, h7, ha⟩ := toFirst_first (arfAM j)
  simp only [moveVector, h8, h7, ha, h, arfVector_arfAM, Bool.false_eq_true, if_false, Bool.not_true]
  rfl

theorem moveVector_toFirst_other (h : FlowOn p s) {a : BitVec 7} (ha : ∀ j, a ≠ arfAM j) :
    moveVector p (toFirst a) lat none val s = .refused .vectorFirstBank := by
  obtain ⟨h8, h7, hwidth⟩ := toFirst_first a
  simp only [moveVector, h8, h7, h, hwidth, arfVector_eq_none ha, Bool.false_eq_true, if_false, Bool.not_true]

end

/-! ## Source fields (R812) -/

/-- A source field of movv, movs and movss names the first-bank register b. -/
theorem firstSource (b : BitVec 7) :
    (0#1 ++ b).getLsbD 7 = false ∧ (0#1 ++ b).setWidth 7 = b ∧ (0#1 ++ b).toNat = b.toNat := by
  refine ⟨BitVec.getLsbD_append, BitVec.setWidth_append_eq_right, ?_⟩
  rw [BitVec.toNat_append, BitVec.toNat_ofNat, Nat.zero_mod, Nat.zero_shiftLeft, Nat.zero_or]

theorem firstSource_of_lt {src : BitVec 8} (h : src.toNat < 0x80) : src = 0#1 ++ (src.setWidth 7 : BitVec 7) := by
  rw [BitVec.toNat_eq, (firstSource _).2.2, BitVec.toNat_setWidth]
  omega

theorem topBit_of_ge {src : BitVec 8} (h : 0x80 ≤ src.toNat) : src.getLsbD 7 = true := by
  have hmsb := BitVec.msb_eq_decide src
  exact hmsb.trans (decide_eq_true h)

theorem evenSource (t : BitVec 7) : evenPair (t ++ 0#1) = true ∧ (t ++ 0#1 : BitVec 8) + 1 = t ++ 1#1 := by
  revert t
  decide

theorem moveArfSource_arf (p : BitVec 2) (d : BitVec 9) (k : BitVec 4) (s : State) :
    moveArfSource p d (0#1 ++ arfAM k) s = moveVector p d 1 none (fun s => arfPair s k) s := by
  obtain ⟨h7, hwidth, -⟩ := firstSource (arfAM k)
  simp only [moveArfSource, h7, hwidth, arfVector_arfAM, Bool.false_eq_true, if_false]

theorem moveArfSource_other (p : BitVec 2) (d : BitVec 9) {b : BitVec 7} (hb : ∀ k, b ≠ arfAM k) (s : State) :
    moveArfSource p d (0#1 ++ b) s = moveVector p d 1 (some .vectorFirstBank) (fun _ => (0, 0)) s := by
  obtain ⟨h7, hwidth, -⟩ := firstSource b
  simp only [moveArfSource, h7, hwidth, arfVector_eq_none hb, Bool.false_eq_true, if_false]

theorem moveArfSource_high (p : BitVec 2) (d : BitVec 9) {src : BitVec 8} (h : 0x80 ≤ src.toNat) (s : State) :
    moveArfSource p d src s = moveVector p d 1 (some .movementClass) (fun _ => (0, 0)) s :=
  if_pos (topBit_of_ge h)

/-! ## Vector immediates, movv and movvf (R820, R821, R826, R830, R832) -/

section
variable (p : BitVec 2) (d : BitVec 9) (s : State)

theorem exec_movvf (src : BitVec 8) :
    exec (.movvf p d src) s =
      moveVector p d 3 (if evenPair src then none else some .oddPair) (fun s => pairAt s src) s := rfl

theorem exec_movvf_even (t : BitVec 7) :
    exec (.movvf p d (t ++ 0#1)) s = moveVector p d 3 none (fun _ => (s.rfAt (t ++ 0#1), s.rfAt (t ++ 1#1))) s := by
  obtain ⟨heven, hnext⟩ := evenSource t
  rw [exec_movvf, if_pos heven, moveVector_value, pairAt, hnext]

theorem exec_movvf_odd {src : BitVec 8} (h : ¬IsEven src) :
    exec (.movvf p d src) s = moveVector p d 3 (some .oddPair) (fun s => pairAt s src) s := by
  have hodd : ¬ evenPair src = true := by simpa [evenPair, IsEven] using h
  rw [exec_movvf, if_neg hodd]

end

theorem vectorMove_means (immh imml : BitVec 40) (t : BitVec 7) (k : BitVec 4) (s : State) :
    ∀ r ∈ vectorMoves immh imml t k s, ∀ p d, exec (r.1 p d) s = moveVector p d r.2.1 none (fun _ => r.2.2) s := by
  simp only [vectorMoves, ← List.forall_iff_forall_mem, List.Forall]
  refine ⟨fun _ _ => rfl, fun _ _ => rfl, fun _ _ => rfl, fun p d => exec_movvf_even p d s t, fun p d => ?_⟩
  exact (moveArfSource_arf p d k s).trans (moveVector_value d)

/-- Settles O24: every row is a `moveVector`, which the gate and the destination field decide; a bad source is refused before
the destination is looked at. -/
theorem vectorMovements : Obligations.VectorMovements := by
  refine ⟨fun p n src s h _ => ⟨fun hodd => ?_, fun hlow hsrc => ?_, fun hhigh => ?_⟩, fun immh imml t k s r hr p => ?_⟩
  · rw [exec_movvf_odd p _ s hodd]
    exact moveVector_toRf_bad h n _
  · have hb : ∀ k, src.setWidth 7 ≠ arfAM k := fun k hk => hsrc k (hk ▸ firstSource_of_lt hlow)
    rw [firstSource_of_lt hlow]
    exact (moveArfSource_other p _ hb s).trans (moveVector_toRf_bad h n _)
  · exact (moveArfSource_high p _ hhigh s).trans (moveVector_toRf_bad h n _)
  · simp only [vectorMove_means immh imml t k s r hr]
    exact ⟨fun h n => moveVector_toRf_even h, fun h n => moveVector_toRf_odd h, moveVector_toRf_off, moveVector_toFirst_arf,
      fun h a => moveVector_toFirst_other h, moveVector_fromFirst,
      fun h a => moveVector_first_off h (toFirst_first a).1⟩

/-! ## movs and movss (R813, R831, R834) -/

/-- A movement within the FLOW or the DMA class is refused; one within the ARF class is not (R813). -/
theorem sameClass_iff (c : MoveClass) (a : BitVec 7) : sameClass (some c) a = true ↔ moveClass a ≠ .arf ∧ moveClass a = c := by
  cases c <;> cases h : moveClass a <;> simp [sameClass, h]

theorem readMark_plus (b : BitVec 7) (s : State) (d : Nat) (e : Effect) :
    plus (readMark b s) d e = readMark b (plus s d e) := by
  unfold readMark drawRead
  split <;> rfl

section
variable (p : BitVec 2) (d : BitVec 9) (s : State)

theorem exec_movs (t : BitVec 8) :
    exec (.movs p d t) s =
      moveScalar p d 1 (some (moveClass (t.setWidth 7))) (if t.getLsbD 7 then some .movementClass else none)
        (fun s => (firstRead s (t.setWidth 7)).setWidth 40) (readMark (t.setWidth 7)) s := rfl

/-- movs from the first-bank register b. -/
theorem exec_movs_first (b : BitVec 7) :
    exec (.movs p d (0#1 ++ b)) s =
      moveScalar p d 1 (some (moveClass b)) none (fun s => (firstRead s b).setWidth 40) (readMark b) s := by
  obtain ⟨h7, hwidth, -⟩ := firstSource b
  simp only [exec_movs, h7, hwidth, Bool.false_eq_true, if_false]

/-- movs with a source field of 0x80 or more. -/
theorem exec_movs_high (b : BitVec 7) :
    exec (.movs p d (1#1 ++ b)) s =
      moveScalar p d 1 (some (moveClass b)) (some .movementClass) (fun s => (firstRead s b).setWidth 40) (readMark b) s := by
  have h7 : (1#1 ++ b).getLsbD 7 = true := BitVec.getLsbD_append
  have hwidth : (1#1 ++ b).setWidth 7 = b := BitVec.setWidth_append_eq_right
  simp only [exec_movs, h7, hwidth, if_true]

/-- The 16-bit ARF field at address a, sign-extended to 32 bits (R834). -/
def signedField (a : Nat) (s : State) : Word40 := (((arfRead s a).setWidth 16 : BitVec 16).signExtend 32).setWidth 40

theorem exec_movss (t : BitVec 8) :
    exec (.movss p d t) s =
      moveScalar p d 1 none
        (if 0x24 ≤ t.toNat && t.toNat < 0x64 && d.getLsbD 8 then none else some .movementClass) (signedField t.toNat) id s :=
  rfl

/-- movss from a 16-bit ARF field toward RF. -/
theorem exec_movss_field {b : BitVec 7} (hlo : 0x24 ≤ b.toNat) (hhi : b.toNat < 0x64) (n : BitVec 8) :
    exec (.movss p (toRf n) (0#1 ++ b)) s = moveScalar p (toRf n) 1 none none (signedField b.toNat) id s := by
  simp only [exec_movss, (toRf_rf n).1, (firstSource b).2.2, hlo, hhi, decide_true, Bool.and_true, if_true]

variable {d}

/-- movss toward the first bank, or from what is no 16-bit ARF field. -/
theorem exec_movss_bad {t : BitVec 8} (h : d.getLsbD 8 = false ∨ t.toNat < 0x24 ∨ 0x64 ≤ t.toNat) :
    exec (.movss p d t) s = moveScalar p d 1 none (some .movementClass) (signedField t.toNat) id s := by
  have hbad : ¬ (0x24 ≤ t.toNat && t.toNat < 0x64 && d.getLsbD 8) = true := by
    simp only [Bool.and_eq_true, decide_eq_true_eq]
    rintro ⟨⟨hlo, hhi⟩, hrf⟩
    rcases h with h | h | h
    · exact Bool.false_ne_true (h.symm.trans hrf)
    · omega
    · omega
  rw [exec_movss, if_neg hbad]

end

/-- A 16-bit ARF field reads in the first bank as in the ARF (R110). -/
theorem firstRead_field {b : BitVec 7} (hlo : 0x24 ≤ b.toNat) (hhi : b.toNat < 0x64) (s : State) :
    firstRead s b = arfRead s b.toNat :=
  (if_neg (by omega)).trans (if_pos hhi)

/-- Settles O25: movs and movss are scalar movements with a source class, or with a refusal for their source field. -/
theorem registerMovements : Obligations.RegisterMovements := by
  intro p b s v
  refine ⟨?rf, ?rfHigh, ?first, ?sameClass, ?signed, ?signedBad, ?pc, ?firstHigh, ?signedFirst, ?fromFirst, ?differ, ?none, ?off⟩
  case rf =>
    intro h n
    rw [exec_movs_first, moveScalar_toRf_on h, readMark_plus]
  case rfHigh =>
    intro h n
    rw [exec_movs_high, moveScalar_toRf_bad h]
  case first =>
    intro h a hclass hpc
    have hother : ¬ sameClass (some (moveClass b)) a = true := by
      rw [sameClass_iff]
      tauto
    rw [exec_movs_first, moveScalar_toFirst h, if_neg hother, if_neg hpc, readMark_plus]
    rfl
  case sameClass =>
    intro h a harf hclass
    rw [exec_movs_first, moveScalar_toFirst h, if_pos ((sameClass_iff _ a).mpr ⟨harf, hclass⟩)]
  case signed =>
    intro h n hlo hhi
    rw [exec_movss_field p s hlo hhi, moveScalar_toRf_on h, signedField, firstRead_field hlo hhi]
    rfl
  case signedBad =>
    intro h n t ht
    rw [exec_movss_bad p s (.inr ht), moveScalar_toRf_bad h]
  case pc =>
    intro h hclass
    have hother : ¬ sameClass (some (moveClass b)) 0x08 = true := fun hsame => hclass ((sameClass_iff _ _).mp hsame).2.symm
    rw [exec_movs_first, moveScalar_toFirst h, if_neg hother, if_pos rfl]
  case firstHigh =>
    intro h a
    rw [exec_movs_high, moveScalar_toFirst_bad h]
  case signedFirst =>
    intro h a t
    rw [exec_movss_bad p s (.inl (toFirst_first a).1), moveScalar_toFirst_bad h]
  case fromFirst => exact fun h a t => by simp only [exec_movs, exec_movss, moveScalar_fromFirst h, and_self]
  case differ => exact fun h n t => by simp only [exec_movs, exec_movss, moveScalar_toRf_differ h, and_self]
  case none => exact fun h n t => by simp only [exec_movs, exec_movss, moveScalar_toRf_off h, and_self]
  case off =>
    intro h a t
    simp only [exec_movs, exec_movss, moveScalar_first_off h (toFirst_first a).1, moveScalar_first_off h (fromFirst_first a).1,
      and_self]

end Sys2Proof.Machine
end

section
/-! SUPPORT. FLOW conditions (spec 47): the condition stacks by their bits, and what a predicate-setting operation schedules and
leaves in MGCPRED when it lands. -/

namespace Sys2Proof.Machine

open Sys2Proof.Claims

/-! ## One condition stack (R851, R864) -/

/-- A word with one bit put below it, as the bits of its new top and of the elements above. -/
theorem getLsbD_append_ofBool {n : Nat} (x : BitVec n) (b : Bool) (i : Nat) :
    (x ++ BitVec.ofBool b).getLsbD i = if i = 0 then b else x.getLsbD (i - 1) := by
  rw [BitVec.getLsbD_append]
  cases i <;> simp

theorem pushBit_eq_pushed (st : BitVec 16) (b : Bool) : pushBit st b = pushed st b := by
  refine BitVec.eq_of_getLsbD_eq fun i hi => ?_
  rw [pushed, getLsbD_append_ofBool]
  cases i with
  | zero => simp [pushBit]
  | succ i => simp [pushBit, hi, show i < 15 by omega, Nat.lt_of_succ_lt hi]

/-- A pop fills bit 15 with 0 (D14). -/
theorem popBit_eq_popped (st : BitVec 16) : popBit st = popped st := by
  refine BitVec.eq_of_getLsbD_eq fun i hi => ?_
  rw [popped, BitVec.getLsbD_append]
  by_cases h15 : i = 15
  · subst h15
    simp [popBit, Config.stackPopFill]
  · simp [popBit, Config.stackPopFill, show i < 15 by omega]

theorem putBit_top_eq_topped (st : BitVec 16) (b : Bool) : putBit st 0 b = topped st b := by
  refine BitVec.eq_of_getLsbD_eq fun i hi => ?_
  rw [getLsbD_putBit st 0 i b hi, topped, getLsbD_append_ofBool]
  cases i with
  | zero => rfl
  | succ i => simp [show i < 15 by omega, Nat.add_comm]

theorem swapTop_eq_swapped (st : BitVec 16) : swapTop st = swapped st := by
  refine BitVec.eq_of_getLsbD_eq fun i hi => ?_
  rw [swapTop, getLsbD_putBit _ _ _ _ hi, getLsbD_putBit _ _ _ _ hi, swapped, getLsbD_append_ofBool, getLsbD_append_ofBool]
  match i with
  | 0 => rfl
  | 1 => rfl
  | i + 2 => simp [show i < 14 by omega, Nat.add_comm]

/-! ## The rows of the stack operations (R853 to R867) -/

/-- With the primitives of R851 and R864 the model's own, each row is its operation's definition. -/
theorem stackRow_means : ∀ r ∈ stackRows, ∀ p s,
    exec (r.1 p) s = stackOp p (fun s => r.2 s.regs.cond (stack0 s) (stack1 s)) s := by
  simp only [stackRows, ← List.forall_iff_forall_mem, List.Forall, ← pushBit_eq_pushed, ← popBit_eq_popped,
    ← putBit_top_eq_topped, ← swapTop_eq_swapped]
  and_intros <;> intros <;> rfl

/-- Settles O26: every row is a `stackOp`, gated by G. -/
theorem stackOperations : Obligations.StackOperations := by
  intro r hr p s q
  rw [stackRow_means r hr]
  exact ⟨fun h => flowOp_on h, fun h => flowOp_off h⟩

/-! ## The bits of one predication register (R50) -/

/-- The bits of a gate in the place of predication register r, every other bit 0. -/
def gateBits (r : BitVec 2) (g : Gate) : BitVec 16 :=
  flag 16 (3 * r.toNat) g.c0 ||| flag 16 (3 * r.toNat + 1) g.c1 ||| flag 16 (3 * r.toNat + 2) g.g

theorem getLsbD_gateBits (r : BitVec 2) (g : Gate) (i : Nat) : (gateBits r g).getLsbD i =
    ((g.c0 && decide (3 * r.toNat = i)) || (g.c1 && decide (3 * r.toNat + 1 = i)) || (g.g && decide (3 * r.toNat + 2 = i))) := by
  have hr := r.isLt
  simp [gateBits, show 3 * r.toNat < 16 by omega, show 3 * r.toNat + 1 < 16 by omega, show 3 * r.toNat + 2 < 16 by omega]

/-- A register's place holds what was put there. -/
theorem gateBits_same (r : BitVec 2) (g : Gate) : (gateBits r g).getLsbD (3 * r.toNat) = g.c0 ∧
    (gateBits r g).getLsbD (3 * r.toNat + 1) = g.c1 ∧ (gateBits r g).getLsbD (3 * r.toNat + 2) = g.g := by
  simp [getLsbD_gateBits]

/-- The bits of MGCPRED outside a register's place, predmode among them. -/
theorem gateBits_other (r : BitVec 2) (g : Gate) {i : Nat} (h : i / 3 ≠ r.toNat) :
    (gateBits r g).getLsbD i = false := by
  rw [getLsbD_gateBits, decide_eq_false (by omega), decide_eq_false (by omega), decide_eq_false (by omega)]
  simp

/-! ## MGCPRED under such a mask -/

theorem getLsbD_setPred (s : State) (m v : BitVec 16) {i : Nat} (hi : i < 15) :
    (s.setPred m v).regs.pred.getLsbD i = if m.getLsbD i then v.getLsbD i else s.regs.pred.getLsbD i := by
  have h15 : (0x7FFF : BitVec 16).getLsbD i = true := by revert i; decide
  show (blend s.regs.pred (m &&& 0x7FFF) v).getLsbD i = _
  rw [getLsbD_blend _ _ _ _ (by omega), BitVec.getLsbD_and, h15, Bool.and_true]

/-- The register under the mask takes the bits that the mask names. -/
theorem predReg_setPred_same (s : State) (r : BitVec 2) (m v : Gate) :
    predReg (s.setPred (gateBits r m) (gateBits r v)) r =
      { g := if m.g then v.g else (predReg s r).g, c0 := if m.c0 then v.c0 else (predReg s r).c0,
        c1 := if m.c1 then v.c1 else (predReg s r).c1 } := by
  have hr := r.isLt
  obtain ⟨hm0, hm1, hmg⟩ := gateBits_same r m
  obtain ⟨hv0, hv1, hvg⟩ := gateBits_same r v
  simp only [predReg, getLsbD_setPred s _ _ (show 3 * r.toNat < 15 by omega),
    getLsbD_setPred s _ _ (show 3 * r.toNat + 1 < 15 by omega), getLsbD_setPred s _ _ (show 3 * r.toNat + 2 < 15 by omega),
    hm0, hm1, hmg, hv0, hv1, hvg]

/-- A bit outside the place of the register under the mask stays. -/
theorem getLsbD_setPred_other (s : State) (r : BitVec 2) (m v : Gate) {i : Nat} (hi : i < 15) (h : i / 3 ≠ r.toNat) :
    (s.setPred (gateBits r m) (gateBits r v)).regs.pred.getLsbD i = s.regs.pred.getLsbD i := by
  rw [getLsbD_setPred s _ _ hi, gateBits_other r m h, if_neg Bool.false_ne_true]

theorem predReg_setPred_other (s : State) {q r : BitVec 2} (m v : Gate) (h : q ≠ r) :
    predReg (s.setPred (gateBits r m) (gateBits r v)) q = predReg s q := by
  have hq := q.isLt
  have hne : q.toNat ≠ r.toNat := fun e => h (BitVec.eq_of_toNat_eq e)
  simp only [predReg, getLsbD_setPred_other s r m v (show 3 * q.toNat < 15 by omega) (by omega),
    getLsbD_setPred_other s r m v (show 3 * q.toNat + 1 < 15 by omega) (by omega),
    getLsbD_setPred_other s r m v (show 3 * q.toNat + 2 < 15 by omega) (by omega)]

theorem predmode_setPred (s : State) (r : BitVec 2) (m v : Gate) :
    predmode (s.setPred (gateBits r m) (gateBits r v)) = predmode s := by
  have hr := r.isLt
  refine BitVec.eq_of_getLsbD_eq fun i hi => ?_
  simp only [predmode, BitVec.getLsbD_extractLsb', hi, decide_true, Bool.true_and]
  exact getLsbD_setPred_other s r m v (by omega) (by omega)

/-! ## What a predicate-setting operation schedules (R870, R871) -/

/-- G by predmode, where it takes a new value. -/
def gOfMode (mode : BitVec 3) (x0 x1 : Bool) : Bool :=
  if mode = 0 then x0 else if mode = 1 then x0 || x1 else x0 && x1

/-- The modes that the spec gives a meaning (U3). -/
theorem mode_defined {mode : BitVec 3} (h : mode ≤ 3) : mode = 0 ∨ mode = 1 ∨ mode = 2 ∨ mode = 3 := by
  revert mode
  decide

theorem setPredReg_defined {s : State} (h : predmode s ≤ 3) (r : BitVec 2) (x0 x1 : Bool) :
    setPredReg r.toNat x0 x1 s = .next (plus s 1 (.pred (gateBits r ⟨predmode s != 3, true, true⟩)
      (gateBits r ⟨gOfMode (predmode s) x0 x1, x0, x1⟩))) := by
  have hmode : s.regs.pred.extractLsb' 12 3 = predmode s := rfl
  rw [setPredReg, hmode]
  rcases mode_defined h with hm | hm | hm | hm <;> rw [hm] <;> rfl

theorem setPredReg_undefined {s : State} (h : 3 < predmode s) (r : Nat) (x0 x1 : Bool) :
    setPredReg r x0 x1 s = .refused .predmodeUndefined :=
  if_pos (BitVec.lt_def.mp h)

/-- G of the destination after the landing: new under predmode 0 to 2, kept under 3. -/
theorem gOfMode_kept {mode : BitVec 3} (h : mode ≤ 3) (x0 x1 old : Bool) :
    (if mode != 3 then gOfMode mode x0 x1 else old) =
      if mode = 0 then x0 else if mode = 1 then x0 || x1 else if mode = 2 then x0 && x1 else old := by
  rcases mode_defined h with rfl | rfl | rfl | rfl <;> rfl

/-- The pending update lands as R870 says: it has one register under its mask, whose new bits it holds. -/
theorem setPredReg_setsPred (s : State) (r : BitVec 2) (x0 x1 : Bool) :
    SetsPred s r x0 x1 (setPredReg r.toNat x0 x1 s) := by
  refine ⟨fun h => ⟨_, _, setPredReg_defined h r x0 x1, fun u hpend hports => ?_⟩, fun h => setPredReg_undefined h _ _ _⟩
  have hsame := predReg_setPred_same { u with pend := [] } r ⟨predmode s != 3, true, true⟩ ⟨gOfMode (predmode s) x0 x1, x0, x1⟩
  refine ⟨_, land_operation hports hpend rfl rfl, rfl, ?_, ?_, ?_, fun q hq => ?_, ?_⟩
  · exact congrArg Gate.c0 hsame
  · exact congrArg Gate.c1 hsame
  · exact (congrArg Gate.g hsame).trans (gOfMode_kept h x0 x1 _)
  · exact predReg_setPred_other _ _ _ hq
  · exact predmode_setPred _ r _ _

/-! ## The operations (R872 to R880) -/

/-- The tops of both stacks in MGCSTKIQ (R850). -/
theorem stack0_top (s : State) : (stack0 s).getLsbD 0 = s.regs.stkiq.getLsbD 0 := by
  simp [stack0]

theorem stack1_top (s : State) : (stack1 s).getLsbD 0 = s.regs.stkiq.getLsbD 16 := by
  simp [stack1]

/-- With the tops read where the model reads them, each row is its operation's definition. -/
theorem predRow_means : ∀ o ∈ predRows, ∀ p r s, exec (o.1 p r) s = predOp p r (fun s => o.2 s r) s := by
  simp only [predRows, ← List.forall_iff_forall_mem, List.Forall, ← stack0_top, ← stack1_top]
  and_intros <;> intros <;> rfl

theorem exec_setnotp (p r : BitVec 2) (s : State) : exec (.setnotp p r) s = flowOp p (fun s =>
    if r = 3 then .refused .setnotpRegister else setPredReg (r.toNat + 1) (!(predReg s r).c0) (!(predReg s r).c1) s) s := rfl

/-- Settles O27: each operation is `setPredReg` of its register and bits, under G where it is predicated. -/
theorem predicateSetting : Obligations.PredicateSetting := by
  intro p r s
  refine ⟨fun o ho => ?rows, setPredReg_setsPred s r true true, fun imm => setPredReg_setsPred s r _ _, ?next, ?last, ?off⟩
  case rows =>
    rw [predRow_means o ho]
    refine ⟨fun h => ?_, fun h => flowOp_off h⟩
    rw [predOp, flowOp_on h]
    exact setPredReg_setsPred s r _ _
  case next =>
    intro h hr
    have hsucc : (r + 1).toNat = r.toNat + 1 := by revert r; decide
    rw [exec_setnotp, flowOp_on h, if_neg hr, ← hsucc]
    exact setPredReg_setsPred s (r + 1) _ _
  case last =>
    intro h
    rw [exec_setnotp, flowOp_on h, if_pos rfl]
  case off => exact fun h => (exec_setnotp p r s).trans (flowOp_off h)

end Sys2Proof.Machine
end

section
/-! SUPPORT. FLOW control (spec 48): jumps under their condition, the changes of swpipe and the stage window, sleep near a page end,
and what writedma and readdma record before they start. -/

namespace Sys2Proof.Machine

open Sys2Proof.Claims

/-! ## Operations under G (R340) -/

section
variable {i : Instr} {p : BitVec 2} {f : State → Res} {s : State}

/-- An instruction whose meaning is a `flowOp` acts when G is 1, and changes nothing when it is 0. -/
theorem exec_flowOn (hi : exec i s = flowOp p f s) (h : FlowOn p s) : exec i s = f s := hi.trans (flowOp_on h)

theorem exec_flowOff (hi : exec i s = flowOp p f s) (h : FlowOff p s) : exec i s = .next s := hi.trans (flowOp_off h)

end

section
variable (p : BitVec 2) (s : State)

theorem exec_ret : exec (.ret p) s = flowOp p (fun s => .next (servicePoint (transfer s.regs.stk s))) s := rfl
theorem exec_reti : exec (.reti p) s = flowOp p (fun s => .next (returnFromInterrupt s)) s := rfl
theorem exec_repb (len : BitVec 16) : exec (.repb p len) s = flowOp p (fun s => .next
    (servicePoint (plus s 1 (.rept ((s.regs.pc + 3) ++ (s.regs.pc + len - 1 + 3)))))) s := rfl
theorem exec_watchint : exec (.watchint p) s = flowOp p (fun s => .next (servicePoint s)) s := rfl
theorem exec_halt : exec (.halt p) s = flowOp p (fun s => .next (s.setMode { s.mode with halt := true })) s := rfl
theorem exec_sirq (n : BitVec 2) : exec (.sirq p n) s = flowOp p (fun s => .next (sirqLine n s)) s := rfl
theorem exec_sleepon :
    exec (.sleepon p) s = flowOp p (fun s => if sleepOk s then .next (enterSleep s) else .refused .sleepPageEnd) s := rfl
theorem exec_writedma : exec (.writedma p) s = flowOp p (dmaSleep false) s := rfl
theorem exec_readdma : exec (.readdma p) s = flowOp p (dmaSleep true) s := rfl

end

/-! ## Jumps, calls and returns (R901 to R909) -/

theorem jcond_eq_jumpHolds (s : State) (jt : BitVec 8) : jcond s jt = jumpHolds s jt := rfl

/-- A conditional operation goes on with `after` of its effect when the condition holds, else with `after` of no effect. -/
theorem jumpOp_jumps (p : BitVec 2) (jt : BitVec 8) (f after : State → State) (s : State) :
    Jumps p jt s (jumpOp p jt f after s) (after (f s)) (after s) := by
  refine ⟨fun h => ?_, fun h => flowOp_off h⟩
  rw [jumpOp, flowOp_on h, jcond_eq_jumpHolds]
  cases jumpHolds s jt with
  | none => rfl
  | some b => cases b <;> rfl

/-- With no delay slot (D2) a call links to the word after it (R906). -/
theorem link_eq (s : State) : link s = plus s 1 (.stk (s.regs.pc + 1)) := by
  rw [link, Config.branchDelaySlots, BitVec.ofNat_eq_ofNat, BitVec.add_zero]
  rfl

theorem returnFromInterrupt_serving {s : State} (h : s.mode.interrupt = true) :
    returnFromInterrupt s = { s with npc := some s.ints.ret, mode := { s.mode with interrupt := false } } := if_pos h

theorem returnFromInterrupt_outside {s : State} (h : s.mode.interrupt = false) : returnFromInterrupt s = raise .rtierr s :=
  if_neg (ne_true_of_eq_false h)

/-- Settles O28: the four conditional operations are a `jumpOp`, ret and reti are gated by G alone. -/
theorem jumpsCallsReturns : Obligations.JumpsCallsReturns := by
  intro p jt off s
  refine ⟨jumpOp_jumps p jt (fun s => transfer (s.regs.pc + off) s) servicePoint s,
    jumpOp_jumps p jt (fun s => transfer s.regs.branch s) servicePoint s, ?call, ?callReg, fun h => exec_flowOn (exec_ret p s) h,
    fun h hi => ?serving, fun h hi => ?outside, fun h => ⟨exec_flowOff (exec_ret p s) h, exec_flowOff (exec_reti p s) h⟩⟩
  case call =>
    have hcall := jumpOp_jumps p jt (fun s => link (transfer (s.regs.pc + off) s)) id s
    rwa [link_eq] at hcall
  case callReg =>
    have hcall := jumpOp_jumps p jt (fun s => link (transfer s.regs.branch s)) id s
    rwa [link_eq] at hcall
  case serving => rw [exec_flowOn (exec_reti p s) h, returnFromInterrupt_serving hi]
  case outside => rw [exec_flowOn (exec_reti p s) h, returnFromInterrupt_outside hi]

/-! ## Loops (R912, R920 to R922) -/

theorem gateOf_softpipe {s : State} (h : s.mode.softpipe = true) (p : BitVec 2) : gateOf s p = predReg s 0 := by
  rw [gateOf, if_pos h]

theorem gateOf_plain {s : State} (h : s.mode.softpipe = false) (p : BitVec 2) : gateOf s p = predReg s p := by
  rw [gateOf, if_neg (ne_true_of_eq_false h)]

theorem issueGate_plain {s : State} (h : s.mode.softpipe = false) (i : Issue) (p : BitVec 2) :
    issueGate s i p = predReg s p := by
  rw [issueGate, h, Bool.false_and, if_neg Bool.false_ne_true, gateOf_plain h]

/-- In a software-pipelined loop an issue runs in its stage window and in no other loop-cycle (R921). -/
theorem issueGate_softpipe {s : State} (h : s.mode.softpipe = true) (i : Issue) (p : BitVec 2) :
    issueGate s i p = if stageWindow s i then predReg s 0 else Gate.off := by
  rw [issueGate, h, Bool.true_and, gateOf_softpipe h]
  cases stageWindow s i <;> rfl

/-- Settles O29: the operations by their definitions, a landing as that of one operation, the gates by the stage window. -/
theorem loopOperations : Obligations.LoopOperations := by
  refine ⟨fun p len k s => ⟨fun h => exec_flowOn (exec_repb p s len) h, fun h => exec_flowOff (exec_repb p s len) h,
    fun hi => ?on, fun hi => ?isr, rfl⟩,
    fun k v s hports => ⟨fun h => land_operation hports h rfl rfl, fun h => land_operation hports h rfl rfl⟩,
    fun p s => ⟨fun h => gateOf_plain h p, fun h => gateOf_softpipe h p⟩,
    ?window⟩
  case on => simp [exec, execSwpipe, hi, plus, State.later]
  case isr => simp [exec, execSwpipe, hi]
  case window =>
    intro i p s _ n k st
    have hw : stageWindow s i = true ↔ st ≤ k ∧ k < st + n := by
      rw [stageWindow, Bool.and_eq_true, decide_eq_true_eq, decide_eq_true_eq]
    refine ⟨fun h => issueGate_plain h i p, fun h hlo hhi => ?_, fun h hout => ?_⟩
    · rw [issueGate_softpipe h, if_pos (hw.mpr ⟨hlo, hhi⟩)]
    · rw [issueGate_softpipe h, if_neg (mt hw.mp (by omega))]
      rfl

/-! ## Sleep, lines and halt (R925 to R931) -/

/-- Sleep is allowed with the PMU off, and away from the end of a page (R926). -/
theorem sleepOk_iff (s : State) :
    sleepOk s = true ↔ s.mode.pmuen = false ∨ (s.regs.pc.setWidth 10 : BitVec 10) ≤ 0x3FC := by
  have hle : (s.regs.pc.setWidth 10 : BitVec 10) ≤ 0x3FC ↔ ¬ 0x3FC < (s.regs.pc.setWidth 10 : BitVec 10).toNat :=
    BitVec.le_def.trans not_lt.symm
  rw [hle, sleepOk]
  cases s.mode.pmuen <;> simp

theorem sleepOk_pageEnd {s : State} (hon : s.mode.pmuen = true) (h : 0x3FC < (s.regs.pc.setWidth 10 : BitVec 10)) :
    sleepOk s = false := by
  rw [← Bool.not_eq_true, sleepOk_iff, hon]
  exact fun hok => hok.elim Bool.noConfusion fun hle => absurd h (BitVec.not_lt.mpr hle)

/-- Settles O30: each operation is a `flowOp`; sleepon looks at the place in the page. -/
theorem watchHaltSleepLines : Obligations.WatchHaltSleepLines := by
  intro p s
  refine ⟨fun h => ⟨exec_flowOn (exec_watchint p s) h, exec_flowOn (exec_halt p s) h, exec_flowOn (exec_sirq p s 0) h,
    exec_flowOn (exec_sirq p s 1) h, exec_flowOn (exec_sirq p s 2) h, exec_flowOn (exec_sirq p s 3) h, fun hok => ?_,
    fun hon hend => ?_⟩, fun h => ?_⟩
  · rw [exec_flowOn (exec_sleepon p s) h, if_pos ((sleepOk_iff s).mpr hok)]
    rfl
  · rw [exec_flowOn (exec_sleepon p s) h, sleepOk_pageEnd hon hend]
    rfl
  · simp only [← List.forall_iff_forall_mem, List.Forall]
    exact ⟨exec_flowOff (exec_watchint p s) h, exec_flowOff (exec_halt p s) h, exec_flowOff (exec_sleepon p s) h,
      exec_flowOff (exec_sirq p s 0) h, exec_flowOff (exec_sirq p s 1) h, exec_flowOff (exec_sirq p s 2) h,
      exec_flowOff (exec_sirq p s 3) h⟩

/-! ## DMA start with sleep (R932, R933) -/

/-- The word that writedma and readdma write to MGCWAKECTRL adds the wake-up on the EOT of the channel and clears the events. -/
theorem wakeCtrl_eot (c : BitVec 2) (i : Ints) : wakeCtrl (bitAt 24 (16 + 2 * c.toNat)) i =
    { i with wakeEot := i.wakeEot ||| (1#4 <<< c.toNat), wakeIntEv := 0, wakeEotEv := 0 } := by
  have hc := c.isLt
  have hint : (List.range 8).foldl (fun a x => putBit a x ((a.getLsbD x || (bitAt 24 (16 + 2 * c.toNat)).getLsbD (2 * x)) &&
      !(bitAt 24 (16 + 2 * c.toNat)).getLsbD (2 * x + 1))) i.wakeInt = i.wakeInt := by
    refine BitVec.eq_of_getLsbD_eq fun k hk => ?_
    rw [getLsbD_foldl_putBit (fun x b => (b || (bitAt 24 (16 + 2 * c.toNat)).getLsbD (2 * x)) &&
      !(bitAt 24 (16 + 2 * c.toNat)).getLsbD (2 * x + 1)) _ _ _ hk, if_pos hk, getLsbD_bitAt, getLsbD_bitAt,
      decide_eq_false (p := 16 + 2 * c.toNat = 2 * k) (by omega),
      decide_eq_false (p := 16 + 2 * c.toNat = 2 * k + 1) (by omega)]
    simp
  have heot : (List.range 4).foldl (fun a x => putBit a x ((a.getLsbD x ||
      (bitAt 24 (16 + 2 * c.toNat)).getLsbD (16 + 2 * x)) && !(bitAt 24 (16 + 2 * c.toNat)).getLsbD (17 + 2 * x))) i.wakeEot =
      i.wakeEot ||| (1#4 <<< c.toNat) := by
    refine BitVec.eq_of_getLsbD_eq fun k hk => ?_
    rw [getLsbD_foldl_putBit (fun x b => (b || (bitAt 24 (16 + 2 * c.toNat)).getLsbD (16 + 2 * x)) &&
      !(bitAt 24 (16 + 2 * c.toNat)).getLsbD (17 + 2 * x)) _ _ _ hk, if_pos hk, getLsbD_bitAt, getLsbD_bitAt,
      decide_eq_false (p := 16 + 2 * c.toNat = 17 + 2 * k) (by omega), ← BitVec.twoPow_eq, BitVec.getLsbD_or,
      BitVec.getLsbD_twoPow]
    simp [show 16 + 2 * c.toNat < 24 by omega, show c.toNat < 4 from hc]
  unfold wakeCtrl
  dsimp only
  rw [hint, heot]

/-- What writedma and readdma leave of the wake-up registers before they start (R932). -/
def eotWaking (s : State) : State := { s with
  ints := { s.ints with wakeEot := s.ints.wakeEot ||| (1#4 <<< s.dma.active.toNat), wakeIntEv := 0, wakeEotEv := 0 } }

theorem dmaSleep_eq {s : State} (h : sleepOk s = true) (isRead : Bool) : dmaSleep isRead s =
    andThen (dmaStart isRead s.dma.active (eotWaking s)) fun t => .next (enterSleep t) := by
  unfold dmaSleep
  simp only [h, wakeCtrl_eot]
  rfl

theorem dmaSleep_pageEnd {s : State} (h : sleepOk s = false) (isRead : Bool) :
    dmaSleep isRead s = .refused .sleepPageEnd := by
  rw [dmaSleep, h]
  rfl

theorem exec_dmaSleep {o : BitVec 2 → Instr} {isRead : Bool}
    (ho : (o, isRead) = (.writedma, false) ∨ (o, isRead) = (.readdma, true)) (p : BitVec 2) (s : State) :
    exec (o p) s = flowOp p (dmaSleep isRead) s := by
  rcases ho with ho | ho
  · cases ho
    exact exec_writedma p s
  · cases ho
    exact exec_readdma p s

/-- Settles O31: the place in the page, then the start on the active channel with its checks, then sleep. -/
theorem dmaSleepOperations : Obligations.DmaSleepOperations := by
  intro p s o isRead ho c t
  rw [exec_dmaSleep ho]
  have hstart := dmaStart_eq (s := s) (t := eotWaking s) rfl isRead c
  rw [show chanBusy (eotWaking s) c = chanBusy s c from rfl] at hstart
  refine ⟨fun h hplace => ?_, fun h hon hend => ?_, fun h hon hplace hc => ?_, fun h => flowOp_off h⟩
  · have hopen : ¬ (s.mode.pmuen = true ∧ c = 3) := by
      rintro ⟨hon, hc⟩
      rcases hplace with hoff | ⟨-, hne⟩
      · rw [hoff] at hon; cases hon
      · exact hne hc
    rw [if_neg hopen] at hstart
    rw [flowOp_on h, dmaSleep_eq ((sleepOk_iff s).mpr (hplace.imp_right And.left)), hstart]
    refine ⟨fun hfree => ?_, fun hbusy => ?_⟩
    · rw [if_neg (ne_true_of_eq_false hfree)]
      rfl
    · rw [if_pos hbusy, andThen_next, enterSleep, raise_mode]
      rfl
  · rw [flowOp_on h, dmaSleep_pageEnd (sleepOk_pageEnd hon hend)]
  · rw [if_pos ⟨hon, hc⟩] at hstart
    rw [flowOp_on h, dmaSleep_eq ((sleepOk_iff s).mpr (.inr hplace)), hstart]
    rfl

end Sys2Proof.Machine
end

section
/-! SUPPORT. The PMU (spec 49 sections 1 to 3): translation, the search for a page, its descriptors, misses and prefetches. -/

namespace Sys2Proof.Machine

open Sys2Proof.Claims

/-! ## Translation (R961, R962) -/

theorem physOf_on {s : State} (h : s.mode.pmuen = true) (a : BitVec 16) :
    physOf s a = match s.pmu.xlate a with
      | .hit p => some p
      | _ => none := if_pos h

theorem physOf_off {s : State} (h : s.mode.pmuen = false) (a : BitVec 16) :
    physOf s a = opt (decide (a.toNat ≤ 0x1FFF)) (a.setWidth 13) := by
  simp [physOf, opt, h]

/-- An address translates exactly when its page is mapped and its chunk present. -/
theorem physOf_on_eq_opt {s : State} (h : s.mode.pmuen = true) (a : BitVec 16) :
    physOf s a = opt ((s.pmu.virtAt (pageOf a)).getLsbD 0 &&
        (s.pmu.mappedAt ((s.pmu.virtAt (pageOf a)).extractLsb' 3 3)).getLsbD (16 + (chunkOf a).toNat))
      ((s.pmu.virtAt (pageOf a)).extractLsb' 3 3 ++ (a.setWidth 10 : BitVec 10)) := by
  rw [physOf_on h, Pmu.xlate]
  dsimp only
  cases hmap : (s.pmu.virtAt (pageOf a)).getLsbD 0 with
  | false => rfl
  | true =>
    rw [Bool.true_and, if_pos rfl]
    cases hchunk : (s.pmu.mappedAt ((s.pmu.virtAt (pageOf a)).extractLsb' 3 3)).getLsbD (16 + (chunkOf a).toNat) <;> rfl

theorem touchPage_on {s : State} (h : s.mode.pmuen = true) (a : BitVec 16) :
    (touchPage a s).pmu.virtAt (pageOf a) = s.pmu.virtAt (pageOf a) ||| 4 := by
  rw [touchPage, if_pos h, setPmu_pmu, virtAt_setVirt, if_pos rfl]
  rfl

/-! ## The page found (R970) -/

theorem mapped_entry : ∀ v : BitVec 6, v.setWidth 32 ||| bitAt 32 6 = (0#25 ++ 1#1 ++ v : BitVec 32) := by decide

/-- A descriptor takes page q and map, and keeps fixed and ref whatever became of its own map. -/
theorem virt_entry : ∀ (q : BitVec 3) (d : BitVec 6),
    q ++ ((d.setWidth 3 : BitVec 3) ||| bitAt 3 0) = (q ++ (d.extractLsb' 1 2 : BitVec 2) ++ 1#1 : BitVec 6) ∧
      ((d &&& ~~~(bitAt 6 0)).extractLsb' 1 2 : BitVec 2) = d.extractLsb' 1 2 := by decide

/-- The virtual page that a physical page held loses its map bit. -/
def Pmu.unmap (p : Pmu) (q : BitVec 3) : Pmu :=
  if (p.mappedAt q).getLsbD 6 then
    p.setVirt ((p.mappedAt q).setWidth 6) (p.virtAt ((p.mappedAt q).setWidth 6) &&& ~~~(bitAt 6 0)) else p

theorem virtAt_unmap (p : Pmu) (q : BitVec 3) (x : BitVec 6) : (p.unmap q).virtAt x =
    if (p.mappedAt q).getLsbD 6 = true ∧ (p.mappedAt q).extractLsb' 0 6 = x then p.virtAt x &&& ~~~1 else p.virtAt x := by
  rw [Pmu.unmap, ← BitVec.setWidth_eq_extractLsb' (by decide)]
  by_cases hvalid : (p.mappedAt q).getLsbD 6 = true
  · rw [if_pos hvalid, virtAt_setVirt]
    by_cases hx : x = (p.mappedAt q).setWidth 6
    · rw [if_pos hx, if_pos ⟨hvalid, hx.symm⟩, ← hx]
      rfl
    · rw [if_neg hx, if_neg fun h => hx h.2.symm]
  · rw [if_neg hvalid, if_neg fun h => hvalid h.1]

theorem unmap_frame (p : Pmu) (q : BitVec 3) : p.unmap q = { p with virt := (p.unmap q).virt } := by
  unfold Pmu.unmap
  split <;> rfl

theorem mappedAt_unmap (p : Pmu) (q r : BitVec 3) : (p.unmap q).mappedAt r = p.mappedAt r := by
  rw [unmap_frame]
  rfl

theorem mapPage_eq (p : Pmu) (q : BitVec 3) (a : BitVec 16) : p.mapPage q a =
    { ((p.unmap q).setMapped q ((pageOf a).setWidth 32 ||| bitAt 32 6)).setVirt (pageOf a)
        (q ++ ((((p.unmap q).virtAt (pageOf a)).setWidth 3 : BitVec 3) ||| bitAt 3 0)) with physPt := q + 1 } := rfl

theorem mapPage_frame (p : Pmu) (q : BitVec 3) (a : BitVec 16) :
    p.mapPage q a = { p with virt := (p.mapPage q a).virt, mapped := (p.mapPage q a).mapped, physPt := q + 1 } := by
  rw [mapPage_eq, unmap_frame]
  rfl

theorem mappedAt_mapPage (p : Pmu) (q r : BitVec 3) (a : BitVec 16) :
    (p.mapPage q a).mappedAt r = if r = q then 0#25 ++ 1#1 ++ pageOf a else p.mappedAt r := by
  rw [mapPage_eq, ← mappedAt_unmap p q r, ← mapped_entry]
  exact mappedAt_setMapped _ q r _

theorem virtAt_mapPage (p : Pmu) (q : BitVec 3) (a : BitVec 16) (x : BitVec 6) : (p.mapPage q a).virtAt x =
    if x = pageOf a then q ++ ((p.virtAt (pageOf a)).extractLsb' 1 2 : BitVec 2) ++ 1#1 else (p.unmap q).virtAt x := by
  have hentry : q ++ ((((p.unmap q).virtAt (pageOf a)).setWidth 3 : BitVec 3) ||| bitAt 3 0) =
      (q ++ ((p.virtAt (pageOf a)).extractLsb' 1 2 : BitVec 2) ++ 1#1 : BitVec 6) := by
    rw [(virt_entry q _).1, virtAt_unmap]
    split
    · exact congrArg (fun f : BitVec 2 => q ++ f ++ 1#1) (virt_entry q _).2
    · rfl
  rw [mapPage_eq, ← hentry]
  exact virtAt_setVirt _ (pageOf a) x _

/-! ## The search for a page (R971) -/

/-- The page that the search looks at after i others, and the virtual page it holds. -/
def Pmu.pageAfter (p : Pmu) (i : Nat) : BitVec 3 := p.physPt + BitVec.ofNat 3 i
def Pmu.heldAfter (p : Pmu) (i : Nat) : BitVec 6 := (p.mappedAt (p.pageAfter i)).extractLsb' 0 6

/-- m is p after the search has passed n pages: each of them has lost its ref, nothing else has changed. -/
structure Pmu.Passed (p : Pmu) (n : Nat) (m : Pmu) : Prop where
  rest : m = { p with virt := m.virt }
  cleared : ∀ x, (∃ i, i < n ∧ p.heldAfter i = x) → m.virtAt x = p.virtAt x &&& ~~~4
  kept : ∀ x, (∀ i, i < n → p.heldAfter i ≠ x) → m.virtAt x = p.virtAt x

/-- The search does not stop at the page after i others, whatever ref bits those before it have lost. -/
def Pmu.Passes (p : Pmu) (i : Nat) : Prop :=
  (p.mappedAt (p.pageAfter i)).getLsbD 6 = true ∧
    ∀ m, p.Passed i m → (m.virtAt (p.heldAfter i)).getLsbD 1 = true ∨ (m.virtAt (p.heldAfter i)).getLsbD 2 = true

theorem clear_ref_bits : ∀ d : BitVec 6, (d &&& ~~~4).getLsbD 1 = d.getLsbD 1 ∧ (d &&& ~~~4).getLsbD 2 = false ∧
    d &&& ~~~4 &&& ~~~4 = d &&& ~~~4 := by decide

section
variable {p m : Pmu} {n : Nat}

theorem Pmu.passed_zero (p : Pmu) : p.Passed 0 p :=
  ⟨rfl, fun _ ⟨_, hi, _⟩ => absurd hi (Nat.not_lt_zero _), fun _ _ => rfl⟩

variable (h : p.Passed n m)
include h

theorem Pmu.Passed.virtAt_cases (x : BitVec 6) : m.virtAt x = p.virtAt x &&& ~~~4 ∨ m.virtAt x = p.virtAt x := by
  by_cases hx : ∃ i, i < n ∧ p.heldAfter i = x
  · exact .inl (h.cleared x hx)
  · exact .inr (h.kept x fun i hi e => hx ⟨i, hi, e⟩)

/-- A page's ref never shows in fixed. -/
theorem Pmu.Passed.fixed (x : BitVec 6) : (m.virtAt x).getLsbD 1 = (p.virtAt x).getLsbD 1 := by
  rcases h.virtAt_cases x with e | e
  · rw [e, (clear_ref_bits _).1]
  · rw [e]

theorem Pmu.Passed.clear_ref (x : BitVec 6) : m.virtAt x &&& ~~~4 = p.virtAt x &&& ~~~4 := by
  rcases h.virtAt_cases x with e | e
  · rw [e, (clear_ref_bits _).2.2]
  · rw [e]

theorem Pmu.Passed.page : m.physPt + BitVec.ofNat 3 n = p.pageAfter n ∧
    m.mappedAt (p.pageAfter n) = p.mappedAt (p.pageAfter n) := by
  rw [h.rest]
  exact ⟨rfl, rfl⟩

/-- One more page passed. -/
theorem Pmu.Passed.next : p.Passed (n + 1) (m.setVirt (p.heldAfter n) (m.virtAt (p.heldAfter n) &&& ~~~4)) := by
  refine ⟨?_, fun x ⟨i, hi, hx⟩ => ?_, fun x hx => ?_⟩
  · conv_lhs => rw [h.rest]
    rfl
  · rw [virtAt_setVirt]
    split
    · rename_i he
      rw [he, h.clear_ref]
    · rename_i he
      refine h.cleared x ⟨i, ?_, hx⟩
      have hne : i ≠ n := fun e => he (by rw [← hx, e])
      omega
  · rw [virtAt_setVirt, if_neg fun e => hx n (by omega) e.symm]
    exact h.kept x fun i hi => hx i (by omega)

theorem choosePage_next (hp : p.Passes n) (l : List Nat) : choosePage (n :: l) m =
    choosePage l (m.setVirt (p.heldAfter n) (m.virtAt (p.heldAfter n) &&& ~~~4)) := by
  obtain ⟨hpage, hentry⟩ := h.page
  have hbusy := hp.2 m h
  rw [← Bool.or_eq_true] at hbusy
  rw [choosePage]
  simp only [hpage, hentry, hp.1, if_true, BitVec.setWidth_eq_extractLsb' (show 6 ≤ 32 by decide)]
  exact if_pos hbusy

/-- The search stops at a page that holds nothing, or neither a fixed nor a used one. -/
theorem choosePage_stop (hfree : ¬ (p.mappedAt (p.pageAfter n)).getLsbD 6 = true ∨
      (¬ (p.virtAt (p.heldAfter n)).getLsbD 1 = true ∧ ¬ (m.virtAt (p.heldAfter n)).getLsbD 2 = true)) (l : List Nat) :
    choosePage (n :: l) m = (some (p.pageAfter n), m) := by
  obtain ⟨hpage, hentry⟩ := h.page
  rw [choosePage]
  simp only [hpage, hentry, BitVec.setWidth_eq_extractLsb' (show 6 ≤ 32 by decide)]
  rcases hfree with hinvalid | ⟨hfixed, hused⟩
  · rw [if_neg hinvalid]
  · rw [← h.fixed] at hfixed
    have hidle : ¬ ((m.virtAt (p.heldAfter n)).getLsbD 1 || (m.virtAt (p.heldAfter n)).getLsbD 2) = true := by
      rw [Bool.or_eq_true]
      exact not_or.mpr ⟨hfixed, hused⟩
    split
    · exact if_neg hidle
    · rfl

/-- The search goes on past every page it does not stop at. -/
theorem choosePage_walk (k j : Nat) : (∀ i, n ≤ i → i < n + k → p.Passes i) →
    ∃ m', p.Passed (n + k) m' ∧ choosePage (List.range' n (k + j)) m = choosePage (List.range' (n + k) j) m' := by
  induction k generalizing n m with
  | zero => exact fun _ => ⟨m, h, by rw [Nat.zero_add]; rfl⟩
  | succ k ih =>
    intro hpass
    obtain ⟨m', hm', he⟩ := ih h.next fun i hlo hhi => hpass i (by omega) (by omega)
    rw [show n + 1 + k = n + (k + 1) by omega] at hm' he
    refine ⟨m', hm', ?_⟩
    rw [show k + 1 + j = (k + j) + 1 by omega, List.range'_succ, choosePage_next h (hpass n le_rfl (by omega)), he]

end

/-! ### Twice round the eight pages -/

theorem Pmu.pageAfter_round (p : Pmu) (i : Nat) : p.pageAfter (8 + i) = p.pageAfter i := by
  have h : BitVec.ofNat 3 (8 + i) = BitVec.ofNat 3 i := by
    apply BitVec.eq_of_toNat_eq
    rw [BitVec.toNat_ofNat, BitVec.toNat_ofNat]
    omega
  rw [Pmu.pageAfter, Pmu.pageAfter, h]

theorem Pmu.heldAfter_round (p : Pmu) (i : Nat) : p.heldAfter (8 + i) = p.heldAfter i := by
  rw [Pmu.heldAfter, Pmu.heldAfter, p.pageAfter_round]

/-- After one round the pages passed again are those passed before. -/
theorem Pmu.Passed.round {p m : Pmu} {n : Nat} (hn : n ≤ 8) (h : p.Passed (8 + n) m) : p.Passed 8 m := by
  refine ⟨h.rest, fun x ⟨i, hi, hx⟩ => h.cleared x ⟨i, by omega, hx⟩, fun x hx => h.kept x fun i hi => ?_⟩
  by_cases hi8 : i < 8
  · exact hx i hi8
  · obtain ⟨j, rfl⟩ := Nat.exists_eq_add_of_le (Nat.le_of_not_lt hi8)
    rw [p.heldAfter_round]
    exact hx j (by omega)

/-- A valid page that is fixed is passed. -/
theorem Pmu.passes_of_fixed {p : Pmu} {i : Nat} (hvalid : (p.mappedAt (p.pageAfter i)).getLsbD 6 = true)
    (hfixed : (p.virtAt (p.heldAfter i)).getLsbD 1 = true) : p.Passes i :=
  ⟨hvalid, fun _ h => .inl ((h.fixed _).trans hfixed)⟩

theorem Pmu.passes_round {p : Pmu} {i : Nat} (hvalid : (p.mappedAt (p.pageAfter i)).getLsbD 6 = true)
    (hfixed : (p.virtAt (p.heldAfter i)).getLsbD 1 = true) : p.Passes (8 + i) :=
  Pmu.passes_of_fixed (by rwa [p.pageAfter_round]) (by rwa [p.heldAfter_round])

/-- A valid page that is fixed or used is passed in the first round: no other page before it holds its virtual page. -/
theorem Pmu.passes_first {p : Pmu} {i : Nat} (hvalid : (p.mappedAt (p.pageAfter i)).getLsbD 6 = true)
    (hbusy : (p.virtAt (p.heldAfter i)).getLsbD 1 = true ∨ (p.virtAt (p.heldAfter i)).getLsbD 2 = true)
    (hapart : ∀ j, j < i → p.heldAfter j ≠ p.heldAfter i) : p.Passes i :=
  ⟨hvalid, fun m h => by rwa [h.kept _ hapart]⟩

/-- A page that holds a virtual page without ref after the first round. -/
theorem Pmu.Passed.unused {p m : Pmu} {n i : Nat} (h : p.Passed n m) (hi : i < n) :
    ¬ (m.virtAt (p.heldAfter i)).getLsbD 2 = true := by
  rw [h.cleared _ ⟨i, hi, rfl⟩, (clear_ref_bits _).2.1]
  exact Bool.false_ne_true

theorem Pmu.choosePage_range (p : Pmu) (k j : Nat) (hkj : k + j = 16) (hpass : ∀ i, i < k → p.Passes i) :
    ∃ m, p.Passed k m ∧ choosePage (List.range 16) p = choosePage (List.range' k j) m := by
  obtain ⟨m, hm, he⟩ := choosePage_walk p.passed_zero k j fun i _ hi => hpass i (by omega)
  rw [Nat.zero_add] at hm he
  exact ⟨m, hm, by rw [List.range_eq_range', ← hkj, he]⟩

/-! ## Loads and misses (R970, R980) -/

section
variable {s : State} {a : BitVec 16} (b : Bool)

theorem startLoad_hit {q : BitVec 13} (h : s.pmu.xlate a = .hit q) : startLoad b a s = s := by
  rw [startLoad, h]

theorem startLoad_chunk {q : BitVec 3} (h : s.pmu.xlate a = .chunkFault q) :
    startLoad b a s = s.setPmu { s.pmu with job := some ⟨a, q, false, b, true⟩ } := by
  rw [startLoad, h]

theorem startLoad_page {q : BitVec 3} {m : Pmu} (h : s.pmu.xlate a = .pageFault)
    (hc : choosePage (List.range 16) s.pmu = (some q, m)) :
    startLoad b a s = s.setPmu { m.mapPage q a with job := some ⟨a, q, true, b, true⟩ } := by
  rw [startLoad, h]
  dsimp only
  rw [hc]

theorem startLoad_full {m : Pmu} (h : s.pmu.xlate a = .pageFault)
    (hc : choosePage (List.range 16) s.pmu = (none, m)) : startLoad b a s = raise .pagefree (s.setPmu m) := by
  rw [startLoad, h]
  dsimp only
  rw [hc]

/-- The search changes ref bits alone, the load that follows page descriptors, PMUPHYSPT and the job: PMUFAULTADD and PMUMISSCNT
stay. -/
theorem choosePage_frame (l : List Nat) : ∀ p : Pmu, (choosePage l p).2 = { p with virt := (choosePage l p).2.virt } := by
  induction l with
  | nil => exact fun _ => rfl
  | cons i l ih =>
    intro p
    rw [choosePage]
    dsimp only
    split
    · split
      · rw [ih]
        rfl
      · rfl
    · rfl

theorem startLoad_miss (a : BitVec 16) (s : State) :
    (startLoad b a s).pmu.faultAdd = s.pmu.faultAdd ∧ (startLoad b a s).pmu.missCnt = s.pmu.missCnt := by
  unfold startLoad
  split
  · exact ⟨rfl, rfl⟩
  · exact ⟨rfl, rfl⟩
  · have hframe := choosePage_frame (List.range 16) s.pmu
    split
    · rename_i q m hc
      rw [hc] at hframe
      dsimp only at hframe
      rw [setPmu_pmu, mapPage_frame, hframe]
      exact ⟨rfl, rfl⟩
    · rename_i m hc
      rw [hc] at hframe
      dsimp only at hframe
      rw [raise_pmu, setPmu_pmu, hframe]
      exact ⟨rfl, rfl⟩

theorem fetchMiss_idle (h : s.pmu.job = none) :
    fetchMiss a s = startLoad false a (s.setPmu (recordMiss a s.pmu)) := by
  have hjob : (recordMiss a s.pmu).job = none := by
    unfold recordMiss
    split
    · exact h
    · exact h
  simp only [fetchMiss, setPmu_pmu, hjob]

theorem fetchMiss_miss (a : BitVec 16) (s : State) :
    (fetchMiss a s).pmu.faultAdd = (recordMiss a s.pmu).faultAdd ∧
      (fetchMiss a s).pmu.missCnt = (recordMiss a s.pmu).missCnt := by
  unfold fetchMiss
  dsimp only
  split
  · exact ⟨rfl, rfl⟩
  · exact startLoad_miss false a _

/-- A prefetch with the PMU on, not masked, and no load in progress. -/
theorem prefetchAt_open (hon : s.mode.pmuen = true) (hmask : s.pmu.maskPrefetch = false) (hjob : s.pmu.job = none) :
    prefetchAt a s = startLoad true a s := by
  simp [prefetchAt, hon, hmask, hjob]

theorem prefetchAt_idle (h : s.mode.pmuen = false ∨ s.pmu.maskPrefetch = true ∨ s.pmu.job.isSome = true ∨
    ∃ q, s.pmu.xlate a = .hit q) : prefetchAt a s = s := by
  unfold prefetchAt
  split
  · rfl
  · rename_i hopen
    rcases h with h | h | h | ⟨q, h⟩
    · simp [h] at hopen
    · simp [h] at hopen
    · simp [h] at hopen
    · exact startLoad_hit true h

end

section
variable (p : BitVec 2) (s : State)

theorem exec_prefetchReg : exec (.prefetchReg p) s = flowOp p (fun s => .next (prefetchAt s.regs.branch s)) s := rfl
theorem exec_prefetchOff (off : BitVec 16) :
    exec (.prefetchOff p off) s = flowOp p (fun s => .next (prefetchAt (s.regs.pc + off) s)) s := rfl
theorem exec_pmucmd (c : BitVec 2) : exec (.pmucmd p c) s = flowOp p (pmuCommand c) s := rfl

end

/-- Settles O32: the operations under G, then a prefetch by its translation. -/
theorem pmuOperations : Obligations.PmuOperations := by
  intro p off s
  refine ⟨fun h => ⟨exec_flowOn (exec_prefetchReg p s) h, exec_flowOn (exec_prefetchOff p s off) h, fun hoff c => ?off,
    fun hon => ?on⟩, fun h => ⟨exec_flowOff (exec_prefetchReg p s) h, exec_flowOff (exec_prefetchOff p s off) h, fun c =>
    exec_flowOff (exec_pmucmd p s c) h⟩, fun a h => prefetchAt_idle h,
    fun a q hon hmask hjob hx => (prefetchAt_open hon hmask hjob).trans (startLoad_chunk true hx),
    fun a q m hon hmask hjob hx hc => (prefetchAt_open hon hmask hjob).trans (startLoad_page true hx hc),
    fun a m hon hmask hjob hx hc => (prefetchAt_open hon hmask hjob).trans (startLoad_full true hx hc)⟩
  case off =>
    rw [exec_flowOn (exec_pmucmd p s c) h, pmuCommand, hoff]
    rfl
  case on =>
    have hcmd : ∀ c, exec (.pmucmd p c) s = pmuCommand c s := fun c => exec_flowOn (exec_pmucmd p s c) h
    simp only [hcmd, pmuCommand, hon]
    exact ⟨rfl, rfl, rfl, rfl⟩

/-- Settles O33: the search by the pages it passes, the descriptors by `mapPage`, a miss by its translation. -/
theorem pageReplacement : Obligations.PageReplacement := by
  refine ⟨fun p => ?search, fun p q a => ?descriptors, fun s a hjob hmiss => ?miss⟩
  case search =>
    intro page vp valid fixed used found hapart
    have hstart : ∀ n, n ≤ 8 → (∀ i, i < n → valid i ∧ (fixed i ∨ used i)) → ∀ i, i < n → p.Passes i :=
      fun n hn hbusy i hi => Pmu.passes_first (hbusy i hi).1 (hbusy i hi).2 fun j hj e =>
        absurd (hapart j i (by omega) (by omega) (hbusy j (by omega)).1 (hbusy i hi).1 e) (by omega)
    refine ⟨fun n hn hfree hbusy => ?_, fun n hn hloose hfixed hbusy => ?_, fun hall => ?_⟩
    · obtain ⟨m, hm, he⟩ := p.choosePage_range n (15 - n + 1) (by omega) (hstart n hn.le hbusy)
      refine ⟨m, ?_, hm.rest, hm.cleared, hm.kept⟩
      rw [he, List.range'_succ]
      refine choosePage_stop hm ?_ _
      by_cases hv : valid n
      · refine .inr ((hfree.resolve_left (not_not_intro hv)).imp_right fun hused => ?_)
        rwa [hm.kept (p.heldAfter n) fun i hi e => absurd (hapart i n (by omega) hn (hbusy i hi).1 hv e) (by omega)]
      · exact .inl hv
    · have hpass : ∀ i, i < 8 + n → p.Passes i := fun i hi => by
        by_cases hi8 : i < 8
        · exact hstart 8 le_rfl hbusy i hi8
        · obtain ⟨j, rfl⟩ := Nat.exists_eq_add_of_le (Nat.le_of_not_lt hi8)
          exact Pmu.passes_round (hbusy j (by omega)).1 (hfixed j (by omega))
      obtain ⟨m, hm, he⟩ := p.choosePage_range (8 + n) (7 - n + 1) (by omega) hpass
      have hm8 := hm.round hn.le
      refine ⟨m, ?_, hm8.rest, hm8.cleared, hm8.kept⟩
      rw [he, List.range'_succ, choosePage_stop hm (.inr ?_), p.pageAfter_round]
      · rfl
      · rw [p.heldAfter_round]
        exact ⟨hloose, hm8.unused hn⟩
    · have hpass : ∀ i, i < 16 → p.Passes i := fun i hi => by
        by_cases hi8 : i < 8
        · exact Pmu.passes_of_fixed (hall i hi8).1 (hall i hi8).2
        · obtain ⟨j, rfl⟩ := Nat.exists_eq_add_of_le (Nat.le_of_not_lt hi8)
          exact Pmu.passes_round (hall j (by omega)).1 (hall j (by omega)).2
      obtain ⟨m, hm, he⟩ := p.choosePage_range 16 0 rfl hpass
      have hm8 := Pmu.Passed.round (n := 8) le_rfl hm
      exact ⟨m, he, hm8.rest, hm8.cleared, hm8.kept⟩
  case descriptors =>
    intro v old t
    refine ⟨mapPage_frame p q a, ?_, fun r hr => ?_, ?_, fun x hx => ?_⟩
    · rw [mappedAt_mapPage, if_pos rfl]
      rfl
    · rw [mappedAt_mapPage, if_neg hr]
    · rw [virtAt_mapPage]
      exact if_pos rfl
    · rw [virtAt_mapPage, if_neg (show x ≠ pageOf a from hx), virtAt_unmap]
  case miss =>
    intro p
    have hrecord : recordMiss a s.pmu = p := if_neg hmiss
    have hstart : fetchMiss a s = startLoad false a (s.setPmu p) := by rw [fetchMiss_idle hjob, hrecord]
    exact ⟨fun q hx => hstart.trans (startLoad_chunk false hx), fun q m hx hc => hstart.trans (startLoad_page false hx hc),
      fun m hx hc => hstart.trans (startLoad_full false hx hc)⟩

/-- Settles O42: the translation by the two descriptors, a miss by what it records. -/
theorem addressTranslation : Obligations.AddressTranslation := by
  intro s a d q here
  obtain ⟨hfault, hcount⟩ := fetchMiss_miss a s
  rw [hfault, hcount, recordMiss]
  refine ⟨fun h => physOf_on_eq_opt h a, fun h => touchPage_on h a, fun h => physOf_off h a, fun h => ?_, fun h => ?_⟩
  · rw [if_neg h]
    exact ⟨rfl, rfl⟩
  · rw [if_pos h]
    exact ⟨rfl, rfl⟩

end Sys2Proof.Machine
end

section
/-! SUPPORT. Exceptions and interrupts (spec 60): MGCSTAT bit by bit, the words that switch MGCCTRL's modes, what an exception
makes of its class, and the line a service point serves. -/

namespace Sys2Proof.Machine

open Sys2Proof.Claims

/-! ## MGCSTAT (R56) and words of MGCCTRL (R55, R1062) -/

theorem statWord_bits (s : State) (i : Fin 32) : (statWord s).getLsbD i = (statBits s).getD i false := by
  unfold statWord statBits
  fin_cases i <;> simp [inDebug, innerBreak, coreRuns]

/-- A word of MGCCTRL without the software reset that names no pair twice and not the decompressor, and starts only a core in debug
state. -/
theorem ctrlWrite_modes {w : BitVec 32} {s : State} (h31 : w.getLsbD 31 = false)
    (hpairs : (bothOf w 0 1 || ctrlPairs.any fun i => bothOf w i (i + 1)) = false) (h11 : w.getLsbD 11 = false)
    (h4 : w.getLsbD 4 = false ∨ inDebug s = true)
    (hfatal : ((ctrlModes w s.mode).allfatal && (ctrlModes w s.mode).nonefatal) = false) :
    ctrlWrite w s = .next (ctrlRun w (inDebug s) (s.setMode (ctrlModes w s.mode))) := by
  have hstart : (w.getLsbD 4 && !inDebug s) = false := by
    rcases h4 with h | h
    · rw [h, Bool.false_and]
    · rw [h, Bool.not_true, Bool.and_false]
  unfold ctrlWrite
  simp only [h31, hpairs, h11, hstart, hfatal, Bool.false_and, Bool.false_eq_true, if_false]

/-! ## Exceptions (R1120 to R1122) -/

theorem fatalNow_bit (s : State) (e : Exc) : (fatalNow s).getLsbD e.bit =
    if s.mode.allfatal then true else if s.mode.nonefatal then false else e.fatal := by
  unfold fatalNow
  cases s.mode.allfatal <;> cases s.mode.nonefatal <;> cases e <;> rfl

theorem excBit_lt (e : Exc) : e.bit < 32 := by cases e <;> decide

/-- An exception that is not masked, before what its class makes of it. -/
def recorded (e : Exc) (s : State) : State := { s with
  regs := { s.regs with exception := s.regs.exception ||| bitAt 32 e.bit }, raised := s.raised ||| bitAt 32 e.bit }

theorem raise_unmasked {e : Exc} {s : State} (h : s.regs.mask.getLsbD e.bit = false) :
    raise e s = if (fatalNow s).getLsbD e.bit then recorded e s else lineEvent 6 (recorded e s) :=
  if_neg (ne_true_of_eq_false h)

theorem inDebug_of_fatal {s : State} {i : Nat} (he : s.regs.exception.getLsbD i = true) (hf : (fatalNow s).getLsbD i = true) :
    inDebug s = true := by
  have hne : (s.regs.exception &&& fatalNow s != 0) = true := by
    refine bne_iff_ne.mpr fun h => ?_
    have h0 := congrArg (fun v => BitVec.getLsbD v i) h
    rw [BitVec.getLsbD_and, he, hf] at h0
    simp at h0
  simp only [inDebug, innerBreak, hne, Bool.or_true, Bool.true_or]

/-- MGCSTAT shows that an exception is recorded. -/
theorem statWord_exception {s : State} {i : Nat} (h : s.regs.exception.getLsbD i = true) : (statWord s).getLsbD 5 = true := by
  have hne : (s.regs.exception != 0) = true := bne_iff_ne.mpr fun h0 => by simp [h0] at h
  exact (statWord_bits s 5).trans hne

/-- Both class overrides at once are refused, if nothing was before (R1122, U26). -/
theorem ctrlWrite_fatalBoth {w : BitVec 32} {s : State} (h31 : w.getLsbD 31 = false)
    (ha : (ctrlModes w s.mode).allfatal = true) (hn : (ctrlModes w s.mode).nonefatal = true) :
    ∃ r, ctrlWrite w s = .refused r := by
  unfold ctrlWrite
  simp only [h31, ha, hn, Bool.and_self, Bool.false_eq_true, if_false, if_true]
  repeat' split
  all_goals exact ⟨_, rfl⟩

/-- Settles O44: an exception by its mask and class, the classes over all exceptions. -/
theorem takingAnException : Obligations.TakingAnException := by
  refine ⟨fun e s => ⟨raise_masked, fun hm => ?_⟩, fun s => ⟨fatalNow_bit s, fun e he hf => inDebug_of_fatal he hf,
    fun w h31 ha hn => ctrlWrite_fatalBoth h31 ha hn, fun e => by cases e <;> rfl⟩⟩
  intro b t
  have hraise := raise_unmasked hm
  refine ⟨fun hf => ⟨?_, inDebug_raise hm hf⟩, fun hf => ?_, ?_⟩
  · rw [hraise, if_pos hf]
    rfl
  · rw [hraise, if_neg (ne_true_of_eq_false hf)]
    rfl
  · refine statWord_exception (i := e.bit) ?_
    rw [raise_exception hm, BitVec.getLsbD_or, getLsbD_bitAt]
    simp [excBit_lt e]

/-! ## The line that a service point serves (R1090) -/

/-- Line x goes before line y when both may be served: the smaller priority value, the lower number among equals. -/
def Prefers (i : Ints) (x y : Fin 8) : Prop := prioOf i x < prioOf i y ∨ (prioOf i x = prioOf i y ∧ x ≤ y)

/-- `best` is the line to serve among `lines`. -/
def BestOf (i : Ints) (lines : List (Fin 8)) (best : Option (Fin 8)) : Prop :=
  match best with
  | none => ∀ y ∈ lines, ¬ candidate i y = true
  | some x => x ∈ lines ∧ candidate i x = true ∧ ∀ y ∈ lines, candidate i y = true → Prefers i x y

/-- One more line, with a higher number than those before it. -/
def betterLine (i : Ints) (best : Option (Fin 8)) (x : Fin 8) : Option (Fin 8) :=
  if candidate i x then
    match best with
    | none => some x
    | some b => if prioOf i x < prioOf i b then some x else some b
  else best

theorem Prefers.refl (i : Ints) (x : Fin 8) : Prefers i x x := .inr ⟨rfl, le_rfl⟩

theorem bestOf_betterLine {i : Ints} {lines : List (Fin 8)} {best : Option (Fin 8)} {x : Fin 8} (h : BestOf i lines best)
    (hlast : ∀ y ∈ lines, y < x) : BestOf i (lines ++ [x]) (betterLine i best x) := by
  have hx : x ∈ lines ++ [x] := List.mem_append_right lines (List.mem_singleton.mpr rfl)
  unfold betterLine
  split
  case isTrue hcand =>
    cases best with
    | none =>
      refine ⟨hx, hcand, fun y hy hyc => ?_⟩
      rcases List.mem_append.mp hy with hy | hy
      · exact absurd hyc (h y hy)
      · rw [List.mem_singleton.mp hy]
        exact Prefers.refl i x
    | some b =>
      obtain ⟨hb, hbc, hbest⟩ := h
      dsimp only
      split
      · refine ⟨hx, hcand, fun y hy hyc => ?_⟩
        rcases List.mem_append.mp hy with hy | hy
        · have := hbest y hy hyc
          unfold Prefers at this ⊢
          omega
        · rw [List.mem_singleton.mp hy]
          exact Prefers.refl i x
      · refine ⟨List.mem_append_left _ hb, hbc, fun y hy hyc => ?_⟩
        rcases List.mem_append.mp hy with hy | hy
        · exact hbest y hy hyc
        · have := hlast b hb
          rw [List.mem_singleton.mp hy]
          unfold Prefers
          omega
  case isFalse hcand =>
    have hother : ∀ y ∈ lines ++ [x], candidate i y = true → y ∈ lines := fun y hy hyc => by
      rcases List.mem_append.mp hy with hy | hy
      · exact hy
      · exact absurd (List.mem_singleton.mp hy ▸ hyc) hcand
    cases best with
    | none => exact fun y hy hyc => h y (hother y hy hyc) hyc
    | some b => exact ⟨List.mem_append_left _ h.1, h.2.1, fun y hy hyc => h.2.2 y (hother y hy hyc) hyc⟩

theorem bestOf_foldl {i : Ints} (l : List (Fin 8)) : ∀ {lines best}, BestOf i lines best → (lines ++ l).Pairwise (· < ·) →
    BestOf i (lines ++ l) (l.foldl (betterLine i) best) := by
  induction l with
  | nil =>
    intro lines best h _
    rwa [List.append_nil]
  | cons x l ih =>
    intro lines best h hsorted
    have hlast : ∀ y ∈ lines, y < x := fun y hy => (List.pairwise_append.mp hsorted).2.2 y hy x List.mem_cons_self
    rw [List.append_cons] at hsorted ⊢
    exact ih (bestOf_betterLine h hlast) hsorted

theorem selectLine_bestOf (i : Ints) : BestOf i (List.finRange 8) (selectLine i) :=
  bestOf_foldl (List.finRange 8) (lines := []) (best := none) (fun y hy => absurd hy List.not_mem_nil) (by decide)

theorem selectLine_eq_none_iff (i : Ints) : selectLine i = none ↔ ∀ x : Fin 8, ¬ candidate i x = true := by
  have h := selectLine_bestOf i
  cases ho : selectLine i with
  | none =>
    rw [ho] at h
    exact iff_of_true rfl fun x => h x (List.mem_finRange x)
  | some b =>
    rw [ho] at h
    exact iff_of_false (Option.some_ne_none _) fun hall => hall b h.2.1

/-- The order of the lines leaves one to serve. -/
theorem selectLine_eq_some_iff (i : Ints) (x : Fin 8) : selectLine i = some x ↔
    candidate i x = true ∧ ∀ y : Fin 8, candidate i y = true → Prefers i x y := by
  have h := selectLine_bestOf i
  constructor
  · intro ho
    rw [ho] at h
    exact ⟨h.2.1, fun y => h.2.2 y (List.mem_finRange y)⟩
  · rintro ⟨hx, hbest⟩
    cases ho : selectLine i with
    | none => exact absurd hx ((selectLine_eq_none_iff i).mp ho x)
    | some b =>
      rw [ho] at h
      have hxb := hbest b h.2.1
      have hbx := h.2.2 x (List.mem_finRange x) hx
      unfold Prefers at hxb hbx
      congr 1
      omega

theorem takenLine_none {s : State} (h : s.mode.interrupt = true ∨ s.mode.softpipe = true) : takenLine s = none :=
  if_pos (Bool.or_eq_true_iff.mpr h)

theorem takenLine_open {s : State} (hi : s.mode.interrupt = false) (hp : s.mode.softpipe = false) :
    takenLine s = selectLine s.sight := by
  rw [takenLine, hi, hp]
  rfl

theorem candidate_iff (i : Ints) (x : Nat) :
    candidate i x = true ↔ i.pend.getLsbD x = true ∧ i.en.getLsbD x = true ∧ i.mask.getLsbD x = false := by
  rw [candidate, Bool.and_eq_true, Bool.and_eq_true, Bool.not_eq_true', and_assoc]

/-! ## Interrupt entry (R1092, R1095) -/

theorem saveShared_eq (x : Fin 8) (i : Ints) : saveShared x i = { i with
    shsave := if x = 0 then (i.shsave &&& 0xF0) ||| (i.shpend &&& 0x0F)
      else if x = 1 then (i.shsave &&& 0x0F) ||| (i.shpend &&& 0xF0) else i.shsave
    shpend := if x = 0 then i.shpend &&& 0xF0 else if x = 1 then i.shpend &&& 0x0F else i.shpend } := by
  unfold saveShared
  fin_cases x <;> rfl

theorem serve_some {s : State} (h : s.svc = true) (x : Fin 8) : serve (some x) s = enterInterrupt x s.regs.pc s := by
  rw [serve_own, if_pos h]

/-- Settles O45: the line by the order of `selectLine_bestOf`, the entry field by field. -/
theorem interrupts : Obligations.Interrupts := by
  refine ⟨fun s => ?_, fun _ _ _ => rfl, fun s x => ?_⟩
  · intro seen cand prio
    have hcand : ∀ x : Fin 8, candidate s.sight x = true ↔ cand x := fun x => candidate_iff s.sight x
    refine ⟨takenLine_none, fun hi hp => ?_⟩
    rw [takenLine_open hi hp]
    refine ⟨?_, fun x => ?_⟩
    · simp only [selectLine_eq_none_iff, hcand]
    · simp only [selectLine_eq_some_iff, hcand]
      rfl
  · intro seen
    refine ⟨fun h => ?_, fun h => ?_, ?_⟩
    · rw [serve_some h, enterInterrupt, saveShared_eq]
      rfl
    · rw [serve_own, if_neg (ne_true_of_eq_false h)]
    · rw [serve_own, ite_self]

end Sys2Proof.Machine
end

section
/-! SUPPORT. Events on interrupt lines, the input lines of a cycle, the watch, waking, start, and the tick counter (R1065, R1068,
R1080 to R1086, R1101, R1102, R1152). -/

namespace Sys2Proof.Machine

open Sys2Proof.Claims

/-! ## The tick counter (R1068) -/

theorem tick_counts {s : State} (hon : s.mode.ticken = true) (hw : s.tickWritten = false) : tick false s =
    if s.regs.tick + 1 = 0xFFFFFFFF then
      lineEvent 7 ((s.setRegs { s.regs with tick := s.regs.tick + 1 }).setMode { s.mode with tickovf := true })
    else s.setRegs { s.regs with tick := s.regs.tick + 1 } := by
  unfold tick
  rw [hon, hw]
  rfl

theorem tick_still {s : State} (h : s.mode.ticken = false ∨ s.tickWritten = true) (dbg : Bool) : tick dbg s = s := by
  unfold tick
  rcases h with h | h
  · rw [h, Bool.and_false, Bool.false_and, if_neg Bool.false_ne_true]
  · rw [h, Bool.not_true, Bool.and_false, if_neg Bool.false_ne_true]

theorem tick_succ_eq_max_iff (v : BitVec 32) : v + 1 = 0xFFFFFFFF ↔ v = 0xFFFFFFFE := by
  constructor <;> intro h <;> bv_omega

/-- Settles O47: a step of the counter reaches the top from one value alone. -/
theorem tickCounter : Obligations.TickCounter := by
  intro s
  refine ⟨fun hon hw hv => ?_, fun hon hw hv => ?_, fun h => tick_still h false, rfl⟩
  · rw [tick_counts hon hw, if_neg (mt (tick_succ_eq_max_iff _).mp hv)]
    rfl
  · rw [tick_counts hon hw, if_pos ((tick_succ_eq_max_iff _).mpr hv), hv]
    rfl

/-! ## Events (R1080, R1101) -/

/-- The interrupt registers after an event on line x when b. -/
def eventInts (b : Bool) (x : Nat) (i : Ints) : Ints := { i with
  pend := if b && i.en.getLsbD x then i.pend ||| bitAt 8 x else i.pend
  wakeIntEv := if b && i.wakeInt.getLsbD x then i.wakeIntEv ||| bitAt 8 x else i.wakeIntEv }

theorem byInts_id (s : State) : byInts s id = s := by
  rw [byInts, Option.map_id]
  rfl

theorem byInts_byInts (s : State) (f g : Ints → Ints) : byInts (byInts s f) g = byInts s (g ∘ f) := by
  simp only [byInts, Option.map_map]
  rfl

theorem lineEvent_eq (x : Nat) (s : State) : lineEvent x s = byInts s (eventInts true x) := rfl

theorem eventIf_eq (b : Bool) (x : Nat) (s : State) : eventIf b x s = byInts s (eventInts b x) := by
  cases b with
  | true => exact lineEvent_eq x s
  | false => exact (byInts_id s).symm

/-- An event sets one bit, where the line is enabled for it. -/
theorem getLsbD_event (old : BitVec 8) (b e : Bool) (x : Nat) (y : Fin 8) :
    (if b && e then old ||| bitAt 8 x else old).getLsbD y = (old.getLsbD y || (decide (y.val = x) && b && e)) := by
  have hx : decide (x = y.val) = decide (y.val = x) := decide_eq_decide.mpr eq_comm
  cases b <;> cases e <;> simp [hx]

theorem getLsbD_eventInts (b : Bool) (x : Nat) (i : Ints) (y : Fin 8) :
    (eventInts b x i).pend.getLsbD y = (i.pend.getLsbD y || (decide (y.val = x) && b && i.en.getLsbD x)) ∧
      (eventInts b x i).wakeIntEv.getLsbD y = (i.wakeIntEv.getLsbD y || (decide (y.val = x) && b && i.wakeInt.getLsbD x)) :=
  ⟨getLsbD_event i.pend b _ x y, getLsbD_event i.wakeIntEv b _ x y⟩

@[simp] theorem eventInts_en (b : Bool) (x : Nat) (i : Ints) : (eventInts b x i).en = i.en := rfl
@[simp] theorem eventInts_wakeInt (b : Bool) (x : Nat) (i : Ints) : (eventInts b x i).wakeInt = i.wakeInt := rfl

theorem or_if_twice (c : Bool) (v m : BitVec 8) :
    (if c then (if c then v ||| m else v) ||| m else if c then v ||| m else v) = if c then v ||| m else v := by
  cases c
  · rfl
  · rw [if_pos rfl, if_pos rfl, BitVec.or_assoc, BitVec.or_self]

/-- A second event on a line adds nothing. -/
theorem eventInts_twice (b : Bool) (x : Nat) (i : Ints) : eventInts b x (eventInts b x i) = eventInts b x i :=
  congrArg₂ (fun v w => { i with pend := v, wakeIntEv := w }) (or_if_twice (b && i.en.getLsbD x) i.pend (bitAt 8 x))
    (or_if_twice (b && i.wakeInt.getLsbD x) i.wakeIntEv (bitAt 8 x))

/-! ## The input lines of a cycle (R1080, R1081) -/

theorem getLsbD_sharedEdges (old new : BitVec 8) (i : Ints) (j : Fin 8) : (sharedEdges old new i).getLsbD j =
    (old.getLsbD j != new.getLsbD j && new.getLsbD j == i.shedge.getLsbD j && i.en.getLsbD (j.val / 4)) := by
  rw [sharedEdges, getLsbD_foldl_putBit (fun j _ => old.getLsbD j != new.getLsbD j && new.getLsbD j == i.shedge.getLsbD j &&
    i.en.getLsbD (lineOfShared j)) _ _ _ j.isLt, if_pos j.isLt]
  rfl

/-- Lines that keep their levels give no edge. -/
theorem shareLines_same (s : State) : shareLines s.lineSh s = s := by
  have h : sharedEdges s.lineSh s.lineSh s.ints = 0#8 := BitVec.eq_of_getLsbD_eq fun j hj => by
    rw [getLsbD_sharedEdges _ _ _ ⟨j, hj⟩, bne_self_eq_false, Bool.false_and, Bool.false_and]
    simp
  rw [shareLines, h, BitVec.or_zero]

theorem sharedActive_iff (i : Ints) (line : Nat) : sharedActive i line = true ↔
    ∃ j : Fin 8, j.val / 4 = line ∧ i.shpend.getLsbD j = true ∧ i.mask.getLsbD (8 + j) = false := by
  simp only [sharedActive, lineOfShared, List.any_eq_true, List.mem_range, Bool.and_eq_true, beq_iff_eq, Bool.not_eq_true',
    and_assoc]
  exact ⟨fun ⟨j, hj, h⟩ => ⟨⟨j, hj⟩, h⟩, fun ⟨j, h⟩ => ⟨j, j.isLt, h⟩⟩

/-- The levels of a cycle with their edges, before the events they give. -/
def levelled (s : State) : State :=
  shareLines (s.inp.shared.getD s.lineSh) { s with dbgReq := s.inp.dbgReq.getD s.dbgReq }

/-- The events of a cycle on lines 0 to 3, given the interrupt registers with the edges in them. -/
def lineEvents (c : CycleIn) (u i : Ints) : Ints :=
  eventInts c.line3 3 (eventInts c.line2 2 (eventInts (sharedActive u 1) 1 (eventInts (sharedActive u 0) 0 i)))

/-- The events of a cycle one after another. -/
def eventsOf (s : State) : State :=
  let s3 := eventIf (sharedActive s.ints 0) 0 s
  let s4 := eventIf (sharedActive s3.ints 1) 1 s3
  eventIf s4.inp.line3 3 (eventIf s4.inp.line2 2 s4)

theorem eventsOf_eq (s : State) : eventsOf s = byInts s (lineEvents s.inp s.ints) := by
  simp only [eventsOf, eventIf_eq, byInts_byInts]
  rfl

theorem inputLines_eq {s : State} (h : s.inp.reset = false) : inputLines s = eventsOf (levelled s) := by
  have hshare : (match s.inp.shared with
      | some l => shareLines l { s with dbgReq := s.inp.dbgReq.getD s.dbgReq }
      | none => { s with dbgReq := s.inp.dbgReq.getD s.dbgReq }) = levelled s := by
    unfold levelled
    cases s.inp.shared with
    | some l => rfl
    | none => exact (shareLines_same _).symm
  rw [← hshare]
  unfold inputLines
  rw [h]
  rfl

/-- The line of event x of a cycle: whether it has one. -/
def lineHas (c : CycleIn) (u : Ints) (x : Fin 8) : Bool :=
  if x.val < 2 then sharedActive u x else if x = 2 then c.line2 else if x = 3 then c.line3 else false

theorem getLsbD_lineEvents (c : CycleIn) (u i : Ints) (x : Fin 8) :
    (lineEvents c u i).pend.getLsbD x = (i.pend.getLsbD x || (lineHas c u x && i.en.getLsbD x)) ∧
      (lineEvents c u i).wakeIntEv.getLsbD x = (i.wakeIntEv.getLsbD x || (lineHas c u x && i.wakeInt.getLsbD x)) := by
  have h := fun b k i => getLsbD_eventInts b k i x
  simp only [lineEvents, (h _ _ _).1, (h _ _ _).2, eventInts_en, eventInts_wakeInt]
  clear h
  fin_cases x <;> simp [lineHas]

/-- Every part of a cycle's input lines: levels, edges, events, and that nothing else changes. -/
theorem inputLines_events {s : State} (hreset : s.inp.reset = false) :
    ∃ f, inputLines s = byInts (levelled s) f ∧ (∀ i, f i = { i with pend := (f i).pend, wakeIntEv := (f i).wakeIntEv }) ∧
      ∀ i (x : Fin 8),
        (f i).pend.getLsbD x = (i.pend.getLsbD x || (lineHas s.inp (levelled s).ints x && i.en.getLsbD x)) ∧
        (f i).wakeIntEv.getLsbD x = (i.wakeIntEv.getLsbD x || (lineHas s.inp (levelled s).ints x && i.wakeInt.getLsbD x)) :=
  ⟨_, (inputLines_eq hreset).trans (eventsOf_eq _), fun _ => rfl, fun i x => getLsbD_lineEvents _ _ i x⟩

/-! ## The watch (R1086, R1152) -/

theorem watched_none {s t : State} (hm : t.mode = s.mode) (hi : t.ints = s.ints) : Watched [] s t := by
  simp [Watched, hm, hi]

/-- What the watch looks at does not hold memory, ports or outputs. -/
theorem watched_congr {ws : List Nat} {s s' t t' : State} (h : Watched ws s t) (hr : s'.regs.watch = s.regs.watch)
    (hm : s'.mode = s.mode) (hi : s'.ints = s.ints) (hm' : t'.mode = t.mode) (hi' : t'.ints = t.ints) : Watched ws s' t' := by
  obtain ⟨hmode, hints⟩ := h
  refine ⟨by rw [hm', hmode, hm, hr], ?_⟩
  rw [hi', hints, hm, hr]
  simp only [lineEvent, updInts_ints, hi]

theorem dmStore_watched (p : MemPort) (a : Nat) (v : Word40) (s : State) : Watched [a] s (dmStore p a v s) := by
  unfold dmStore watchWrite Watched
  by_cases ha : a = s.regs.watch.toNat
  · cases hw : s.mode.watchen <;> simp [ha, hw, lineEvent]
  · simp [ha, Ne.symm ha]

/-- Writes one after another: the watch sees each word, and an event on line 5 twice is one. -/
theorem watched_append {l m : List Nat} {s t u : State} (h : Watched l s t) (hr : t.regs = s.regs) (h' : Watched m t u) :
    Watched (l ++ m) s u := by
  obtain ⟨hmode, hints⟩ := h
  obtain ⟨hmode', hints'⟩ := h'
  have hw : t.mode.watchen = s.mode.watchen := by rw [hmode]; split <;> rfl
  have hline : ∀ v : State, (lineEvent 5 v).ints = eventInts true 5 v.ints := fun _ => rfl
  rw [hw, hr] at hmode' hints'
  unfold Watched
  rw [hmode', hints', hline t, hints, hmode, hline]
  by_cases hl : s.regs.watch.toNat ∈ l <;> by_cases hm : s.regs.watch.toNat ∈ m <;> cases s.mode.watchen <;>
    simp [hl, hm, eventInts_twice]

theorem storeAll_watched (p : MemPort) (ws : List (Nat × Word40)) : ∀ s, Watched (ws.map Prod.fst) s (storeAll p ws s) := by
  induction ws with
  | nil => exact fun s => watched_none rfl rfl
  | cons w ws ih =>
    intro s
    exact watched_append (dmStore_watched p w.1 w.2 s) (dmStore_regs p w.1 w.2 s) (ih (dmStore p w.1 w.2 s))

/-- The words of a store, as the statements list them. -/
theorem writes_words (a : BitVec 16) (e0 e1 : Option Word40) :
    (PortOp.write a e0 e1).writes.map Prod.fst = only e0.isSome a.toNat ++ only e1.isSome (a.toNat + 1) := by
  cases e0 <;> cases e1 <;> rfl

section
variable {s : State} {u : AguUnit} {a : BitVec 16} (hp : s.pend = []) (hr : s.resetNow = false)
include hp hr

theorem land_store_watched {e0 e1 : Option Word40} (h : s.ports = [⟨u, 1, .write a e0 e1⟩]) :
    ∃ t, land s = .next t ∧ Watched (only e0.isSome a.toNat ++ only e1.isSome (a.toNat + 1)) s t := by
  refine ⟨_, land_one hp hr h, ?_⟩
  rw [doPort_write, ← writes_words]
  exact watched_congr (storeAll_watched (portOf u) _ { s with ports := [] }) rfl rfl rfl rfl rfl

theorem land_read_watched {vec : Bool} {d : ReadDest} (h : s.ports = [⟨u, 1, .read a vec d⟩]) :
    ∃ t, land s = .next t ∧ Watched [] s t := by
  refine ⟨_, land_one hp hr h, ?_⟩
  rw [doPort_read]
  exact watched_none rfl rfl

end

theorem slaveLate_store_watched {s : State} {w : DmView} {a k : Nat} {v : BitVec 32} (ha : a < 0x4000) (hk : k < partsOf w)
    (hx : s.inp.slave = some ⟨busAddr w a k, some v, true⟩) (hfree : Untouched s a) :
    ∃ t, slaveLate s = .next t ∧ Watched [a] s t := by
  rw [slaveLate_store ha hk hx, slaveMeet_go fun y hy hya => absurd hya (hfree y hy)]
  exact ⟨_, rfl, watched_congr (dmStore_watched .p1a a _ s) rfl rfl rfl rfl rfl⟩

/-! ## Waking and start (R1065, R1102) -/

theorem and_ne_zero_iff {n : Nat} (a b : BitVec n) :
    (a &&& b != 0) = true ↔ ∃ x : Fin n, a.getLsbD x = true ∧ b.getLsbD x = true := by
  rw [bne_iff_ne]
  constructor
  · intro h
    by_contra hno
    push Not at hno
    refine h (BitVec.eq_of_getLsbD_eq fun i hi => ?_)
    rw [BitVec.getLsbD_and]
    cases ha : a.getLsbD i with
    | false => simp
    | true => simpa using hno ⟨i, hi⟩ ha
  · rintro ⟨x, ha, hb⟩ h
    have hbit := congrArg (fun v => BitVec.getLsbD v x) h
    rw [BitVec.getLsbD_and, ha, hb] at hbit
    simp at hbit

theorem wakeReady_iff (s : State) : wakeReady s = true ↔
    (∃ x : Fin 8, s.ints.wakeInt.getLsbD x = true ∧ s.ints.wakeIntEv.getLsbD x = true) ∨
      ∃ c : Fin 4, s.ints.wakeEot.getLsbD c = true ∧ s.ints.wakeEotEv.getLsbD c = true := by
  rw [wakeReady, Bool.or_eq_true, and_ne_zero_iff, and_ne_zero_iff]

theorem ctrlModes_no_pair {w : BitVec 32} (h : ∀ k ∈ ctrlPairs, w.getLsbD k = false ∧ w.getLsbD (k + 1) = false) (m : Mode) :
    ctrlModes w m = m := by
  have hpair : ∀ k ∈ ctrlPairs, ∀ b, pairBit w k b = b := fun k hk b => by
    rw [pairBit, (h k hk).1, (h k hk).2, Bool.or_false, Bool.not_false, Bool.and_true]
  simp only [ctrlPairs, List.forall_mem_cons, List.not_mem_nil, false_implies, implies_true, and_true] at hpair
  simp only [ctrlModes, hpair]

/-- A word of MGCCTRL with some of its bits 2 to 4 and no other. -/
theorem ctrlWrite_command {w : BitVec 32} {s : State} (hw : w ∈ [0x04#32, 0x08#32, 0x10#32])
    (hfatal : (s.mode.allfatal && s.mode.nonefatal) = false) (h4 : w = 0x10 → inDebug s = true) :
    ctrlWrite w s = .next (ctrlRun w (inDebug s) s) := by
  have hbits : ∀ w ∈ [0x04#32, 0x08#32, 0x10#32], w.getLsbD 31 = false ∧
      (bothOf w 0 1 || ctrlPairs.any fun i => bothOf w i (i + 1)) = false ∧ w.getLsbD 11 = false ∧
      (w.getLsbD 4 = false ∨ w = 0x10) ∧ ∀ k ∈ ctrlPairs, w.getLsbD k = false ∧ w.getLsbD (k + 1) = false := by
    rw [List.forall_mem_cons, List.forall_mem_cons, List.forall_mem_singleton]
    refine ⟨?_, ?_, ?_⟩ <;> exact ⟨by decide, by decide, by decide, by decide, by decide⟩
  obtain ⟨h31, hpairs, h11, hstart, hnone⟩ := hbits w hw
  have hmodes := ctrlModes_no_pair hnone s.mode
  rw [ctrlWrite_modes h31 hpairs h11 (hstart.imp_right h4) (by rwa [hmodes]), hmodes]
  rfl

theorem ctrlWrite_start_running {s : State} (h : inDebug s = false) : ctrlWrite 0x10 s = .refused .startRunning := by
  unfold ctrlWrite
  rw [h]
  rfl

/-- Settles O46: the input lines by `inputLines_events`, each write by its one store, waking and start by their conditions. -/
theorem eventsAndWaking : Obligations.EventsAndWaking := by
  refine ⟨fun s hreset => ?lines, fun s hw => by simp [inDebug, innerBreak, hw],
    fun s u a hp hr => ⟨fun e0 e1 h => land_store_watched hp hr h, fun vec d h => land_read_watched hp hr h⟩,
    fun s w a k v ha hk => ⟨fun hx hfree => slaveLate_store_watched ha hk hx hfree, fun hp0b =>
      ⟨_, dmaStoreWord_view ha hk hp0b v, dmStore_watched .p0a a _ s⟩⟩,
    fun x s => ⟨eventInts true x, rfl, fun i => ⟨rfl, fun y => ?pending, fun y => ?waking⟩⟩, fun s => ?wake⟩
  case lines =>
    obtain ⟨f, hf, hframe, hbits⟩ := inputLines_events hreset
    intro t new event
    have ht : t = byInts (levelled s) f := hf
    have hshpend : t.ints.shpend = (levelled s).ints.shpend := by rw [ht, byInts, hframe]
    have hevent : ∀ x, event x = lineHas s.inp (levelled s).ints x := by
      intro x
      have hshared : decide (∃ j : Fin 8, j.val / 4 = x.val ∧ t.ints.shpend.getLsbD j = true ∧
          s.ints.mask.getLsbD (8 + j) = false) = sharedActive (levelled s).ints x := by
        rw [Bool.eq_iff_iff, decide_eq_true_iff, sharedActive_iff, hshpend]
        rfl
      simp only [event, lineHas, hshared]
    refine ⟨by rw [ht]; rfl, by rw [ht]; rfl, fun j => ?_, fun x => ?_, ?_⟩
    · rw [hshpend, ← getLsbD_sharedEdges, ← BitVec.getLsbD_or]
      rfl
    · rw [hevent, ht]
      exact hbits (levelled s).ints x
    · rw [ht, byInts, hframe]
      rfl
  case pending =>
    rw [(getLsbD_eventInts true x i y).1, Bool.and_true, decide_eq_decide.mpr Fin.ext_iff]
  case waking =>
    rw [(getLsbD_eventInts true x i y).2, Bool.and_true, decide_eq_decide.mpr Fin.ext_iff]
  case wake =>
    intro ready
    have hready : wakeReady s = true ↔ ready := wakeReady_iff s
    refine ⟨fun hasleep h => ?_, fun h => ?_, fun hfatal hd => ?_, ctrlWrite_start_running⟩
    · rw [wake, hasleep, hready.mpr h]
      rfl
    · rw [wake, if_neg]
      rw [Bool.and_eq_true, hready]
      exact fun hboth => h.elim (fun hawake => Bool.false_ne_true (hawake.symm.trans hboth.1)) fun hno => hno hboth.2
    · rw [ctrlWrite_command (by simp) hfatal fun _ => hd, hd]
      rfl

end Sys2Proof.Machine
end

section
/-! SUPPORT. The writes of MGCCTRL, the software reset and MGCSTAT (R56, R1061 to R1070, R1201), and the mutex register (R1160). -/

namespace Sys2Proof.Machine

open Sys2Proof.Claims

/-! ## MGCCTRL: set/clear pairs (R1062, R1064, R1100, R1103) -/

theorem ctrlBoth_iff (w : BitVec 32) :
    (bothOf w 0 1 || ctrlPairs.any fun i => bothOf w i (i + 1)) = true ↔ ∃ k ∈ 0 :: ctrlPairs, Both w k := by
  simp only [Bool.or_eq_true, List.any_eq_true, bothOf_iff w, List.exists_mem_cons_iff]

theorem ctrlWrite_both {w : BitVec 32} (s : State) (h31 : w.getLsbD 31 = false) (h : ∃ k ∈ 0 :: ctrlPairs, Both w k) :
    ctrlWrite w s = .refused .controlPair := by
  unfold ctrlWrite
  rw [h31, (ctrlBoth_iff w).mpr h]
  rfl

theorem ctrlWrite_decompressor {w : BitVec 32} (s : State) (h31 : w.getLsbD 31 = false)
    (h : ∀ k ∈ 0 :: ctrlPairs, ¬ Both w k) (h11 : w.getLsbD 11 = true) : ctrlWrite w s = .refused .decompressor := by
  unfold ctrlWrite
  rw [h31, Bool.eq_false_iff.mpr (mt (ctrlBoth_iff w).mp fun ⟨k, hk, hb⟩ => h k hk hb), h11]
  rfl

/-- The mode bits after a word without both bits of a pair. -/
theorem ctrlModes_setClear {w : BitVec 32} (h : ∀ k ∈ ctrlPairs, ¬ Both w k) (m : Mode) : ctrlModes w m = { m with
    gbreak := setClear w 5 m.gbreak, step := setClear w 7 m.step, ct := setClear w 9 m.ct, decopen := setClear w 11 m.decopen
    watchen := setClear w 13 m.watchen, pty2break := setClear w 15 m.pty2break, intovfen := setClear w 17 m.intovfen
    pmcheck := setClear w 19 m.pmcheck, pmuen := setClear w 21 m.pmuen, ticken := setClear w 23 m.ticken
    lock := setClear w 25 m.lock, allfatal := setClear w 27 m.allfatal, nonefatal := setClear w 29 m.nonefatal } := by
  have hpair : ∀ k ∈ ctrlPairs, ∀ b, pairBit w k b = setClear w k b := fun k hk b => pairBit_eq_setClear (h k hk) b
  simp only [ctrlPairs, List.forall_mem_cons, List.not_mem_nil, false_implies, implies_true, and_true] at hpair
  simp only [ctrlModes, hpair]

/-- A word without continue, stop and start only sets and clears sleep beside the mode bits. -/
theorem ctrlRun_plain {w : BitVec 32} (h2 : w.getLsbD 2 = false) (h3 : w.getLsbD 3 = false) (h4 : w.getLsbD 4 = false)
    (dbg : Bool) (s : State) :
    ctrlRun w dbg s = s.setMode { s.mode with asleep := (s.mode.asleep || w.getLsbD 0) && !w.getLsbD 1 } := by
  simp only [ctrlRun, h2, h3, h4, Bool.false_and, Bool.false_eq_true, if_false]

theorem getLsbD_of_and_eq_zero {n : Nat} {v m : BitVec n} (h : v &&& m = 0) {k : Nat} (hk : m.getLsbD k = true) :
    v.getLsbD k = false := by
  have hbit := congrArg (fun x => BitVec.getLsbD x k) h
  simpa [hk] using hbit

/-- A word of sleepon, sleepoff and mode pairs acts bit by bit. -/
theorem ctrlWrite_pairs {w : BitVec 32} {s : State} (h31 : w.getLsbD 31 = false) (h : ∀ k ∈ 0 :: ctrlPairs, ¬ Both w k)
    (h11 : w.getLsbD 11 = false) (hrun : w &&& 0x1C = 0)
    (hfatal : ((ctrlModes w s.mode).allfatal && (ctrlModes w s.mode).nonefatal) = false) :
    ctrlWrite w s = .next (s.setMode { ctrlModes w s.mode with asleep := setClear w 0 s.mode.asleep }) := by
  have hpairs := Bool.eq_false_iff.mpr (mt (ctrlBoth_iff w).mp fun ⟨k, hk, hb⟩ => h k hk hb)
  have h4 : w.getLsbD 4 = false := getLsbD_of_and_eq_zero hrun (by decide)
  have hsleep : ((s.mode.asleep || w.getLsbD 0) && !w.getLsbD 1) = setClear w 0 s.mode.asleep :=
    set_clear_apart _ _ _ (h 0 List.mem_cons_self)
  rw [ctrlWrite_modes h31 hpairs h11 (.inl h4) hfatal,
    ctrlRun_plain (getLsbD_of_and_eq_zero hrun (by decide)) (getLsbD_of_and_eq_zero hrun (by decide)) h4, ← hsleep]
  rfl

/-! ## The commands of MGCCTRL (R1064, R1066) -/

theorem ctrlRun_continue (dbg : Bool) (s : State) :
    ctrlRun 0x04 dbg s = s.setMode (if dbg then clearBreaks s.mode else s.mode) := by
  cases dbg <;> simp [ctrlRun, clearBreaks]

theorem ctrlRun_stop (dbg : Bool) (s : State) : ctrlRun 0x08 dbg s = s.setMode { s.mode with stop := true, start := false } := by
  simp [ctrlRun]

theorem ctrlModes_gbreakon (m : Mode) : ctrlModes 0x20 m = { m with gbreak := true } := by
  simp [ctrlModes, pairBit]

theorem ctrlModes_gbreakoff (m : Mode) : ctrlModes 0x40 m = { m with gbreak := false } := by
  simp [ctrlModes, pairBit]

/-! ## The software reset (R1201) -/

theorem busyBits_ne_zero_iff (s : State) : (busyBits s != 0) = true ↔ ∃ c, chanBusy s c = true := by
  have all : ∀ f : BitVec 2 → Bool, (f 0 || f 1 || f 2 || f 3) = true ↔ ∃ c, f c = true := by decide
  rw [busyBits, fourFlags_ne_zero]
  exact all (chanBusy s)

theorem ctrlWrite_resetBusy {w : BitVec 32} {s : State} (h31 : w.getLsbD 31 = true) (h : ∃ c, chanBusy s c = true) :
    ctrlWrite w s = .refused .resetBusy := by
  unfold ctrlWrite softReset
  rw [if_pos h31, if_pos ((busyBits_ne_zero_iff s).mpr h)]

/-- The state that the software reset leaves. -/
def softened (s : State) : State := { s with
  regs := { Regs.reset with
    branch := s.regs.branch, rept := s.regs.rept, gp0 := s.regs.gp0, gp1 := s.regs.gp1, gp2 := s.regs.gp2, watch := s.regs.watch }
  mode := { Mode.reset with maxstage := s.mode.maxstage }
  dma := { s.dma with curLen := 0 }
  ints := { Ints.reset with svr := s.ints.svr, ret := s.ints.ret }
  pend := [], ports := [], turns := [], landed := false, held := none, resetNow := true }

theorem ctrlWrite_softReset {w : BitVec 32} {s : State} (h31 : w.getLsbD 31 = true) (h : ∀ c, chanBusy s c = false) :
    ctrlWrite w s = .next (softened s) := by
  have hidle : ¬ (busyBits s != 0) = true := by
    rw [busyBits_ne_zero_iff]
    rintro ⟨c, hc⟩
    exact Bool.false_ne_true ((h c).symm.trans hc)
  unfold ctrlWrite softReset
  rw [if_pos h31, if_neg hidle]
  rfl

/-- The same state with everything at reset that the registers with a reset value read. -/
def hardened (s : State) : State := { softened s with
  regs := Regs.reset, mode := Mode.reset, ints := Ints.reset, dma := Dma.reset, pmu := Pmu.reset }

theorem firstRead_flow {a : BitVec 7} (h : a.toNat < 0x14) (s : State) : firstRead s a = flowRead s a.toNat := if_pos h

theorem firstRead_sys {a : BitVec 7} (h : 0x70 ≤ a.toNat) (s : State) : firstRead s a = sysRead s a.toNat := by
  unfold firstRead
  dsimp only
  rw [if_neg (by omega), if_neg (by omega), if_neg (by omega), if_neg (by omega), if_neg (by omega), if_neg (by omega),
    if_neg (by omega)]

/-- The FLOW registers with a reset value, at 0x00 to 0x13 and at 0x70 to 0x7F (R110). -/
def flowResets : List Nat := [0x0, 0x1, 0x2, 0x3, 0x4, 0x5, 0x6, 0x8, 0x9, 0xB, 0xC, 0xE, 0xF, 0x10]
def sysResets : List Nat := [0x70, 0x79, 0x7A, 0x7B, 0x7D, 0x7F]

theorem flowRead_softened (s : State) : ∀ n ∈ flowResets, flowRead (softened s) n = flowRead (hardened s) n := by
  simp only [flowResets, List.forall_mem_cons, List.not_mem_nil, false_implies, implies_true, and_true]
  exact ⟨rfl, rfl, rfl, rfl, rfl, rfl, rfl, rfl, rfl, rfl, rfl, rfl, rfl, rfl⟩

theorem sysRead_softened (s : State) : ∀ n ∈ sysResets, sysRead (softened s) n = sysRead (hardened s) n := by
  simp only [sysResets, List.forall_mem_cons, List.not_mem_nil, false_implies, implies_true, and_true]
  exact ⟨rfl, rfl, rfl, rfl, rfl, rfl⟩

theorem resetRegisters_ranges : ∀ r ∈ resetRegisters,
    (r.1.toNat < 0x14 ∧ r.1.toNat ∈ flowResets) ∨ r.1 = 0x6C ∨ r.1 = 0x6F ∨ (0x70 ≤ r.1.toNat ∧ r.1.toNat ∈ sysResets) := by
  simp [resetRegisters, flowResets, sysResets]

theorem softened_reads_hardened (s : State) :
    ∀ r ∈ resetRegisters, r.1 ≠ 0x6F → firstRead (softened s) r.1 = firstRead (hardened s) r.1 := by
  intro r hr hne
  rcases resetRegisters_ranges r hr with ⟨hlow, hflow⟩ | hlen | hstat | ⟨hhigh, hsys⟩
  · rw [firstRead_flow hlow, firstRead_flow hlow, flowRead_softened s _ hflow]
  · rw [hlen]
    rfl
  · exact absurd hstat hne
  · rw [firstRead_sys hhigh, firstRead_sys hhigh, sysRead_softened s _ hsys]

/-- The registers with a reset value read it; MGCDMASTAT keeps the engine's own flags. -/
theorem softened_reads {s : State} (h : s.dbgReq = false) :
    ∀ r ∈ resetRegisters, r.1 ≠ 0x6F → firstRead (softened s) r.1 = r.2 :=
  fun r hr hne => (softened_reads_hardened s r hr hne).trans
    ((State.AtReset.hasResetValues ⟨rfl, rfl, rfl, rfl, rfl, h⟩ : HasResetValues (hardened s)).1 r hr)

theorem softened_keeps (s : State) : ∀ a ∈ [0x07#7, 0x0A, 0x0D, 0x11, 0x12, 0x13, 0x71, 0x72, 0x73, 0x74, 0x75, 0x76, 0x77,
    0x78, 0x7E], firstRead (softened s) a = firstRead s a := by
  simp only [List.forall_mem_cons, List.not_mem_nil, false_implies, implies_true, and_true]
  refine ⟨?_, ?_, ?_, ?_, ?_, ?_, ?_, ?_, ?_, ?_, ?_, ?_, ?_, ?_, ?_⟩ <;> rfl

/-! ## The write lock, and MGCSTAT (R56, R112, R1069) -/

theorem flowWrite_ctrl (who : Writer) (w : BitVec 32) (s : State) : firstWrite who 0x00 w s =
    if who == .core && s.mode.lock then .next (raise .ctrlockex s) else ctrlWrite w s := rfl

theorem firstWrite_stat (who : Writer) (v : BitVec 32) (s : State) :
    firstWrite who 0x01 v s = .next (setWat who ((statWord s &&& v) == v) s) := rfl

/-- Settles O57: pairs by `ctrlWrite_pairs`, the reset by `softened`, MGCSTAT by its bits, the commands by `ctrlWrite_command`. -/
theorem controlRegister : Obligations.ControlRegister := by
  refine ⟨fun s w => ⟨fun h => ?_, fun h => ?_, rfl⟩, fun s w => ?acts, fun s v => ⟨statWord_bits s, ?test, rfl⟩,
    fun s hfatal => ?commands⟩
  · rw [flowWrite_ctrl, h]
    rfl
  · rw [flowWrite_ctrl, h]
    rfl
  case acts =>
    intro pairs m
    refine ⟨fun h31 => ⟨ctrlWrite_both s h31, fun hno => ⟨ctrlWrite_decompressor s h31 hno, fun h11 hm hrun => ?_⟩⟩,
      ctrlWrite_resetBusy, fun h31 hidle => ⟨_, ctrlWrite_softReset h31 hidle, softened_reads, softened_keeps s, rfl, rfl,
        rfl, rfl, rfl, rfl, rfl, rfl, rfl⟩⟩
    have hmodes := ctrlModes_setClear (fun k hk => hno k (List.mem_cons_of_mem 0 hk)) s.mode
    have hfatal : ((ctrlModes w s.mode).allfatal && (ctrlModes w s.mode).nonefatal) = false := by
      rw [hmodes]
      exact hm
    rw [ctrlWrite_pairs h31 hno h11 hrun hfatal, hmodes]
    rfl
  case test =>
    refine ⟨_, (firstWrite_stat .core v s).trans (congrArg Host.Outcome.next (setWat_frame .core _ s)), ?_⟩
    exact setWat_cond .core _ s
  case commands =>
    have hcontinue := ctrlWrite_command (w := 0x04) (by simp) hfatal fun h => absurd h (by decide)
    have hstop := ctrlWrite_command (w := 0x08) (by simp) hfatal fun h => absurd h (by decide)
    refine ⟨fun hd => ?_, fun hd => ?_, ⟨?_, rfl⟩, ⟨?_, ?_⟩, ?_⟩
    · rw [hcontinue, hd, ctrlRun_continue]
      rfl
    · rw [hcontinue, hd, ctrlRun_continue]
      rfl
    · rw [hstop, ctrlRun_stop]
      rfl
    · rw [ctrlWrite_pairs (by decide) (by decide) (by decide) (by decide) (by rwa [ctrlModes_gbreakon]), ctrlModes_gbreakon]
      rfl
    · simp [inDebug, innerBreak, withMode]
    · rw [ctrlWrite_pairs (by decide) (by decide) (by decide) (by decide) (by rwa [ctrlModes_gbreakoff]), ctrlModes_gbreakoff]
      rfl

/-! ## The mutex register (R1160) -/

/-- The mutex x is locked by this writer. -/
def ownedBy (host : Bool) (r : Regs) (x : Nat) : Bool := r.mutexLocked.getLsbD x && r.mutexOwner.getLsbD x == host

/-- The operation on mutex x succeeds. -/
def MutexGoes (host : Bool) (w : BitVec 32) (r : Regs) (x : Nat) : Prop :=
  (w.getLsbD x = true → r.mutexLocked.getLsbD x = false) ∧ (w.getLsbD (16 + x) = true → ownedBy host r x = true)

/-- The lock bit of mutex x after its operation. -/
def lockedNext (host : Bool) (w : BitVec 32) (r : Regs) (x : Nat) : Bool :=
  if w.getLsbD x then true else if w.getLsbD (16 + x) && ownedBy host r x then false else r.mutexLocked.getLsbD x

/-- The owner bit of mutex x after its operation. -/
def ownerNext (host : Bool) (w : BitVec 32) (r : Regs) (x : Nat) : Bool :=
  if w.getLsbD x && !r.mutexLocked.getLsbD x then host else r.mutexOwner.getLsbD x

/-- The mutex registers after the operations on the mutexes below n. -/
structure MutexDone (host : Bool) (w : BitVec 32) (r : Regs) (n : Nat) (t : Regs × Bool) : Prop where
  frame : t.1 = { r with mutexLocked := t.1.mutexLocked, mutexOwner := t.1.mutexOwner }
  locked : ∀ x, x < 16 → t.1.mutexLocked.getLsbD x = if x < n then lockedNext host w r x else r.mutexLocked.getLsbD x
  owner : ∀ x, x < 16 → t.1.mutexOwner.getLsbD x = if x < n then ownerNext host w r x else r.mutexOwner.getLsbD x
  ok : t.2 = true ↔ ∀ x, x < n → MutexGoes host w r x

theorem mutexStep_zero_done (host : Bool) (w : BitVec 32) (r : Regs) : MutexDone host w r 0 (mutexStep host w r 0) :=
  ⟨rfl, fun _ _ => rfl, fun _ _ => rfl, by simp [mutexStep]⟩

/-- One operation more: the bits of mutex n become their next values and the success takes in its own. -/
theorem MutexDone.succ {host : Bool} {w : BitVec 32} {r : Regs} {n : Nat} {t u : Regs × Bool} (h : MutexDone host w r n t)
    (hn : n < 16) (hframe : u.1 = { t.1 with mutexLocked := u.1.mutexLocked, mutexOwner := u.1.mutexOwner })
    (hlocked : ∀ x, x < 16 → u.1.mutexLocked.getLsbD x = if x = n then lockedNext host w t.1 n else t.1.mutexLocked.getLsbD x)
    (howner : ∀ x, x < 16 → u.1.mutexOwner.getLsbD x = if x = n then ownerNext host w t.1 n else t.1.mutexOwner.getLsbD x)
    (hok : u.2 = true ↔ t.2 = true ∧ MutexGoes host w t.1 n) : MutexDone host w r (n + 1) u := by
  have hl : t.1.mutexLocked.getLsbD n = r.mutexLocked.getLsbD n := by rw [h.locked n hn, if_neg (lt_irrefl n)]
  have ho : t.1.mutexOwner.getLsbD n = r.mutexOwner.getLsbD n := by rw [h.owner n hn, if_neg (lt_irrefl n)]
  have hown : ownedBy host t.1 n = ownedBy host r n := by rw [ownedBy, ownedBy, hl, ho]
  refine ⟨?_, fun x hx => ?_, fun x hx => ?_, ?_⟩
  · rw [hframe, h.frame]
  · have hstep : lockedNext host w t.1 n = lockedNext host w r n := by rw [lockedNext, lockedNext, hown, hl]
    rw [hlocked x hx, hstep, h.locked x hx]
    rcases lt_trichotomy x n with hlt | rfl | hgt
    · rw [if_neg hlt.ne, if_pos hlt, if_pos (by omega)]
    · rw [if_pos rfl, if_pos (by omega)]
    · rw [if_neg hgt.ne', if_neg (by omega), if_neg (by omega)]
  · have hstep : ownerNext host w t.1 n = ownerNext host w r n := by rw [ownerNext, ownerNext, hl, ho]
    rw [howner x hx, hstep, h.owner x hx]
    rcases lt_trichotomy x n with hlt | rfl | hgt
    · rw [if_neg hlt.ne, if_pos hlt, if_pos (by omega)]
    · rw [if_pos rfl, if_pos (by omega)]
    · rw [if_neg hgt.ne', if_neg (by omega), if_neg (by omega)]
  · have hgoes : MutexGoes host w t.1 n ↔ MutexGoes host w r n := by rw [MutexGoes, MutexGoes, hown, hl]
    rw [hok, hgoes, h.ok, ← Nat.forall_lt_succ_right]

/-- The operation on mutex n, after those below it. -/
def mutexOp (host : Bool) (w : BitVec 32) (n : Nat) (t : Regs × Bool) : Regs × Bool :=
  if w.getLsbD n then
    if t.1.mutexLocked.getLsbD n then (t.1, false)
    else ({ t.1 with mutexLocked := putBit t.1.mutexLocked n true, mutexOwner := putBit t.1.mutexOwner n host }, t.2)
  else if w.getLsbD (16 + n) then
    if ownedBy host t.1 n then ({ t.1 with mutexLocked := putBit t.1.mutexLocked n false }, t.2) else (t.1, false)
  else t

theorem mutexStep_succ (host : Bool) (w : BitVec 32) (r : Regs) (n : Nat) :
    mutexStep host w r (n + 1) = mutexOp host w n (mutexStep host w r n) := rfl

theorem MutexDone.op {host : Bool} {w : BitVec 32} {r : Regs} {n : Nat} {t : Regs × Bool} (h : MutexDone host w r n t)
    (hn : n < 16) (hapart : ¬(w.getLsbD n = true ∧ w.getLsbD (16 + n) = true)) :
    MutexDone host w r (n + 1) (mutexOp host w n t) := by
  unfold mutexOp
  cases hlock : w.getLsbD n with
  | true =>
    have hunlock : w.getLsbD (16 + n) = false := Bool.eq_false_iff.mpr fun hu => hapart ⟨hlock, hu⟩
    cases hl : t.1.mutexLocked.getLsbD n with
    | true =>
      refine h.succ hn rfl (fun x _ => ?_) (fun x _ => ?_) ?_
      · by_cases hx : x = n <;> simp [hx, lockedNext, hlock, hl]
      · by_cases hx : x = n <;> simp [hx, ownerNext, hl]
      · simp [MutexGoes, hlock, hl]
    | false =>
      refine h.succ hn rfl (fun x hx => ?_) (fun x hx => ?_) ?_
      · simp [getLsbD_putBit _ _ _ _ hx, lockedNext, hlock]
      · simp [getLsbD_putBit _ _ _ _ hx, ownerNext, hlock, hl]
      · simp [MutexGoes, hl, hunlock]
  | false =>
    cases hunlock : w.getLsbD (16 + n) with
    | true =>
      cases ho : ownedBy host t.1 n with
      | true =>
        refine h.succ hn rfl (fun x hx => ?_) (fun x hx => ?_) ?_
        · simp [getLsbD_putBit _ _ _ _ hx, lockedNext, hlock, hunlock, ho]
        · by_cases hx : x = n <;> simp [hx, ownerNext, hlock]
        · simp [MutexGoes, hlock, ho]
      | false =>
        refine h.succ hn rfl (fun x hx => ?_) (fun x hx => ?_) ?_
        · by_cases hx : x = n <;> simp [hx, lockedNext, hlock, ho]
        · by_cases hx : x = n <;> simp [hx, ownerNext, hlock]
        · simp [MutexGoes, hunlock, ho]
    | false =>
      refine h.succ hn rfl (fun x hx => ?_) (fun x hx => ?_) ?_
      · by_cases hx : x = n <;> simp [hx, lockedNext, hlock, hunlock]
      · by_cases hx : x = n <;> simp [hx, ownerNext, hlock]
      · simp [MutexGoes, hlock, hunlock]

theorem mutexStep_done (host : Bool) {w : BitVec 32} (r : Regs)
    (hapart : ∀ x, x < 16 → ¬(w.getLsbD x = true ∧ w.getLsbD (16 + x) = true)) (n : Nat) (hn : n ≤ 16) :
    MutexDone host w r n (mutexStep host w r n) := by
  induction n with
  | zero => exact mutexStep_zero_done host w r
  | succ n ih => exact (ih (by omega)).op hn (hapart n hn)

theorem mutexWrite_apart (who : Writer) {w : BitVec 32} (s : State)
    (hapart : ∀ x, x < 16 → ¬(w.getLsbD x = true ∧ w.getLsbD (16 + x) = true)) :
    mutexWrite who w s = .next (setWat who (mutexStep (who == .host) w s.regs 16).2
      (s.setRegs (mutexStep (who == .host) w s.regs 16).1)) := by
  have hnone : ¬ (w.setWidth 16 &&& (w.extractLsb' 16 16 : BitVec 16) != 0) = true := by
    rw [and_ne_zero_iff]
    rintro ⟨x, hlock, hunlock⟩
    exact hapart x x.isLt (by simpa using And.intro hlock hunlock)
  unfold mutexWrite
  rw [if_neg hnone]

/-- WATcond, bit 10 of MGCCONDITION, by a mask. -/
theorem setWat_watcond (who : Writer) (ok : Bool) (s : State) : (setWat who ok s).regs.cond =
    if who = .core then (s.regs.cond &&& ~~~0x0400) ||| (if ok then 0x0400 else 0) else s.regs.cond := by
  cases who with
  | core =>
    have hmask : bitAt 16 10 &&& condWritable = 0x0400 := by decide
    have hval : flag 16 10 ok &&& 0x0400 = if ok then 0x0400 else 0 := by revert ok; decide
    rw [if_pos rfl, ← hval, ← hmask]
    rfl
  | host => rfl

/-- Settles O59: the operations are independent, mutex by mutex (`mutexStep_done`). -/
theorem mutexWrites : Obligations.MutexWrites := by
  intro who w s hapart owned
  obtain ⟨hframe, hlocked, howner, hok⟩ := mutexStep_done (who == .host) s.regs hapart 16 (le_refl 16)
  refine ⟨_, _, _, ?_, fun x hx => (hlocked x hx).trans (if_pos hx), fun x hx => (howner x hx).trans (if_pos hx), hok⟩
  rw [mutexWrite_apart who s hapart, setWat_frame, setWat_watcond, hframe]
  rfl

end Sys2Proof.Machine
end

section
/-! SUPPORT. The transfers of the DMA engine and of the PMU on channel 3, word by word (R970, R972, R1000 to R1008). -/

namespace Sys2Proof.Machine

open Sys2Proof.Claims

/-! ## The shadow registers step (R1006) -/

/-- The engine's registers after one word of channel x, n words of the bus to an internal word. -/
def Dma.stepped (x : BitVec 2) (n : Nat) (d : Dma) : Dma :=
  let c := d.chan x
  let seg : BitVec 4 := d.curInt.extractLsb' 16 4
  let ia : BitVec 16 := d.curInt.extractLsb' 0 16
  { d with
    curExt := (d.curExt &&& ~~~(c.extCirc.setWidth 32)) + ((d.curExt + c.extMod.setWidth 32) &&& c.extCirc.setWidth 32)
    curLen := d.curLen - 1
    part := if d.part.toNat + 1 = n then 0 else d.part + 1
    curInt := if d.part.toNat + 1 = n then seg ++ ((ia &&& ~~~c.intCirc) + ((ia + c.intMod) &&& c.intCirc)) else d.curInt }

theorem dmaAdvance_eq (x : BitVec 2) (d : Dma) :
    dmaAdvance x d = d.stepped x (segParts (d.curInt.extractLsb' 16 4)) := by
  have hia : d.curInt.setWidth 16 = d.curInt.extractLsb' 0 16 := BitVec.setWidth_eq_extractLsb' (by decide)
  simp only [dmaAdvance, Dma.advance, Dma.stepped, circStep, hia]

theorem sub_one_eq_zero_iff (v : BitVec 16) : v - 1 = 0 ↔ v = 1 := by
  constructor <;> intro h <;> bv_omega

/-- State t, in which one word of channel x has moved, after the registers of d have stepped; the last word ends the transfer. -/
def wordGone (x : BitVec 2) (d : Dma) (n : Nat) (t : State) : State :=
  if d.curLen = 1 then dmaEot x { t with dma := d.stepped x n } else { t with dma := d.stepped x n }

/-- State t with the transfer of channel x ended by an error of the bus, where the registers were those of d. -/
def wordFailed (x : BitVec 2) (d : Dma) (t : State) : State := raise .msterr { t with
  dma := { d.setChan x { d.chan x with busy := false, savedExt := some d.curExt, savedInt := some d.curInt } with
    running := none, err := true } }

/-! ## One word of a channel (R1004, R1006) -/

theorem dmaMove_channel {s : State} {x : BitVec 2} (h : s.dma.running = some (.channel x)) (r : BusReply) :
    dmaMove r s = dmaWord x r s := by
  unfold dmaMove
  rw [h]

/-- After the internal side of one word: the registers step, and the last word ends the transfer. -/
def wordDone (x : BitVec 2) (t : State) : State :=
  if (dmaAdvance x t.dma).curLen = 0 then dmaEot x (t.setDma (dmaAdvance x t.dma)) else t.setDma (dmaAdvance x t.dma)

/-- The state after the internal side of one word toward the bus. -/
def wordRead (seg : BitVec 4) (ia : BitVec 16) (s : State) : State :=
  let t := s.emit (.busWrite s.dma.curExt (dmaLoadWord seg ia s.dma.part.toNat s))
  if seg = 1 then t else dmLoad .p0a (segWord seg ia) t

theorem wordRead_dma (seg : BitVec 4) (ia : BitVec 16) (s : State) : (wordRead seg ia s).dma = s.dma := by
  unfold wordRead
  dsimp only
  split_ifs <;> rfl

section
variable {s : State} {seg : BitVec 4} {ia : BitVec 16} (hseg : s.dma.curInt.extractLsb' 16 4 = seg)
  (hia : s.dma.curInt.extractLsb' 0 16 = ia) (hrange : segRange seg ia = true) (x : BitVec 2) {r : BusReply}
include hseg

theorem wordDone_eq {t : State} (ht : t.dma = s.dma) : wordDone x t = wordGone x s.dma (segParts seg) t := by
  simp only [wordDone, wordGone, ht, dmaAdvance_eq, hseg, Dma.stepped, sub_one_eq_zero_iff]
  rfl

include hia hrange

/-- One word, by the direction of the transfer. -/
theorem dmaWord_eq (r : BusReply) : dmaWord x r s =
    if (s.dma.chan x).isRead then
      if r.ok then
        andThen (dmaStoreWord seg ia s.dma.part.toNat r.rdata (s.emit (.busRead s.dma.curExt))) fun t => .next (wordDone x t)
      else .next (dmaFail x (s.emit (.busRead s.dma.curExt)))
    else if seg != 1 && p0aConflict s (segWord seg ia) false then .fault .sameWordAccess
    else if r.ok then .next (wordDone x (wordRead seg ia s)) else .next (dmaFail x (wordRead seg ia s)) := by
  have hwidth : s.dma.curInt.setWidth 16 = ia := (BitVec.setWidth_eq_extractLsb' (by decide)).trans hia
  unfold dmaWord
  simp only [hwidth, hseg, hrange]
  rfl

section
variable (hread : (s.dma.chan x).isRead = true)
include hread

theorem dmaWord_stored (hok : r.ok = true) {t : State}
    (h : dmaStoreWord seg ia s.dma.part.toNat r.rdata (s.emit (.busRead s.dma.curExt)) = .next t) (ht : t.dma = s.dma) :
    dmaWord x r s = .next (wordGone x s.dma (segParts seg) t) := by
  rw [dmaWord_eq hseg hia hrange, if_pos hread, if_pos hok, h, andThen_next, wordDone_eq hseg x ht]

theorem dmaWord_clash (hok : r.ok = true)
    (h : dmaStoreWord seg ia s.dma.part.toNat r.rdata (s.emit (.busRead s.dma.curExt)) = .fault .sameWordAccess) :
    dmaWord x r s = .fault .sameWordAccess := by
  rw [dmaWord_eq hseg hia hrange, if_pos hread, if_pos hok, h, andThen_fault]

theorem dmaWord_nearPc (hok : r.ok = true)
    (h : dmaStoreWord seg ia s.dma.part.toNat r.rdata (s.emit (.busRead s.dma.curExt)) = .refused .programNearPc) :
    dmaWord x r s = .refused .programNearPc := by
  rw [dmaWord_eq hseg hia hrange, if_pos hread, if_pos hok, h, andThen_refused]

theorem dmaWord_readError (hok : r.ok = false) :
    dmaWord x r s = .next (wordFailed x s.dma (s.emit (.busRead s.dma.curExt))) := by
  rw [dmaWord_eq hseg hia hrange, if_pos hread, if_neg (ne_true_of_eq_false hok)]
  rfl

end

section
variable (hread : (s.dma.chan x).isRead = false)
include hread

theorem dmaWord_loaded (hfree : (seg != 1 && p0aConflict s (segWord seg ia) false) = false) : dmaWord x r s =
    .next (if r.ok then wordGone x s.dma (segParts seg) (wordRead seg ia s) else wordFailed x s.dma (wordRead seg ia s)) := by
  have hfail : dmaFail x (wordRead seg ia s) = wordFailed x s.dma (wordRead seg ia s) := by
    rw [wordFailed, ← wordRead_dma seg ia s]
    rfl
  rw [dmaWord_eq hseg hia hrange, if_neg (ne_true_of_eq_false hread), if_neg (ne_true_of_eq_false hfree),
    wordDone_eq hseg x (wordRead_dma seg ia s), hfail]
  split_ifs <;> rfl

theorem dmaWord_metWrite (hmet : (seg != 1 && p0aConflict s (segWord seg ia) false) = true) :
    dmaWord x r s = .fault .sameWordAccess := by
  rw [dmaWord_eq hseg hia hrange, if_neg (ne_true_of_eq_false hread), if_pos hmet]

end

end

/-! ## Words of data memory (R1004, R188, R189) -/

section
variable {w : DmView} {a : Nat} (ha : a < 0x4000)
include ha

theorem segWord_view : segWord (segOf w) (internal w a) = a :=
  segWord_internal (k := 0) ha (by cases w <;> decide)

theorem segRange_view : segRange (segOf w) (internal w a) = true := by
  cases w with
  | int =>
    have hn : (BitVec.ofNat 16 a).toNat ≤ 0x3FFF := by rw [BitVec.toNat_ofNat]; omega
    simpa [segRange, segOf, internal] using hn
  | float =>
    have hn : (BitVec.ofNat 16 a).toNat ≤ 0x3FFF := by rw [BitVec.toNat_ofNat]; omega
    simpa [segRange, segOf, internal] using hn
  | full =>
    have hn : (BitVec.ofNat 16 (2 * a)).toNat ≤ 0x7FFE := by rw [BitVec.toNat_ofNat]; omega
    have heven : (BitVec.ofNat 16 (2 * a)).getLsbD 0 = false := by
      rw [BitVec.getLsbD_ofNat, Nat.testBit_zero]
      simp
    simpa [segRange, segOf, internal, ← BitVec.getLsbD_eq_getElem, heven] using hn

/-- A read through a view, of whatever part the engine has come to. -/
theorem dmaLoadWord_part (k : Nat) (s : State) : dmaLoadWord (segOf w) (internal w a) k s = seen w k (s.mem.dm a) := by
  rw [dmaLoadWord, if_neg (segOf_ne_program w), segView_segOf, segWord_view ha, Mem.viewRead, viewOf_eq_seen]

theorem dmaStoreWord_part (k : Nat) (v : BitVec 32) (s : State) : dmaStoreWord (segOf w) (internal w a) k v s =
    if p0aConflict s a true then .fault .sameWordAccess
    else .next (dmStore .p0a a (stored w k (p0aOld s a) v) s) := by
  rw [dmaStoreWord, if_neg (segOf_ne_program w), segView_segOf, segWord_view ha]
  simp only [viewMerge_eq_stored]

theorem wordRead_view (s : State) : wordRead (segOf w) (internal w a) s = { s with
    out := s.out ++ [.busWrite s.dma.curExt (seen w s.dma.part.toNat (s.mem.dm a))]
    acc := s.acc ++ [⟨.p0a, a, false, s.mem.dm a⟩] } := by
  rw [wordRead, if_neg (segOf_ne_program w), dmaLoadWord_part ha, segWord_view ha]
  rfl

end

theorem segParts_segOf (w : DmView) : segParts (segOf w) = partsOf w := by cases w <;> rfl

theorem p0aConflict_iff (s : State) (a : Nat) (wr : Bool) :
    p0aConflict s a wr = true ↔ ∃ y ∈ s.acc, y.addr = a ∧ y.port = .p0b ∧ (y.write = true ∨ wr = true) := by
  simp only [p0aConflict, List.any_eq_true, Bool.and_eq_true, Bool.or_eq_true, beq_iff_eq, and_assoc]

/-! ## Words of program memory (R1004, R195) -/

theorem dmaStoreWord_program (ia : BitVec 16) (k : Nat) (v : BitVec 32) (s : State) :
    dmaStoreWord 1 ia k v s = pmStore ia.toNat k v s := rfl

theorem pmStore_far {s : State} {p : Nat} (h : ¬ Near s p) (k : Nat) (v : BitVec 32) : pmStore p k v s = .next (pmLoad p k v s) := by
  rw [pmStore, if_neg (mt (nearPc_iff s p).mp h)]

theorem pmStore_near {s : State} {p : Nat} (h : Near s p) (k : Nat) (v : BitVec 32) :
    pmStore p k v s = .refused .programNearPc := by
  rw [pmStore, if_pos ((nearPc_iff s p).mpr h)]

theorem wordRead_program (ia : BitVec 16) (s : State) : wordRead 1 ia s = { s with
    out := s.out ++ [.busWrite s.dma.curExt (partOf s.dma.part.toNat (s.mem.pm ia.toNat))] } := by
  rw [partOf_pm _ _ s.dma.part.isLt]
  rfl

theorem sameOutside_setPmPart (m : Mem) (p k : Nat) (v : BitVec 32) : SameOutside (pmByte p + 4 * k) 4 m (m.setPmPart p k v) :=
  fun _ h => Mem.read_setPmPart_other m p k v h

theorem segRange_program {ia : BitVec 16} (h : ia.toNat ≤ 0x1FFF) : segRange 1 ia = true := by
  simp [segRange, h]

/-- Settles O49: each word by `dmaWord_eq`'s branches; the internal side changes the word of its address alone. -/
theorem dmaWords : Obligations.DmaWords := by
  intro s x r hs hrun d c seg ia k fail go
  have hmove := dmaMove_channel hrun r
  refine ⟨fun w a ha hseg hia => ?data, fun hseg hia => ?program⟩
  case data =>
    have hrange := segRange_view (w := w) ha
    refine ⟨fun hread hfree => ?_, fun hread hok hfree => ?_, fun hread hok => ?_, fun y hy hya hport hdir => ?_⟩
    · have hno : (segOf w != 1 && p0aConflict s (segWord (segOf w) (internal w a)) false) = false := by
        rw [segWord_view ha, Bool.and_eq_false_imp]
        refine fun _ => Bool.eq_false_iff.mpr fun hmet => ?_
        obtain ⟨y, hy, hya, hport, hwrite | hfalse⟩ := (p0aConflict_iff s a false).mp hmet
        · exact Bool.false_ne_true ((hfree y hy hya hport).symm.trans hwrite)
        · exact Bool.false_ne_true hfalse
      intro t
      rw [hmove, dmaWord_loaded hseg hia hrange x hread hno, wordRead_view ha, segParts_segOf]
      rfl
    · have hword : dmaStoreWord (segOf w) (internal w a) k r.rdata (s.emit (.busRead d.curExt)) =
          .next (dmStore .p0a a (stored w k (s.mem.dm a) r.rdata) (s.emit (.busRead d.curExt))) := by
        have hold : p0aOld (s.emit (.busRead d.curExt)) a = s.mem.dm a := p0aOld_untouched hfree
        rw [dmaStoreWord_part ha, hold, if_neg]
        rw [p0aConflict_iff]
        rintro ⟨y, hy, hya, -⟩
        exact hfree y hy hya
      refine ⟨dmStore .p0a a (stored w k (s.mem.dm a) r.rdata) (s.emit (.busRead d.curExt)), ?_, ?_⟩
      · rw [hmove, dmaWord_stored hseg hia hrange x hread hok hword (dmStore_dma ..), segParts_segOf]
        rfl
      · simp only [dmStore_mem, dmStore_out, dmStore_rf, dmStore_arf, dmStore_regs, dmStore_pmu, Mem.dm_setDm_same hs.mem,
          emit_mem, emit_rf, emit_arf, emit_regs, emit_pmu, and_true, true_and]
        exact ⟨sameOutside_setDm s.mem a _, rfl⟩
    · rw [hmove, dmaWord_readError hseg hia hrange x hread hok]
      rfl
    · rw [hmove]
      rcases hdir with ⟨hread, hwrite⟩ | ⟨hread, hok⟩
      · refine dmaWord_metWrite hseg hia hrange x hread ?_
        rw [segWord_view ha, Bool.and_eq_true, bne_iff_ne]
        exact ⟨segOf_ne_program w, (p0aConflict_iff s a false).mpr ⟨y, hy, hya, hport, .inl hwrite⟩⟩
      · refine dmaWord_clash hseg hia hrange x hread hok ?_
        have hmet := (p0aConflict_iff (s.emit (.busRead s.dma.curExt)) a true).mpr ⟨y, hy, hya, hport, .inr rfl⟩
        rw [dmaStoreWord_part ha, if_pos hmet]
  case program =>
    have hrange := segRange_program hia
    refine ⟨fun hread => ?_, fun hread hok hnear => ?_, fun hread hok hfar => ?_, fun hread hok => ?_⟩
    · intro t
      rw [hmove, dmaWord_loaded hseg rfl hrange x hread rfl, wordRead_program]
      rfl
    · rw [hmove]
      exact dmaWord_nearPc hseg rfl hrange x hread hok (pmStore_near (s := s.emit (.busRead d.curExt)) hnear k r.rdata)
    · refine ⟨pmLoad ia.toNat k r.rdata (s.emit (.busRead d.curExt)), ?_,
        fun i hi => partOf_setPmPart hs.mem ia.toNat hi d.part.isLt r.rdata, sameOutside_setPmPart s.mem ia.toNat k r.rdata,
        rfl, rfl, rfl, rfl, rfl, rfl, rfl⟩
      rw [hmove, dmaWord_stored hseg rfl hrange x hread hok
        (pmStore_far (s := s.emit (.busRead d.curExt)) hfar k r.rdata) rfl]
      rfl
    · rw [hmove, dmaWord_readError hseg rfl hrange x hread hok]
      rfl

end Sys2Proof.Machine
end

section
/-! SUPPORT. The PMU's chunk loads on channel 3 (R970, R972), and the engine that picks, moves and ends transfers (R1000 to R1008). -/

namespace Sys2Proof.Machine

open Sys2Proof.Claims

/-! ## A chunk load (R972) -/

section
variable {s : State} {j : PmuJob} (hj : s.pmu.job = some j)
include hj

theorem chanBusy_asked (ha : j.asked = true) : chanBusy s 3 = true := by
  rw [chanBusy, chunkAsked_eq, hj]
  simp [ha]

theorem dmaStat_asked (ha : j.asked = true) : (dmaStat s).getLsbD 3 = true ∧ (dmaStat s).getLsbD 8 = true := by
  refine ⟨(dmaStat_bits s 3).trans ?_, (dmaStat_bits s 8).trans ?_⟩
  · rw [dmaBits_eq]
    exact chanBusy_asked hj ha
  · rw [dmaBits_eq]
    show (_ || _ || _ || chanBusy s 3) = true
    rw [chanBusy_asked hj ha, Bool.or_true]

theorem dmaReady_asked (ha : j.asked = true) (hrun : s.dma.running = none) : dmaReady s = .next (chunkPick j s) := by
  unfold dmaReady
  rw [hrun, hj]
  exact if_pos ha

theorem dmaMove_chunk (hrun : s.dma.running = some .chunk) (r : BusReply) : dmaMove r s = chunkWord j r s := by
  unfold dmaMove
  rw [hrun, hj]

end

theorem dmaStat_run3 (s : State) :
    (dmaStat s).getLsbD 7 = (s.dma.running == some .chunk || s.dma.running == some (.channel 3)) := by
  refine (dmaStat_bits s 7).trans ?_
  rw [dmaBits_eq]
  show chanRuns s.dma 3 = _
  unfold chanRuns
  cases s.dma.running with
  | none => rfl
  | some t =>
    cases t with
    | chunk => rfl
    | channel x => revert x; decide

theorem dmaReady_running {s : State} {t : Transfer} (h : s.dma.running = some t) : dmaReady s = .next s := by
  unfold dmaReady
  rw [h]

/-- Where a chunk lies outside: the PMU's base, the chunk, 1024 bytes to each (Table 3-65). -/
theorem extAddr_eq (j : PmuJob) (ext : BitVec 12) : j.extAddr ext =
    (ext.setWidth 32 <<< 20) ||| ((j.va.extractLsb' 6 10 : BitVec 10).setWidth 32 <<< 10) := by
  apply BitVec.eq_of_getLsbD_eq
  intro i hi
  rw [PmuJob.extAddr, BitVec.getLsbD_append, BitVec.getLsbD_append, BitVec.getLsbD_or, BitVec.getLsbD_shiftLeft,
    BitVec.getLsbD_shiftLeft, BitVec.getLsbD_setWidth, BitVec.getLsbD_setWidth]
  rcases Nat.lt_or_ge i 10 with hlow | hlow
  · simp [hlow, show i < 20 by omega]
  rcases Nat.lt_or_ge i 20 with hmid | hmid
  · simp [hi, hmid, hlow, show i - 10 < 10 by omega, show i - 10 < 32 by omega]
  · simp [hi, show ¬ i < 10 by omega, show ¬ i < 20 by omega, show ¬ i - 10 < 10 by omega, show i - 20 < 32 by omega, Nat.sub_sub]

/-- Where a chunk goes: its page, its number in the page, 64 words to each. -/
theorem chunkBase_eq (j : PmuJob) : (1 : BitVec 4) ++ (j.base.setWidth 16 : BitVec 16) =
    1#4 ++ 0#3 ++ j.page ++ (j.va.extractLsb' 6 4 : BitVec 4) ++ 0#6 := by
  have hpad : (j.base.setWidth 16 : BitVec 16) = 0#3 ++ j.base := setWidth_eq_zeros_append 3 j.base
  rw [hpad, PmuJob.base, chunkOf]
  simp only [BitVec.append_assoc, BitVec.cast_eq]
  rfl

theorem chunkPick_eq (j : PmuJob) (s : State) : chunkPick j s = { s with dma := { s.dma with
    running := some .chunk
    curExt := (s.pmu.extAdd.setWidth 32 <<< 20) ||| ((j.va.extractLsb' 6 10 : BitVec 10).setWidth 32 <<< 10)
    curInt := 1#4 ++ 0#3 ++ j.page ++ (j.va.extractLsb' 6 4 : BitVec 4) ++ 0#6
    curLen := 256, part := 0 } } := by
  rw [← extAddr_eq, ← chunkBase_eq]
  rfl

/-- The engine's registers after one word of a chunk. -/
def Dma.chunkStepped (d : Dma) : Dma := { d with
  curExt := (d.curExt &&& ~~~0xFFFFF) + ((d.curExt + 4) &&& 0xFFFFF)
  curLen := d.curLen - 1
  part := d.part + 1
  curInt := if d.part = 3 then 1#4 ++ (d.curInt.extractLsb' 0 16 + 1 : BitVec 16) else d.curInt }

theorem advance_chunk {d : Dma} (h : d.curInt.extractLsb' 16 4 = 1#4) : d.advance 4 0xFFFFF 1 0xFFFF = d.chunkStepped := by
  have hlast : d.part.toNat + 1 = segParts 1#4 ↔ d.part = 3 := by
    rw [← BitVec.toNat_inj]
    exact Nat.succ_inj (a := d.part.toNat) (b := 3)
  have hia : (d.curInt.setWidth 16 &&& ~~~(0xFFFF : BitVec 16)) + ((d.curInt.setWidth 16 + 1) &&& 0xFFFF) =
      (d.curInt.extractLsb' 0 16 + 1 : BitVec 16) := by
    rw [BitVec.setWidth_eq_extractLsb' (by decide), show ~~~(0xFFFF : BitVec 16) = 0#16 by decide,
      show (0xFFFF : BitVec 16) = BitVec.allOnes 16 by decide, BitVec.and_zero, BitVec.zero_add, BitVec.and_allOnes]
  have hnext : (if d.part = 3 then 0 else d.part + 1) = d.part + 1 := by
    split_ifs with h3
    · rw [h3]
      rfl
    · rfl
  simp only [Dma.advance, Dma.chunkStepped, circStep, h, hlast, hia, hnext]

/-- The program word a chunk's next word goes to. -/
def chunkWordAt (d : Dma) : Nat := (d.curInt.extractLsb' 0 13 : BitVec 13).toNat

/-- State t, in which one word of chunk j has moved, after the registers of d have stepped; the last word ends the load. -/
def chunkGone (j : PmuJob) (d : Dma) (t : State) : State :=
  if d.curLen = 1 then (t.setDma (d.chunkStepped.finish 3 (d.chan 3).busy)).setPmu (t.pmu.loaded j)
  else t.setDma d.chunkStepped

section
variable {s : State} (j : PmuJob) (hint : s.dma.curInt.extractLsb' 16 4 = 1#4) (v : BitVec 32)
include hint

theorem chunkWord_ok : chunkWord j ⟨v, true⟩ s =
    andThen (pmStore (chunkWordAt s.dma) s.dma.part.toNat v (s.emit (.busRead s.dma.curExt))) fun t =>
      .next (chunkGone j s.dma t) := by
  have hat : (s.dma.curInt.setWidth 13 : BitVec 13).toNat = chunkWordAt s.dma := by
    rw [BitVec.setWidth_eq_extractLsb' (by decide), chunkWordAt]
  have hlast : s.dma.chunkStepped.curLen = 0 ↔ s.dma.curLen = 1 := sub_one_eq_zero_iff s.dma.curLen
  unfold chunkWord
  simp only [hat, advance_chunk hint, hlast]
  rfl

theorem chunkWord_near (h : Near s (chunkWordAt s.dma)) : chunkWord j ⟨v, true⟩ s = .refused .programNearPc := by
  rw [chunkWord_ok j hint, pmStore_near (s := s.emit (.busRead s.dma.curExt)) h, andThen_refused]

theorem chunkWord_far (h : ¬ Near s (chunkWordAt s.dma)) : chunkWord j ⟨v, true⟩ s =
    .next (chunkGone j s.dma (pmLoad (chunkWordAt s.dma) s.dma.part.toNat v (s.emit (.busRead s.dma.curExt)))) := by
  rw [chunkWord_ok j hint, pmStore_far (s := s.emit (.busRead s.dma.curExt)) h, andThen_next]

end

/-- The bit of a loaded chunk. -/
theorem mappedAt_loaded (p : Pmu) (j : PmuJob) (q : BitVec 3) : (p.loaded j).mappedAt q =
    if q = j.page then p.mappedAt j.page ||| (1#32 <<< (16 + (j.va.extractLsb' 6 4 : BitVec 4).toNat)) else p.mappedAt q := by
  rw [← BitVec.twoPow_eq]
  exact mappedAt_setMapped p j.page q _

/-- Settles O48: each word of a chunk is a word of program memory that the engine's registers name. -/
theorem chunkLoads : Obligations.ChunkLoads := by
  intro s j hs hj hasked d c saved p k d'
  obtain ⟨hbusy, hany⟩ := dmaStat_asked hj hasked
  refine ⟨⟨hbusy, hany, dmaStat_run3 s⟩, fun hrun => ?_, fun hrun hint => ⟨dmaReady_running hrun, fun v hnear => ?_,
    fun v hfar => ⟨_, (dmaMove_chunk hj hrun _).trans (chunkWord_far j hint v hfar), ?_⟩, fun v => ?_⟩⟩
  · rw [dmaReady_asked hj hasked hrun, chunkPick_eq]
  · rw [dmaMove_chunk hj hrun]
    exact chunkWord_near j hint v hnear
  · have hword : ∀ i, i < 4 → _ := fun i hi => partOf_setPmPart hs.mem p (i := i) (k := k) hi d.part.isLt v
    unfold chunkGone
    split_ifs with hlast
    · exact ⟨hword, sameOutside_setPmPart s.mem p k v, rfl, rfl, rfl, rfl, fun hne => absurd hlast hne, fun _ => ⟨rfl, rfl,
        (mappedAt_loaded ..).trans (if_pos rfl), fun q hq => (mappedAt_loaded ..).trans (if_neg hq), rfl⟩⟩
    · exact ⟨hword, sameOutside_setPmPart s.mem p k v, rfl, rfl, rfl, rfl, fun _ => ⟨rfl, rfl⟩, fun h => absurd h hlast⟩
  · rw [dmaMove_chunk hj hrun]
    rfl

end Sys2Proof.Machine
end

section
/-! SUPPORT. The engine picks, moves and ends transfers (R1000, R1003 to R1008, R152). -/

namespace Sys2Proof.Machine

open Sys2Proof.Claims

/-! ## Which channel wins (R1005) -/

theorem dmaWinner_some_iff (d : Dma) (x : BitVec 2) :
    dmaWinner d = some x ↔ (d.chan x).busy = true ∧ ∀ y, x < y → (d.chan y).busy = false := by
  have highest : ∀ (f : BitVec 2 → Bool) (x : BitVec 2),
      (if f 3 then some (3 : BitVec 2) else if f 2 then some 2 else if f 1 then some 1 else if f 0 then some 0 else none) =
        some x ↔ f x = true ∧ ∀ y, x < y → f y = false := by decide
  exact highest (fun c => (d.chan c).busy) x

theorem dmaWinner_none_iff (d : Dma) : dmaWinner d = none ↔ ∀ x, (d.chan x).busy = false := by
  have noneBusy : ∀ f : BitVec 2 → Bool,
      (if f 3 then some (3 : BitVec 2) else if f 2 then some 2 else if f 1 then some 1 else if f 0 then some 0 else none) =
        none ↔ ∀ x, f x = false := by decide
  exact noneBusy fun c => (d.chan c).busy

theorem dmaReady_idle {s : State} (hrun : s.dma.running = none) (hjob : s.pmu.job = none) : dmaReady s = dmaNext s := by
  unfold dmaReady
  rw [hrun, hjob]

theorem dmaNext_some {s : State} {x : BitVec 2} (h : dmaWinner s.dma = some x) : dmaNext s = dmaPick x s := by
  unfold dmaNext
  rw [h]

theorem dmaNext_none {s : State} (h : dmaWinner s.dma = none) : dmaNext s = .next s := by
  unfold dmaNext
  rw [h]

/-! ## What the engine picks (R1005) -/

/-- Where a transfer of a channel begins: its parameters, or the saved addresses in preserve mode. -/
def DmaChan.startExt (c : DmaChan) : Option (BitVec 32) := if c.prsvExt then c.savedExt else some c.extAdd
def DmaChan.startInt (c : DmaChan) : Option (BitVec 20) := if c.prsvInt then c.savedInt else some (c.seg ++ c.intAdd)

section
variable {s : State} {x : BitVec 2} {ext : Option (BitVec 32)} {int : Option (BitVec 20)}
  (hext : (s.dma.chan x).startExt = ext) (hint : (s.dma.chan x).startInt = int)
include hext hint

theorem dmaPick_undefined (h : ext = none ∨ int = none) : dmaPick x s = .fault .preserveUndefined := by
  unfold DmaChan.startExt at hext
  unfold DmaChan.startInt at hint
  unfold dmaPick
  simp only [hext, hint]
  rcases h with h | h
  · rw [h]
  · rw [h]
    cases ext <;> rfl

end

/-- The registers with the transfer of channel x loaded from external address e and internal address i. -/
def Dma.picked (x : BitVec 2) (e : BitVec 32) (i : BitVec 20) (d : Dma) : Dma :=
  { d with running := some (.channel x), curExt := e, curInt := i, curLen := (d.chan x).len, part := 0 }

theorem segKnown_of_mem {seg : BitVec 4} (h : seg ∈ [1#4, 2#4, 4#4, 8#4]) : segKnown seg = true := by
  revert h
  revert seg
  decide

/-- The internal words of a transfer are whole, and its addresses even where a word has two parts (R1004). -/
theorem internal_whole {seg : BitVec 4} {len : BitVec 16} {odd : Bool} (hseg : seg ∈ [1#4, 2#4, 4#4, 8#4])
    (hprog : seg = 1 → len.extractLsb' 0 2 = 0#2) (hfull : seg = 8 → odd = false ∧ len.getLsbD 0 = false) :
    ((seg = 8#4 && odd) || len.toNat % segParts seg != 0) = false := by
  simp only [List.mem_cons, List.not_mem_nil, or_false] at hseg
  rcases hseg with rfl | rfl | rfl | rfl
  · have h4 : len.toNat % 4 = 0 := by
      have hn := congrArg BitVec.toNat (hprog rfl)
      rwa [BitVec.extractLsb'_toNat, Nat.shiftRight_zero] at hn
    simp [segParts, h4]
  · simp [segParts, Nat.mod_one]
  · simp [segParts, Nat.mod_one]
  · obtain ⟨hodd, hlow⟩ := hfull rfl
    have h2 : len.toNat % 2 = 0 := by
      rw [BitVec.getLsbD, Nat.testBit_zero, decide_eq_false_iff_not] at hlow
      omega
    simp [segParts, hodd, h2]

section
variable {s : State} {x : BitVec 2} {e : BitVec 32} {i : BitVec 20}
  (hext : (s.dma.chan x).startExt = some e) (hint : (s.dma.chan x).startInt = some i)
  (hknown : (s.dma.chan x).seg ∈ [1#4, 2#4, 4#4, 8#4]) (hseg : i.extractLsb' 16 4 ∈ [1#4, 2#4, 4#4, 8#4])
include hext hint hknown hseg

theorem dmaPick_eq : dmaPick x s =
    if e.setWidth 2 != (0 : BitVec 2) || (s.dma.chan x).extMod.setWidth 2 != (0 : BitVec 2) then
      .next (dmaFail x (s.setDma (s.dma.picked x e i)))
    else if (i.extractLsb' 16 4 = 8#4 && (i.getLsbD 0 || (s.dma.chan x).intMod.getLsbD 0)) ||
        (s.dma.chan x).len.toNat % segParts (i.extractLsb' 16 4) != 0 then .refused .dmaInternal
    else .next (s.setDma (s.dma.picked x e i)) := by
  unfold DmaChan.startExt at hext
  unfold DmaChan.startInt at hint
  unfold dmaPick
  simp only [hext, hint, segKnown_of_mem hknown, segKnown_of_mem hseg]
  rfl

theorem dmaPick_aligned (he : e.extractLsb' 0 2 = 0#2) (hm : (s.dma.chan x).extMod.extractLsb' 0 2 = 0#2)
    (hprog : i.extractLsb' 16 4 = 1#4 → (s.dma.chan x).len.extractLsb' 0 2 = 0#2)
    (hfull : i.extractLsb' 16 4 = 8#4 → i.getLsbD 0 = false ∧ (s.dma.chan x).intMod.getLsbD 0 = false ∧
      (s.dma.chan x).len.getLsbD 0 = false) : dmaPick x s = .next (s.setDma (s.dma.picked x e i)) := by
  have hwhole := internal_whole (odd := i.getLsbD 0 || (s.dma.chan x).intMod.getLsbD 0) hseg hprog fun h8 => by
    obtain ⟨hi, hmod, hlen⟩ := hfull h8
    rw [hi, hmod]
    exact ⟨rfl, hlen⟩
  have haligned : ¬ (e.setWidth 2 != (0 : BitVec 2) || (s.dma.chan x).extMod.setWidth 2 != (0 : BitVec 2)) = true := by
    rw [BitVec.setWidth_eq_extractLsb' (by decide), BitVec.setWidth_eq_extractLsb' (by decide), he, hm]
    decide
  rw [dmaPick_eq hext hint hknown hseg, if_neg haligned, if_neg (ne_true_of_eq_false hwhole)]

theorem dmaPick_misaligned (h : e.extractLsb' 0 2 ≠ 0#2 ∨ (s.dma.chan x).extMod.extractLsb' 0 2 ≠ 0#2) :
    dmaPick x s = .next (dmaFail x (s.setDma (s.dma.picked x e i))) := by
  rw [dmaPick_eq hext hint hknown hseg, if_pos]
  rw [Bool.or_eq_true, bne_iff_ne, bne_iff_ne, BitVec.setWidth_eq_extractLsb' (by decide),
    BitVec.setWidth_eq_extractLsb' (by decide)]
  exact h

end

/-! ## Words one after another (R1000, R152) -/

theorem p0aTaken_iff (s : State) : p0aTaken s = true ↔ (∃ y ∈ s.acc, y.port = .p0a) ∧
    ∃ x, s.dma.running = some (.channel x) ∧ s.dma.curInt.extractLsb' 16 4 ≠ 1#4 := by
  unfold p0aTaken
  cases s.dma.running with
  | none => simp
  | some t => cases t <;> simp

/-- While P0A has made its access, a transfer of data memory stands. -/
theorem dmaMoves_taken {s : State} (h : p0aTaken s = true) (l : List BusReply) : dmaMoves l s = .next s := by
  obtain ⟨-, x, hrun, -⟩ := (p0aTaken_iff s).mp h
  cases l with
  | nil => rfl
  | cons r l => rw [dmaMoves, dmaReady_running hrun, andThen_next, if_pos h]

theorem dmaMoves_append (l m : List BusReply) : ∀ s, dmaMoves (l ++ m) s = andThen (dmaMoves l s) (dmaMoves m) := by
  induction l with
  | nil => exact fun s => rfl
  | cons r l ih =>
    intro s
    rw [List.cons_append, dmaMoves, dmaMoves, andThen_andThen]
    congr 1
    funext t
    by_cases h : p0aTaken t = true
    · rw [if_pos h, if_pos h, andThen_next, dmaMoves_taken h]
    · rw [if_neg h, if_neg h, andThen_andThen]
      congr 1
      exact funext ih

theorem dmaPick_acc {x : BitVec 2} {s t : State} (h : dmaPick x s = .next t) : t.acc = s.acc := by
  unfold dmaPick at h
  dsimp only at h
  split at h
  · split_ifs at h
    · cases h
      exact raise_acc ..
    · cases h
      rfl
  · cases h

theorem dmaNext_acc {s t : State} (h : dmaNext s = .next t) : t.acc = s.acc := by
  unfold dmaNext at h
  split at h
  · exact dmaPick_acc h
  · cases h
    rfl

theorem dmaReady_acc {s t : State} (h : dmaReady s = .next t) : t.acc = s.acc := by
  unfold dmaReady at h
  split at h
  · cases h
    rfl
  · split_ifs at h
    · cases h
      rfl
    · exact dmaNext_acc h
  · exact dmaNext_acc h

theorem dmaMoves_one {s : State} (hfree : ∀ y ∈ s.acc, y.port ≠ .p0a) (r : BusReply) :
    dmaMoves [r] s = andThen (dmaReady s) (dmaMove r) := by
  rw [dmaMoves]
  cases hready : dmaReady s with
  | next t =>
    have hno : ¬ p0aTaken t = true := by
      rw [p0aTaken_iff, dmaReady_acc hready]
      rintro ⟨⟨y, hy, hport⟩, -⟩
      exact hfree y hy hport
    rw [andThen_next, andThen_next, if_neg hno]
    exact andThen_next_self _
  | fault e => rfl
  | refused e => rfl

/-! ## The end of a transfer (R1008) -/

/-- Settles O60: the highest busy channel, its parameters, the words of one cycle in order, the end of a transfer. -/
theorem dmaTransfers : Obligations.DmaTransfers := by
  intro s
  refine ⟨dmaWinner_some_iff s.dma, dmaWinner_none_iff s.dma, fun hrun hjob => ⟨fun x hx => ?_, fun hnone => ?_⟩, fun hbus => ?_,
    fun hbus => ?_, fun t hrun => dmaReady_running hrun, fun l m => dmaMoves_append l m s, fun r hfree => dmaMoves_one hfree r,
    fun l x hport hrun hseg => dmaMoves_taken ((p0aTaken_iff s).mpr ⟨hport, x, hrun, hseg⟩) l, fun x => ?pick, fun x => ?eot⟩
  · rw [dmaReady_idle hrun hjob, dmaNext_some hx]
  · rw [dmaReady_idle hrun hjob, dmaNext_none hnone]
  · unfold dmaCycle
    rw [hbus]
  · unfold dmaCycle
    split
    · exact absurd ‹_› hbus
    · rfl
  case pick =>
    intro c ext int
    refine ⟨dmaPick_undefined rfl rfl, fun e i hext hint => ?_⟩
    intro seg d hknown hseg
    exact ⟨dmaPick_aligned hext hint hknown hseg, dmaPick_misaligned hext hint hknown hseg⟩
  case eot =>
    intro c
    rw [← BitVec.twoPow_eq]
    rfl

end Sys2Proof.Machine
end
